-- ==== Sys2Proof/Word.lean ====
section
/-! DEFINITION. The word types of the vault: register words, lines, slots, and the sparse finite map that holds every
large piece of state as plain data (R4, R6, and the Scope chapter's terms of quantity). -/
namespace Sys2Proof

/-- A register: 64 bits wide (Scope and conventions, Registers). -/
abbrev Word := BitVec 64

/-- A line is 64 bytes; byte b is bits [8b+7:8b], so multi-byte fields are little-endian (R4). -/
abbrev Line := BitVec 512
/-- The image key of R176: 64 bytes, byte 0 lowest. -/
abbrev ImageKey := BitVec 512

/-- A link slot of 16 bytes, with bits [7:0] in byte 0 (R23, R32). -/
abbrev Slot128 := BitVec 128

/-- A finite map from numbers, as plain data: keys strictly rising, no entry equal to the default. -/
abbrev Sparse (α : Type) := List (Nat × α)

end Sys2Proof
end

