-- ==== Sys2Proof/Syntax.lean ====
section
/-! DEFINITION. The commands: one constructor of `Instr` per row of spec/opcode_table.json, with the row's operands as the
sender supplies them, and the types of those operands. -/
namespace Sys2Proof

/-- Who accesses a register page: the management core, the host over PCIe, another vault over the ring (R372, R378). -/
inductive Requester where
  | core | pcie | ring
  deriving DecidableEq, Repr

/-- The power-good pins of R390. -/
inductive PgPin where
  | mr | pcie | core | dram | flash
  deriving DecidableEq, Repr

/-- The PLLs with a CLK fault source (R365), and the quadrant PLLs, which CLK_STAT and CLK_LOCK_LOSS show (R367). -/
inductive Pll where
  | core | serdes | mgt | ring | pcie
  | quad (q : Fin 4)
  deriving DecidableEq, Repr

/-- The two pack ports (Energy packs and measurement). -/
inductive PackId where
  | a | b
  deriving DecidableEq, Repr

/-- The two ring ports (R294). -/
inductive RingPort where
  | east | west
  deriving DecidableEq, Repr

/-- The means of a pack port's samples since the last update (R224): terminal voltage in uV, current in uA (discharge
positive), temperature in 1/16 degree C, and the time since the last update in us. -/
structure PackSample where
  v : Int
  i : Int
  t : Int
  dt : Nat
  deriving DecidableEq, Repr

/-- How an authentication attempt ended: with the answer read from the pack, byte 0 lowest, or without one (R233). -/
inductive AuthOutcome where
  | answer (r : BitVec 128)
  | timeout | smbusError
  deriving DecidableEq, Repr

/-- The fields of a Boulevard request header other than OPC, which the command names (R32). -/
structure ReqHdr where
  crc : BitVec 16
  rsvd : BitVec 16
  sub : BitVec 4
  epoch : BitVec 2
  hint : BitVec 1
  count : BitVec 6
  addr : BitVec 36
  tenant : BitVec 16
  tag : BitVec 16
  port : BitVec 10
  deriving DecidableEq, Repr

/-- The fields of a Passage message header other than TYPE, which the command names (R113). -/
structure PsgHdr where
  crc : BitVec 16
  rsvdHi : BitVec 16
  mseq : BitVec 32
  arg : BitVec 4
  line : BitVec 32
  count : BitVec 6
  win : BitVec 12
  rsvdLo : BitVec 6
  deriving DecidableEq, Repr

/-- A received flit of 268 bytes as FEC decoding hands it over (R23): whether FEC decoded it, how many codewords it corrected,
SLOT_MAP, LINK_HDR, the sixteen slots and FLIT_CRC. -/
structure Flit where
  fecOk : Bool
  fecCorr : Nat
  slotMap : BitVec 32
  linkHdr : BitVec 32
  slots : List Slot128
  crc : BitVec 32
  deriving DecidableEq, Repr

/-- What the ECC decoder finds in the line it reads, with the count of symbols in error (R95, R96): no error, an error it corrects,
one it cannot, or one of the two escapes of R95 (miscorrected data counted as corrected, or a wrong codeword returned
unflagged). -/
inductive Ecc where
  | clean
  | corrected (symbols : Nat)
  | uncorrectable (symbols : Nat)
  | miscorrected (symbols : Nat) (data : Line)
  | undetected (symbols : Nat) (data : Line)
  deriving DecidableEq, Repr

/-- What a flash page read finds (R166): for each decode the codewords it corrects, none where it fails; the hard decode, the
read-retry levels in order, the soft decode; and the header read, none where it is the one programmed. -/
structure FlashRead where
  hard : Option Nat
  levels : List (Option Nat)
  soft : Option Nat
  header : Option (BitVec 768)
  deriving DecidableEq, Repr

/-- Where an error in the SRAM of IMG lies (R177, R195): in the bitmap, from unit `first` on, in the directory, or one that was
corrected. -/
inductive ImgSramErr where
  | bitmap (first : Nat)
  | directory
  | corrected
  deriving DecidableEq, Repr

/-- A routine fault that the sequencer hardware detects outside an instruction of its own (R253). -/
inductive SeqCause where
  | csUncorr | illegal | scratch | regErr
  deriving DecidableEq, Repr

/-- The fields of a microword other than OPC, which the command names (R247). -/
structure Micro where
  cond : BitVec 4
  rd : BitVec 4
  ra : BitVec 4
  rb : BitVec 4
  rc : BitVec 4
  mod : BitVec 6
  target : BitVec 14
  imm : Word
  deriving DecidableEq, Repr

/-- A Talkai frame's addressing and header other than TYPE, with the outcome of its frame check (R297). -/
structure FrameHdr where
  fcsOk : Bool
  etype : BitVec 16
  wrapped : Bool
  resend : Bool
  hops : BitVec 16
  seq : BitVec 32
  origin : Word
  dest : Word
  podId : BitVec 32
  incarn : BitVec 16
  deriving DecidableEq, Repr

/-- HELLO (R298): the neighbour's state, its ring master, WRAPPED of the shared hop, FWD_OK, and whether it says that a
neighbour of its own is parked. -/
structure HelloBody where
  state : BitVec 4
  master : Word
  wrappedPort : Bool
  fwdOk : Bool
  neighParked : Bool
  deriving DecidableEq, Repr

/-- SYNC (R298): origin time in ns, correction and closure term in ps, member count, Census number; `residence` is what this
vault's own residence adds, in ps (R313). -/
structure SyncBody where
  t0 : Word
  corr : Int
  closure : Int
  n : BitVec 16
  census : BitVec 32
  residence : Int
  deriving DecidableEq, Repr

/-- One registry entry of 32 bytes (R309). -/
structure RegEntry where
  vaultId : Word
  partnerId : Word
  g : Word
  t : BitVec 32
  state : BitVec 8
  flags : BitVec 8
  hop : BitVec 16
  deriving DecidableEq, Repr

/-- RDV (R298, R323): the sender's pod time and its age, the registry entries it carries, and the vaults it has missed three
times in a row, each with whether it stands on that vault's East side (R325). -/
structure RdvBody where
  sender : Word
  podTime : Word
  age : Nat
  entries : List RegEntry
  missed : List (Word × Bool)
  deriving DecidableEq, Repr

/-- One operation of a management group (R379). -/
structure MgmtOp where
  addr : BitVec 32
  op : BitVec 8
  data : Word
  deriving DecidableEq, Repr

/-- A management request or response payload (R379). -/
structure MgmtGroup where
  rtag : BitVec 16
  count : BitVec 8
  ops : List MgmtOp
  deriving DecidableEq, Repr

/-- The commands, one constructor per row of the table. -/
inductive Instr where
  /-- POWER_GOOD (R390). -/
  | powerGood
  /-- PG_TIMEOUT (R390). -/
  | pgTimeout (pin : PgPin)
  /-- POWER_UP_RETRY (R390). -/
  | powerUpRetry
  /-- LOGIC_RAIL_FALL (R391). -/
  | logicRailFall (pin : PgPin)
  /-- XTAL_STOP (R365). -/
  | xtalStop
  /-- XTAL_SWITCH (R397). -/
  | xtalSwitch (stable : Bool)
  /-- PLL_LOCK_LOSS (R365). -/
  | pllLockLoss (pll : Pll)
  /-- PCIE_RESET (R353). -/
  | pcieReset
  /-- TEST_LOGIC_RESET (R353). -/
  | testLogicReset
  /-- WARM_RESET (R352). -/
  | warmReset (q : Requester)
  /-- SYS_RST_N_LOW (R352). -/
  | sysRstNLow
  /-- HELD_RESET_TAKEN (R16). -/
  | heldResetTaken
  /-- WARM_RESET_EFFECT (R357). -/
  | warmResetEffect (drainNs : Nat)
  /-- FENCED_RESET (R390). -/
  | fencedReset
  /-- BOOT_DONE (R360). -/
  | bootDone (q : Requester)
  /-- JOIN_LATE (R359). -/
  | joinLate
  /-- REG_WAIT_EXPIRE (R361). -/
  | regWaitExpire
  /-- JOIN_WAIT_EXPIRE (R205). -/
  | joinWaitExpire
  /-- BKUP_REARM (R138). -/
  | bkupRearm
  /-- MAIN_LOSS_DECLARE (R139). -/
  | mainLossDeclare
  /-- MAIN_RETURN_QUALIFY (R140). -/
  | mainReturnQualify
  /-- SENSE_ERROR (R141). -/
  | senseError
  /-- PWR_SENSE_WRITE (R141). -/
  | pwrSenseWrite (q : Requester) (v : Word)
  /-- SPEC_COPY_START (R143). -/
  | specCopyStart
  /-- RIDE_WINDOW_EXPIRE (R150). -/
  | rideWindowExpire
  /-- DUMP_DRAIN_DONE (R150). -/
  | dumpDrainDone
  /-- CHECKPOINT (R147). -/
  | checkpoint (q : Requester)
  /-- ABORT (R158). -/
  | abort (q : Requester)
  /-- DUMP_HOLD_END (R202). -/
  | dumpHoldEnd
  /-- ESTIMATOR_UPDATE (R224). -/
  | estimatorUpdate (a b : PackSample)
  /-- IMPEDANCE_BURST_DONE (R225). -/
  | impedanceBurstDone (p : PackId) (v0 i0 v i t : Int) (moved : Bool)
  /-- ADC_AUTO_ZERO (R222). -/
  | adcAutoZero (p : PackId) (ok : Bool)
  /-- PACK_REMOVAL (R235). -/
  | packRemoval (p : PackId)
  /-- PACK_INSERTION (R236). -/
  | packInsertion (p : PackId) (v : Int)
  /-- AUTH (R233). -/
  | auth (q : Requester) (p : PackId)
  /-- AUTH_PERIODIC (R233). -/
  | authPeriodic (p : PackId)
  /-- AUTH_ATTEMPT_END (R233). -/
  | authAttemptEnd (p : PackId) (id : Option Word) (o : AuthOutcome)
  /-- LEARN (R229). -/
  | learn (q : Requester) (p : PackId)
  /-- LEARN_STOP (R231). -/
  | learnStop (q : Requester) (p : PackId)
  /-- LEARN_CHARGE_END (R230). -/
  | learnChargeEnd (p : PackId) (terminated : Bool)
  /-- LEARN_REST_END (R230). -/
  | learnRestEnd (p : PackId)
  /-- LEARN_DISCHARGE_END (R230). -/
  | learnDischargeEnd (p : PackId) (i t : Int)
  /-- CHARGER_WRITE (R232). -/
  | chargerWrite (p : PackId) (ok : Bool)
  /-- CHARGE_FAULT (R232). -/
  | chargeFault (p : PackId)
  /-- SHIP (R238). -/
  | ship (q : Requester)
  /-- PAGE_LOCK_WRITE (R374). -/
  | pageLockWrite (q : Requester) (pg : Nat) (v : Word)
  /-- RD (R37). -/
  | rd (link : Fin 8) (h : ReqHdr)
  /-- WR (R37). -/
  | wr (link : Fin 8) (h : ReqHdr) (data : List Slot128)
  /-- WRD (R37). -/
  | wrd (link : Fin 8) (h : ReqHdr) (data : List Slot128)
  /-- ADD64 (R38). -/
  | add64 (link : Fin 8) (h : ReqHdr) (data : List Slot128)
  /-- ADDPAIR (R38). -/
  | addpair (link : Fin 8) (h : ReqHdr) (data : List Slot128)
  /-- CAS64 (R38). -/
  | cas64 (link : Fin 8) (h : ReqHdr) (data : List Slot128)
  /-- CAS128 (R38). -/
  | cas128 (link : Fin 8) (h : ReqHdr) (data : List Slot128)
  /-- EXM (R40). -/
  | exm (link : Fin 8) (h : ReqHdr) (data : List Slot128)
  /-- EXI (R40). -/
  | exi (link : Fin 8) (h : ReqHdr) (data : List Slot128)
  /-- EXD (R40). -/
  | exd (link : Fin 8) (h : ReqHdr) (data : List Slot128)
  /-- FENCE (R51). -/
  | fence (link : Fin 8) (h : ReqHdr)
  /-- FLIT_RECEIVE (R25). -/
  | flitReceive (link : Fin 9) (f : Flit)
  /-- NAK_RECEIVE (R25). -/
  | nakReceive (link : Fin 9) (ack : BitVec 12)
  /-- CREDIT (R27). -/
  | credit (link : Fin 9) (slots : BitVec 16)
  /-- CANCEL (R52). -/
  | cancel (link : Fin 8) (port : BitVec 10) (tag : BitVec 16)
  /-- LINK_TRAIN (R21). -/
  | linkTrain (q : Requester) (link : Fin 9)
  /-- LINK_UP (R21). -/
  | linkUp (link : Fin 9)
  /-- LANE_FAIL (R22). -/
  | laneFail (link : Fin 9) (lane : Fin 16)
  /-- CDR_LOCK_LOSS (R26). -/
  | cdrLockLoss (link : Fin 9)
  /-- PORT_CFG_WRITE (R57). -/
  | portCfgWrite (q : Requester) (link : Fin 8) (v : Word)
  /-- BOUND_WRITE (R79). -/
  | boundWrite (q : Requester) (v : Word)
  /-- POOL_CFG_WRITE (R72). -/
  | poolCfgWrite (q : Requester) (v : Word)
  /-- POOL_BURST_WRITE (R72). -/
  | poolBurstWrite (q : Requester) (v : Word)
  /-- POOL_REFILL (R72). -/
  | poolRefill
  /-- BIN_BOUNDARY (R77). -/
  | binBoundary
  /-- RESERVE_FOLLOW (R399). -/
  | reserveFollow
  /-- PLAZA_GRANT (R76). -/
  | plazaGrant (output inter : Fin 32)
  /-- PLAZA_CANCEL (R78). -/
  | plazaCancel (client seq : Nat)
  /-- ZON_WIN_COMMIT (R75). -/
  | zonWinCommit (q : Requester)
  /-- ZON_WIN_READ (R81). -/
  | zonWinRead (q : Requester)
  /-- DRC_MAP_WRITE (R86). -/
  | drcMapWrite (q : Requester) (quad : Fin 4) (v : Word)
  /-- COMMAND_SLOT (R87). -/
  | commandSlot (sub : Fin 32) (eccs : List Ecc)
  /-- REFRESH_DUE (R67). -/
  | refreshDue (sub : Fin 32)
  /-- REF_LATE (R89). -/
  | refLate (sub : Fin 32)
  /-- MR4_READ (R90). -/
  | mr4Read (quad : Fin 4) (temps : List Int)
  /-- RATE_CHANGE_EFFECT (R91). -/
  | rateChangeEffect (quad : Fin 4)
  /-- ZQ_LATCH (R94). -/
  | zqLatch (sub : Fin 32)
  /-- DQS_OSC_READ (R100). -/
  | dqsOscRead (sub : Fin 32) (drift : Int)
  /-- PATROL_SCRUB_STEP (R98). -/
  | patrolScrubStep (sub : Fin 32) (ecc : Ecc)
  /-- PHY_LOCK_LOSS (R108). -/
  | phyLockLoss (sub : Fin 32)
  /-- STEP_REQ (R101). -/
  | stepReq (q : Requester) (quad : Fin 4)
  /-- FREQ_STEP_START (R101). -/
  | freqStepStart (quad : Fin 4)
  /-- FREQ_STEP_RESUME (R101). -/
  | freqStepResume (quad : Fin 4)
  /-- STEP_FAIL (R101). -/
  | stepFail (quad : Fin 4)
  /-- SUBCHANNEL_OFFLINE (R105). -/
  | subchannelOffline (q : Requester) (sub : Fin 32) (estMs : BitVec 16)
  /-- SUBCHANNEL_READY (R105). -/
  | subchannelReady (sub : Fin 32)
  /-- SUBCHANNEL_ONLINE (R107). -/
  | subchannelOnline (q : Requester) (sub : Fin 32) (estMs : BitVec 16)
  /-- CS_SAMPLING (R99). -/
  | csSampling (q : Requester) (sub : Fin 32)
  /-- CA_SAMPLING (R99). -/
  | caSampling (q : Requester) (sub : Fin 32)
  /-- WRITE_LEVELLING (R99). -/
  | writeLevelling (q : Requester) (sub : Fin 32)
  /-- READ_GATE (R99). -/
  | readGate (q : Requester) (sub : Fin 32)
  /-- READ_EYE (R99). -/
  | readEye (q : Requester) (sub : Fin 32)
  /-- WRITE_EYE (R99). -/
  | writeEye (q : Requester) (sub : Fin 32)
  /-- READ_VREF_POINT (R99). -/
  | readVrefPoint (q : Requester) (sub : Fin 32)
  /-- WRITE_VREF_POINT (R99). -/
  | writeVrefPoint (q : Requester) (sub : Fin 32)
  /-- TRAIN_ACTION_DONE (R99). -/
  | trainActionDone (sub : Fin 32) (pass : BitVec 45) (finalSweep : Bool)
  /-- MARK (R100). -/
  | mark (q : Requester) (sub : Fin 32) (sets : BitVec 2)
  /-- DEV_RESET (R110). -/
  | devReset (q : Requester) (sub : Fin 32)
  /-- DRP_DLY_WRITE (R111). -/
  | drpDlyWrite (q : Requester) (sub : Fin 32) (v : Word)
  /-- PHY_LOCKED (R110). -/
  | phyLocked (sub : Fin 32)
  /-- MIRROR (R117). -/
  | mirror (h : PsgHdr) (data : List Slot128)
  /-- MIRROR_ACK (R116). -/
  | mirrorAck (h : PsgHdr)
  /-- STREAM (R126). -/
  | stream (h : PsgHdr) (data : List Slot128)
  /-- STREAM_END (R126). -/
  | streamEnd (h : PsgHdr)
  /-- OWN_REQ (R121). -/
  | ownReq (h : PsgHdr)
  /-- OWN_GIVER_FLIP (R121). -/
  | ownGiverFlip
  /-- OWN_GRANT (R121). -/
  | ownGrant (h : PsgHdr)
  /-- OWN_DONE (R121). -/
  | ownDone (h : PsgHdr)
  /-- DIGEST (R128). -/
  | digest (h : PsgHdr) (data : List Slot128)
  /-- DIGEST_RESULT (R128). -/
  | digestResult (h : PsgHdr)
  /-- SCRUB_RECHECK (R128). -/
  | scrubRecheck (unit : Nat)
  /-- REPAIR (R128). -/
  | repair (h : PsgHdr) (data : List Slot128)
  /-- FETCH (R129). -/
  | fetch (h : PsgHdr)
  /-- FETCH_DATA (R129). -/
  | fetchData (h : PsgHdr) (data : List Slot128)
  /-- NOTICE (R124). -/
  | notice (h : PsgHdr)
  /-- RESYNC_STREAM_START (R132). -/
  | resyncStreamStart
  /-- GEN (R130). -/
  | gen (h : PsgHdr) (data : List Slot128)
  /-- OWNSUM (R123). -/
  | ownsum (h : PsgHdr) (data : List Slot128)
  /-- OWNSUM_SEND (R123). -/
  | ownsumSend
  /-- OWN_HANDSHAKE_GO (R121). -/
  | ownHandshakeGo (q : Requester)
  /-- FORCE (R124). -/
  | force (q : Requester)
  /-- FWD_END (R133). -/
  | fwdEnd (q : Requester)
  /-- BOOT_SCAN (R185). -/
  | bootScan (q : Requester)
  /-- BOOT_SCAN_DONE (R186). -/
  | bootScanDone (unread : List (Fin 32))
  /-- FORMAT (R185). -/
  | format (q : Requester)
  /-- RESHAPE (R191). -/
  | reshape (q : Requester)
  /-- GC_RECLAIM (R192). -/
  | gcReclaim (block : Nat)
  /-- WEAR_RELOCATE (R193). -/
  | wearRelocate
  /-- FLASH_PROGRAM_DONE (R167). -/
  | flashProgramDone (ch : Fin 32) (stripe : BitVec 32) (ok : Bool)
  /-- FLASH_ERASE_DONE (R167). -/
  | flashEraseDone (ch : Fin 32) (block : Nat) (ok : Bool)
  /-- FLASH_READ_DONE (R166). -/
  | flashReadDone (ch : Fin 32) (stripe : BitVec 32) (o : FlashRead)
  /-- FLASH_CMD_TIMEOUT (R168). -/
  | flashCmdTimeout (ch : Fin 32)
  /-- RETIRE (R168). -/
  | retire (q : Requester) (ch : Fin 32)
  /-- FLASH_TRAIN (R199). -/
  | flashTrain (q : Requester) (ch : Fin 32) (ok : Bool)
  /-- CHANNEL_RETURN (R347). -/
  | channelReturn (q : Requester) (ch : Fin 32) (ok : Bool)
  /-- ARCADE_PLL_LOSS (R168). -/
  | arcadePllLoss (a : Fin 4)
  /-- SELFTEST (R197). -/
  | selftest (q : Requester) (ok : Bool)
  /-- IMG_SRAM_ERROR (R177): the error, and of bitmap words how many units they hold. -/
  | imgSramError (e : ImgSramErr) (count : Nat)
  /-- COMMIT_COPY1_DONE (R183). -/
  | commitCopy1Done (verified : Bool)
  /-- COMMIT_COPY2_DONE (R183). -/
  | commitCopy2Done
  /-- UNIT_RESTORED (R207). -/
  | unitRestored (unit : Nat)
  /-- LOST_WAIT_EXPIRE (R214). -/
  | lostWaitExpire
  /-- APPLY (R215). -/
  | apply (q : Requester)
  /-- RLOG_INDEX_LOAD (R219). -/
  | rlogIndexLoad (q : Requester) (index : BitVec 14)
  /-- RECON_DONE (R216). -/
  | reconDone (q : Requester)
  /-- RECON_ABANDON (R216). -/
  | reconAbandon (q : Requester)
  /-- ROUTINE_START (R244). -/
  | routineStart (ctx : Fin 4)
  /-- NOP (R249). -/
  | seqNop (ctx : Fin 4) (m : Micro)
  /-- MOV (R249). -/
  | seqMov (ctx : Fin 4) (m : Micro)
  /-- ADD (R248). -/
  | seqAdd (ctx : Fin 4) (m : Micro)
  /-- SUB (R248). -/
  | seqSub (ctx : Fin 4) (m : Micro)
  /-- AND (R249). -/
  | seqAnd (ctx : Fin 4) (m : Micro)
  /-- OR (R249). -/
  | seqOr (ctx : Fin 4) (m : Micro)
  /-- XOR (R249). -/
  | seqXor (ctx : Fin 4) (m : Micro)
  /-- SHL (R249). -/
  | seqShl (ctx : Fin 4) (m : Micro)
  /-- SHR (R249). -/
  | seqShr (ctx : Fin 4) (m : Micro)
  /-- CMP (R248). -/
  | seqCmp (ctx : Fin 4) (m : Micro)
  /-- BR (R249). -/
  | seqBr (ctx : Fin 4) (m : Micro)
  /-- CALL (R249). -/
  | seqCall (ctx : Fin 4) (m : Micro)
  /-- RET (R249). -/
  | seqRet (ctx : Fin 4) (m : Micro)
  /-- LDS (R249). -/
  | seqLds (ctx : Fin 4) (m : Micro)
  /-- STS (R249). -/
  | seqSts (ctx : Fin 4) (m : Micro)
  /-- LDL (R249). -/
  | seqLdl (ctx : Fin 4) (m : Micro)
  /-- TIME (R249). -/
  | seqTime (ctx : Fin 4) (m : Micro)
  /-- MAP (R249). -/
  | seqMap (ctx : Fin 4) (m : Micro)
  /-- FINDD (R249). -/
  | seqFindd (ctx : Fin 4) (m : Micro)
  /-- FINDR (R249). -/
  | seqFindr (ctx : Fin 4) (m : Micro)
  /-- COPY_DRAM_TO_IMAGE (R250). -/
  | copyDramToImage (ctx : Fin 4) (m : Micro)
  /-- COPY_IMAGE_TO_DRAM (R250). -/
  | copyImageToDram (ctx : Fin 4) (m : Micro)
  /-- COPY_DRAM_TO_PASSAGE (R250). -/
  | copyDramToPassage (ctx : Fin 4) (m : Micro)
  /-- COPY_DRAM_TO_DRAM (R250). -/
  | copyDramToDram (ctx : Fin 4) (m : Micro)
  /-- COPY_IMAGE_TO_IMAGE (R250). -/
  | copyImageToImage (ctx : Fin 4) (m : Micro)
  /-- COPY_ZERO_TO_DRAM (R250). -/
  | copyZeroToDram (ctx : Fin 4) (m : Micro)
  /-- SCATTER (R249). -/
  | seqScatter (ctx : Fin 4) (m : Micro)
  /-- SEQ_DIGEST (R249). -/
  | seqDigest (ctx : Fin 4) (m : Micro)
  /-- LEDGER (R249). -/
  | seqLedger (ctx : Fin 4) (m : Micro)
  /-- CLOSE (R249). -/
  | seqClose (ctx : Fin 4) (m : Micro)
  /-- RECORD_OPEN (R249). -/
  | recordOpen (ctx : Fin 4) (m : Micro)
  /-- RECORD_INTENT (R187). -/
  | recordIntent (ctx : Fin 4) (m : Micro)
  /-- RECORD_VOID (R187). -/
  | recordVoid (ctx : Fin 4) (m : Micro)
  /-- COMMIT (R255). -/
  | seqCommit (ctx : Fin 4) (m : Micro)
  /-- MSG (R249). -/
  | seqMsg (ctx : Fin 4) (m : Micro)
  /-- WAITE (R249). -/
  | seqWaite (ctx : Fin 4) (m : Micro)
  /-- EVT (R249). -/
  | seqEvt (ctx : Fin 4) (m : Micro)
  /-- HOOK (R263). -/
  | seqHook (ctx : Fin 4) (m : Micro)
  /-- RETH (R263). -/
  | seqReth (ctx : Fin 4) (m : Micro)
  /-- RETI (R252). -/
  | seqReti (ctx : Fin 4) (m : Micro)
  /-- END (R249). -/
  | seqEnd (ctx : Fin 4) (m : Micro)
  /-- DUMP_EVENT (R251). -/
  | dumpEvent
  /-- RETURN_EVENT (R251). -/
  | returnEvent
  /-- LOSS_EVENT (R251). -/
  | lossEvent
  /-- ABORT_EVENT (R251). -/
  | abortEvent
  /-- PAUSE_EVENT (R251). -/
  | pauseEvent (ctx : Fin 4)
  /-- RESUME_EVENT (R251). -/
  | resumeEvent (ctx : Fin 4)
  /-- LEAVE_EVENT (R251). -/
  | leaveEvent (ctx : Fin 4)
  /-- TICK_EVENT (R251). -/
  | tickEvent (ctx : Fin 4)
  /-- DOORBELL (R251). -/
  | doorbell (q : Requester) (ctx : Fin 4)
  /-- MSGIN (R251). -/
  | msgin
  /-- SEQ_FAULT (R253). -/
  | seqFault (ctx : Fin 4) (cause : SeqCause)
  /-- WATCHDOG (R257). -/
  | watchdog (ctx : Fin 4)
  /-- POST_COMMIT_TIMEOUT (R256). -/
  | postCommitTimeout (ctx : Fin 4)
  /-- CONTEXT_STOP (R266). -/
  | contextStop (q : Requester) (ctx : Fin 4)
  /-- SWITCH (R258). -/
  | bankSwitch (q : Requester)
  /-- CHECK (R259). -/
  | bankCheck (q : Requester)
  /-- CUSTOMER_START (R264). -/
  | customerStart (q : Requester)
  /-- CKPT_POLL (R262). -/
  | ckptPoll
  /-- CS_INDEX_WRITE (R267). -/
  | csIndexWrite (q : Requester) (v : Word)
  /-- CS_WORD_WRITE (R267). -/
  | csWordWrite (q : Requester) (v : Word)
  /-- TABLE_LOAD (R273). -/
  | tableLoad (q : Requester)
  /-- TABLE_LOAD_END (R273). -/
  | tableLoadEnd (lines : List Line) (pcieError : Bool)
  /-- CORE_RESTART (R278). -/
  | coreRestart (q : Requester)
  /-- BOOT_OK (R277). -/
  | bootOk (q : Requester)
  /-- BOOT_WDOG_EXPIRE (R277). -/
  | bootWdogExpire
  /-- CORE_INTERRUPT (R271). -/
  | coreInterrupt
  /-- LOW_HALF_STORE (R270). -/
  | lowHalfStore (q : Requester) (addr : Nat) (v : BitVec 32)
  /-- HIGH_HALF_STORE (R270). -/
  | highHalfStore (q : Requester) (addr : Nat) (v : BitVec 32)
  /-- LOW_HALF_LOAD (R270). -/
  | lowHalfLoad (q : Requester) (addr : Nat)
  /-- NVC_KEY_WRITE (R280). -/
  | nvcKeyWrite (q : Requester) (v : BitVec 32)
  /-- LOCK (R280). -/
  | nvcLock (q : Requester)
  /-- PROGRAM (R282). -/
  | nvcProgram (q : Requester)
  /-- SECTOR_ERASE (R282). -/
  | nvcSectorErase (q : Requester)
  /-- READ (R281). -/
  | nvcRead (q : Requester)
  /-- BLANK_CHECK (R281). -/
  | nvcBlankCheck (q : Requester)
  /-- SET_BOOT (R281). -/
  | nvcSetBoot (q : Requester)
  /-- SET_LEVEL (R289). -/
  | nvcSetLevel (q : Requester)
  /-- KEY_PROGRAM (R290). -/
  | nvcKeyProgram (q : Requester)
  /-- NVC_DATA_WRITE (R281). -/
  | nvcDataWrite (q : Requester) (v : Word)
  /-- NVC_OP_DONE (R282). -/
  | nvcOpDone (ok : Bool) (pulses : BitVec 4)
  /-- SUSPEND (R284). -/
  | nvcSuspend (q : Requester)
  /-- RESUME (R284). -/
  | nvcResume (q : Requester)
  /-- ERASE_STARVED (R285). -/
  | eraseStarved
  /-- PUMP_GUARD_TRIP (R287). -/
  | pumpGuardTrip
  /-- PUMP_GUARD_RELEASE (R287). -/
  | pumpGuardRelease
  /-- HELLO (R306). -/
  | hello (p : RingPort) (f : FrameHdr) (b : HelloBody)
  /-- HELLO_SEND (R298). -/
  | helloSend (p : RingPort)
  /-- HELLO_TIMEOUT (R306). -/
  | helloTimeout (p : RingPort)
  /-- PORT_LOS (R306). -/
  | portLos (p : RingPort)
  /-- UNWRAP (R306). -/
  | unwrap (p : RingPort)
  /-- PDELAY_REQ (R313). -/
  | pdelayReq (p : RingPort) (f : FrameHdr) (t1 t2 t3 : Nat)
  /-- PDELAY_RESP (R313). -/
  | pdelayResp (p : RingPort) (f : FrameHdr) (t1 t2 t3 t4 : Int)
  /-- SYNC_SEND (R313). -/
  | syncSend
  /-- SYNC (R313). -/
  | sync (p : RingPort) (f : FrameHdr) (b : SyncBody)
  /-- SYNC_HOLDOVER (R313). -/
  | syncHoldover
  /-- PORT_STABLE (R302). -/
  | portStable
  /-- DISCOVER (R302). -/
  | discover (p : RingPort) (f : FrameHdr) (lowest : Word) (count : BitVec 16)
  /-- DISCOVER_TIMEOUT (R302). -/
  | discoverTimeout
  /-- ELECT (R303). -/
  | elect (p : RingPort) (f : FrameHdr) (master : Word) (n hop : BitVec 16)
  /-- CONFIRM (R303). -/
  | confirm (p : RingPort) (f : FrameHdr) (master : Word)
  /-- BEACON_SEND (R304). -/
  | beaconSend
  /-- BEACON (R304). -/
  | beacon (p : RingPort) (f : FrameHdr) (id : Word) (podTime : Word)
  /-- LOST (R307). -/
  | lost (p : RingPort) (f : FrameHdr) (lostId : Word) (senderEast : Bool)
  /-- REG (R310). -/
  | reg (p : RingPort) (f : FrameHdr) (e : RegEntry)
  /-- REG_REFRESH (R310). -/
  | regRefresh
  /-- SQUARE_RING_CHECK (R311). -/
  | squareRingCheck
  /-- REFORM (R305). -/
  | reform (q : Requester)
  /-- TIME_SET (R312). -/
  | timeSet (q : Requester) (v : Word)
  /-- TX_DESCRIPTOR_GO (R301). -/
  | txDescriptorGo (q : Requester) (v : Word)
  /-- TX_CANCEL (R301). -/
  | txCancel (q : Requester)
  /-- TX_GRANT (R301). -/
  | txGrant (d : Fin 16)
  /-- WRAP_FORCE_WRITE (R348). -/
  | wrapForceWrite (q : Requester) (p : RingPort) (v : Word)
  /-- ARM (R315). -/
  | arm (q : Requester)
  /-- CEN_ARM_REBROADCAST (R315). -/
  | cenArmRebroadcast
  /-- CEN_ARM (R317). -/
  | cenArm (p : RingPort) (f : FrameHdr) (c : BitVec 32) (t : Word)
  /-- CENSUS_CUT (R318). -/
  | censusCut
  /-- CENSUS_PASS_START (R320). -/
  | censusPassStart
  /-- CEN_DONE (R321). -/
  | cenDone (p : RingPort) (f : FrameHdr) (c : BitVec 32) (result : BitVec 4) (units : BitVec 32)
  /-- CEN_REPORT_TIMEOUT (R321). -/
  | cenReportTimeout
  /-- RELEASE (R322). -/
  | cenRelease (q : Requester)
  /-- MGMT_REQ (R381). -/
  | mgmtReq (p : RingPort) (f : FrameHdr) (g : MgmtGroup)
  /-- MGMT_RESP (R381). -/
  | mgmtResp (p : RingPort) (f : FrameHdr) (g : MgmtGroup)
  /-- RENDEZVOUS_WAKE (R323). -/
  | rendezvousWake
  /-- RDV_SEND (R323). -/
  | rdvSend (p : RingPort)
  /-- RDV (R323). -/
  | rdv (p : RingPort) (f : FrameHdr) (b : RdvBody)
  /-- RENDEZVOUS_END (R323). -/
  | rendezvousEnd
  /-- LISTEN_END (R325). -/
  | listenEnd (p : RingPort)
  /-- FLT_FORCE_WRITE (R333). -/
  | fltForceWrite (q : Requester) (pg : Nat) (v : Word)
  /-- FLT_STICKY_CLEAR (R339). -/
  | fltStickyClear (q : Requester) (pg : Nat) (v : Word)
  /-- FLT_CLASS_WRITE (R335). -/
  | fltClassWrite (q : Requester) (pg : Nat) (v : Word)
  /-- GRACE_EXPIRE (R339). -/
  | graceExpire (src : Nat)
  /-- FENCE_NOW (R349). -/
  | fenceNow (q : Requester)
  /-- SEAL_NOW (R349). -/
  | sealNow (q : Requester)
  /-- ISOLATED (R344). -/
  | isolated
  /-- INJECTION_ARM_WRITE (R351). -/
  | injectionArmWrite (q : Requester) (timeReg : Bool) (v : Word)
  /-- INJECTION_FIRE (R351). -/
  | injectionFire
  /-- PAGE_ENABLE (R375). -/
  | pageEnable (q : Requester) (pg : Nat) (v : Word)
  /-- BLOCK_RESET (R375). -/
  | blockReset (q : Requester) (pg : Nat) (v : Word)
  /-- BLOCK_RESET_DONE (R375). -/
  | blockResetDone (pg : Nat)
  /-- QUIESCE (R375). -/
  | quiesce (q : Requester) (pg : Nat) (v : Word)
  /-- INDEX_WRITE (R378). -/
  | indexWrite (q : Requester) (pg off : Nat) (v : Word)
  /-- READ_CLEAR_ACCESS (R6). -/
  | readClearAccess (q : Requester) (pg off : Nat)
  /-- REGISTER_WRITE (R6). -/
  | registerWrite (q : Requester) (pg off : Nat) (v : Word)
  /-- POWER_ON_RESET_END (R390). -/
  | powerOnResetEnd
  /-- PG_RISE (R390). -/
  | pgRise (pin : PgPin)
  /-- DOMAIN25_SUPPLY_LOSS (R14). -/
  | domain25SupplyLoss
  /-- RING_PORT_LINK_UP (R302). -/
  | ringPortLinkUp (p : RingPort) (rate : BitVec 2)
  /-- SCRUB_PACE (R128). -/
  | scrubPace
  /-- PARKED_NEIGHBOUR_RENDEZVOUS (R308). -/
  | parkedNeighbourRendezvous (p : RingPort) (b : RdvBody)
  deriving DecidableEq, Repr

end Sys2Proof
end

