-- ==== Sys2Proof/Config.lean ====
section
/-! DEFINITION. What an implementation or a manufactured part fixes, and the free values of the model: every constant
here is opaque, so no proof can see a value of it (log 4, DESIGN CHOICE and log 6, DESIGN CHOICE). -/
namespace Sys2Proof.Config

/-- What manufacture draws the two identifiers of the square from. Log 6, DESIGN CHOICE. -/
opaque vaultSeed : Nat
opaque partnerSeed : Nat
/-- The 64-bit vault identifier, fixed at manufacture: any value but 0 and all ones (R9). Log 6, DESIGN CHOICE. -/
def vaultId : Word := BitVec.ofNat 64 (vaultSeed % (2 ^ 64 - 2) + 1)
/-- The identifier of the other vault of the square (R309 PARTNER_ID): another such value (R9); the spec names no source for it.
Log 6, DESIGN CHOICE. -/
def partnerId : Word :=
  let k := partnerSeed % (2 ^ 64 - 3) + 1
  BitVec.ofNat 64 (if k < vaultSeed % (2 ^ 64 - 2) + 1 then k else k + 1)
/-- A fresh free 64-bit value per draw: an unstated value (log 4, DESIGN CHOICE). -/
opaque freeWord : Nat → Word
/-- A fresh free line per draw: an unstated line content (log 4, DESIGN CHOICE). -/
opaque freeLine : Nat → Line
/-- A fresh free number per draw: an unstated count or time (log 4, DESIGN CHOICE). -/
opaque freeNat : Nat → Nat
/-- The longest time a row may stay open, tRAS maximum, in 1/48 ns (R88; the spec gives no value). Log 57, DESIGN CHOICE. -/
opaque trasMax : Nat
/-- The i-th line of the training pattern of a DRP_TRAIN_PAT value, fixed or from the LFSR: the spec gives neither how the 64 bits
lie in a line nor the LFSR's polynomial (R99). Log 57, DESIGN CHOICE. -/
opaque patternLine : Word → Nat → Line
/-- Rounding of an exact estimator value into a register, which the spec does not state (R224 to R228). Log 7, DESIGN CHOICE. -/
opaque roundReg : Rat → Nat
/-- The device key, fused at manufacture (R290). Log 6, DESIGN CHOICE. -/
opaque deviceKey : BitVec 256

/-- The payload bytes of a ring frame type by what it carries, for the types whose payload the spec names and does not lay out
(R298). Log 36, DESIGN CHOICE. -/
opaque payloadBytes : Nat → List Int → List Nat
/-- The content of the boot ROM, by byte offset, which the spec does not give (R269, R277). Log 58, DESIGN CHOICE. -/
opaque bootRom : Nat → BitVec 8

end Sys2Proof.Config
end

