-- ==== Sys2Proof/Machine/State.lean ====
section
/-! DEFINITION. The state of one vault, as plain data: every register (sparse against its reset value), and the state the
spec gives the blocks beside their registers; the reasons a step can stop; the state right after reset. -/
namespace Sys2Proof.Machine

/-- The vault states of R14. -/
inductive VaultState where
  | off | ship | boot | join | serve | ride | dump | alley | restore | culdesac | fenced | sealed
  deriving DecidableEq, Repr

/-- Reasons a command stops the model. -/
inductive Fault where
  /-- A microword, an APPLY, a table load or a Passage message names a DRAM line beyond the installed lines (R83, R85): no such
  line exists (log 31, DESIGN CHOICE). Raised by `withLine` and `withLines` of Machine/Ops.lean. Safe: the model stops where the
  hardware has no defined content. -/
  | noSuchLine (line : Nat)
  deriving DecidableEq, Repr

/-- Refusals. -/
inductive Refusal where
  /-- A row with no meaning yet; raised by Dispatch only. Safe: the model stops. -/
  | notModelled (mnemonic : String)
  deriving DecidableEq, Repr

/-- The always-on pins (R386, R389) and the power-good inputs as last seen (R390, R391). -/
structure Pins where
  kerbHold : Bool
  mainIsoN : Bool
  bkupEn : Bool
  pakEnA : Bool
  pakEnB : Bool
  pakLearnA : Bool
  pakLearnB : Bool
  enMr : Bool
  enPcie : Bool
  enCore : Bool
  enDram : Bool
  enFlash : Bool
  pgMr : Bool
  pgPcie : Bool
  pgCore : Bool
  pgDram : Bool
  pgFlash : Bool
  deriving DecidableEq, Repr

/-- A warm reset whose drain runs (R355): the state it was taken in, and whether the mirror queue was empty (R357). -/
structure Drain where
  from_ : VaultState
  mirrorEmpty : Bool
  deriving DecidableEq, Repr

/-- Power-up and reset bookkeeping of domain 25 (R343, R352, R390, R391). -/
structure ResetSt where
  /-- Domain 25 is supplied and out of power-on reset. -/
  ao : Bool
  /-- OFF was entered from FENCED or SEALED: no enable rises until the supply toggles (R391). -/
  offLatched : Bool
  /-- Every enable was dropped after a missed PG; the retry is due (R390). -/
  retry : Bool
  /-- A fenced reset has been requested (R352). -/
  fencedReq : Bool
  /-- The vault reached BOOT from FENCED (R130). -/
  fromFenced : Bool
  /-- BOOT was entered from ALLEY and its enables are still rising (R200, R390). -/
  raising : Bool
  /-- An XTAL event waits for domain 20 (R397). -/
  xtalHeld : Bool
  drain : Option Drain
  /-- When the vault's own power-good or reset effect fell, the trigger of R359. -/
  bootAt : Nat
  deriving DecidableEq, Repr

/-- A response header's fields with its data (R43). -/
structure Response where
  port : BitVec 10
  tag : BitVec 16
  status : BitVec 4
  hint : BitVec 16
  epoch : BitVec 2
  seq : BitVec 20
  slot : BitVec 3
  swapped : Bool
  bucketFull : Bool
  data : List Slot128
  deriving DecidableEq, Repr

/-- The payload of a ring frame (R298). -/
inductive RingBody where
  | hello (b : HelloBody)
  | nums (l : List Int)
  | reg (e : RegEntry)
  | rdv (b : RdvBody)
  | mgmt (g : MgmtGroup)
  | raw (bytes : List Nat)
  deriving DecidableEq, Repr

/-- A flit as it leaves (R23): SLOT_MAP, LINK_HDR, the sixteen slots and FLIT_CRC. -/
structure TxFlit where
  slotMap : BitVec 32
  linkHdr : BitVec 32
  slots : List Slot128
  crc : BitVec 32
  deriving DecidableEq, Repr

/-- A flit in a replay buffer (R25): its sequence, its slots, and the response whose last slot it carries with the bound that
response has not been counted late against, none once it has been counted (R54, R59). -/
structure SentFlit where
  seq : BitVec 12
  slotMap : BitVec 32
  slots : List Slot128
  resp : Option (Response × Option Nat)
  deriving DecidableEq, Repr

/-- What waits for transmit credit on a Boulevard link (R27): a response with its bound, or a control slot. -/
inductive TxMsg where
  | response (r : Response) (bound : Option Nat)
  | control (d : Slot128)
  deriving DecidableEq, Repr

/-- A Passage message as it is sent: the fields of R113 and the data slots. -/
structure PsgMsg where
  typ : Nat
  mseq : Nat
  arg : Nat
  line : Nat
  count : Nat
  win : Nat
  data : List Slot128
  deriving DecidableEq, Repr

/-- A Passage message received and kept in the receive buffer until the mirror queue has room for it and those before it
(R112, R117): its type, header and data slots, and the receive slots it holds. -/
structure PsgHeld where
  typ : Nat
  hdr : PsgHdr
  data : List Slot128
  slots : Nat
  deriving DecidableEq, Repr

/-- What goes to a flash device on its channel: the commands of R163 that the rules name, with die, block and page. -/
inductive FlashCmd where
  | readId
  | setFeatures (addr value : Nat)
  | slcPrefix (code : Nat)
  | read (die block page : Nat)
  | program (die block page : Nat)
  | erase (die block : Nat)
  | zqCal
  | dccTrain
  | readDqTrain
  | writeDqTrain
  deriving DecidableEq, Repr

/-- What has left the vault, oldest first. -/
inductive Out where
  | flash (ch : Nat) (c : FlashCmd)
  | flit (link : Nat) (f : TxFlit)
  | ringFrame (p : RingPort) (typ : Nat) (f : FrameHdr) (b : RingBody) (bytes : List Nat)
  | mgmtResponse (g : MgmtGroup)
  | msix (source : Nat)
  | coreRestarted
  | smbus (bus : Nat) (cmd : Nat) (value : Nat)
  | readData (q : Requester) (page off : Nat) (v : Word)
  | devReset (sub : Nat)
  | endpointReset
  | testLogicReset
  deriving DecidableEq, Repr

/-- The DRAM work of one booked item (R64, R87): line k of its request read or written, a word or quarter operation, a
bucket operation, a refresh, a refresh management command. -/
inductive Work where
  | read (k : Nat)
  | write (k : Nat) (d : Line)
  | word
  | bucket
  | refresh
  | rfm
  deriving DecidableEq, Repr

/-- Where a booked item stands: queued at an intermediate of the Plaza, granted and held in the resequencing buffer of its
output, or in the queue of its subchannel (R76). -/
inductive Stage where
  | plaza | reseq | queue
  deriving DecidableEq, Repr

/-- One booked item: its subchannel, bank, row and DRAM line, its internal deadline (1/48 ns), its booked cost in Plaza
cycles and the activations booked with it, its page hint, the tag of its request, and its place in the Plaza (R65, R76, R87).
Items are numbered in booking order. -/
structure Item where
  id : Nat
  sub : Nat
  bank : Nat
  row : Nat
  line : Nat
  dl : Nat
  cb : Nat
  ca : Nat
  ck : Nat
  acts : Nat
  hint : Bool
  work : Work
  tag : Option (BitVec 16)
  stage : Stage
  input : Nat
  inter : Nat
  entered : Nat
  urgency : Nat
  deriving DecidableEq, Repr

/-- A request in flight (R30): accepted, its response not sent. Times in 1/48 ns. -/
structure Flight where
  link : Nat
  opc : Nat
  hdr : ReqHdr
  data : List Slot128
  epoch : BitVec 2
  seq : BitVec 20
  arrival : Nat
  deadline : Nat
  win : Nat
  dline : Nat
  n : Nat
  pool : Nat
  /-- Items not yet served. -/
  left : Nat
  status : BitVec 4
  slot : BitVec 3
  swapped : Bool
  full : Bool
  /-- Lines read so far, by index within the request. -/
  lines : Sparse Line
  /-- Data slot a near-memory operation returns. -/
  result : List Slot128
  /-- The mirror sequence number whose acknowledgement the response waits for (R116). -/
  ack : Option Nat
  /-- KEY_W of the window at acceptance (R39, R75). -/
  keyW : Nat
  /-- Forward-all for its writes (R132, R133): 0 none, 1 they are mirrored, 2 the response waits for the last MIRROR too. -/
  fwd : Nat
  deriving DecidableEq, Repr

/-- An internal client's entry in the Plaza (R76, R78): client, client sequence number, the subchannel it leads to, whether
it carries restore writes, its lines (none: poisoned), and where it stands. Clients 0 to 3 are the contexts of the sequencer,
5 is the table loads (log 18, DESIGN CHOICE). -/
structure PlazaEntry where
  client : Nat
  seq : Nat
  output : Nat
  restore : Bool
  lines : List (Nat × Option Line)
  stage : Stage
  input : Nat
  inter : Nat
  entered : Nat
  deriving DecidableEq, Repr

/-- Admission, tenant pools and the Plaza. -/
structure AdmSt where
  flights : List Flight
  items : List Item
  nextId : Nat
  /-- Per port: the deadline of its previous accepted request (R58). -/
  portDl : Sparse Nat
  /-- Per bank (16 x subchannel + bank): booked open row plus one; 0 is closed (R64). -/
  bookedRow : Sparse Nat
  /-- Per bank: projected RAA count (R64). -/
  raaProj : Sparse Nat
  /-- The reserve the DRAM controllers follow, and the changes of the reserve in force they have still to follow, oldest first,
  as (time, reserve) (R399). -/
  serviceReserve : Nat
  resHist : List (Nat × Nat)
  plaza : List PlazaEntry
  /-- Per input: the first Plaza cycle in which it can take a line (R76). -/
  plazaIn : Sparse Nat
  /-- Per output: rotating pointer (R76). -/
  plazaPtr : Sparse Nat
  /-- Client entries a subchannel has served, as (subchannel, client, sequence) (R78). -/
  served : List (Nat × Nat × Nat)
  /-- Per client: the next sequence number of an entry that is no restore write. -/
  intSeq : Sparse Nat
  deriving DecidableEq, Repr

/-- A bitmap over units: a default bit and the units that differ from it, strictly rising. -/
structure Bitmap where
  dflt : Bool
  except : List Nat
  deriving DecidableEq, Repr

/-- DRAM and its controllers. -/
structure DramSt where
  /-- Bytes, by 64 x DRAM line + byte. -/
  cells : List Host.Cell
  /-- Poisoned lines, strictly rising (R97). -/
  poison : List Nat
  frozen : Bool
  /-- Per bank: actual open row plus one (R88). -/
  row : Sparse Nat
  /-- Per bank: when its row was opened plus one; and the row plus one that was closed early and is opened again before the next
  booked hit to it (R88). -/
  rowAt : Sparse Nat
  early : Sparse Nat
  /-- Per bank: actual RAA count (R92). -/
  raa : Sparse Nat
  /-- The 1 us window that runs, and per subchannel the Plaza cycles of service that internal traffic and housekeeping took in
  it, the latter alone beside (R77, R94). -/
  window : Nat
  intUsed : Sparse Nat
  hkUsed : Sparse Nat
  /-- Per subchannel: rotating bank pointer (R87). -/
  ptr : Sparse Nat
  /-- Per subchannel: due time plus one of the next refresh; 0 when no origin is set (R89). -/
  refDue : Sparse Nat
  /-- Per quadrant: start S plus one of an announced step (R101). -/
  stepAt : Sparse Nat
  /-- Per quadrant: 1 when an announced rate change goes to double rate, 2 when it goes to normal rate (R90). -/
  rateTo : Sparse Nat
  /-- Per quadrant: target plus one of the announced or running step (R101). -/
  stepTo : Sparse Nat
  /-- Per subchannel: patrol scrub position (R98). -/
  patrol : Sparse Nat
  /-- Per subchannel: when EST_MS began to run plus one (R105). -/
  offAt : Sparse Nat
  /-- Per subchannel: the resync of the offline content: 1 lines of it came from the partner, 2 the stream behind them ended
  (R107). -/
  resynced : Sparse Nat
  /-- Corrected lines whose write-back is queued, with the corrected content (R96). -/
  writeBack : List (Nat × Line)
  /-- Units that are dirty (R177), restored (R207) or diverged (R125), and the Census copy marks (R320). -/
  dirty : Bitmap
  restored : Bitmap
  diverged : Bitmap
  census : Bitmap
  /-- Lines of capture halves filled with the poison pattern by the Census (R317). -/
  capture : List Nat
  deriving DecidableEq, Repr

/-- One link's receive and transmit state (R23 to R28). Link 8 is the Passage. -/
structure LinkSt where
  hdr : Option (BitVec 128)
  need : Nat
  data : List Slot128
  /-- FSEQ of the last good flit; none since the link last came up. -/
  rxSeq : Option (BitVec 12)
  txSeq : BitVec 12
  /-- The replay buffer: flits sent and not acknowledged (R25, R53). -/
  sent : List SentFlit
  /-- Failures of received flits since the last good one, by FSEQ (R26). -/
  rxBad : Sparse Nat
  /-- NAKs in a row for the same flit, and the ACK of the last one (R26). -/
  txFails : Nat
  nakAck : Option (BitVec 12)
  /-- What waits for transmit credit (R27). -/
  backlog : List TxMsg
  /-- Receive slots freed and not yet returned in a CREDIT slot (R27). -/
  owed : Nat
  /-- The training that runs is a fast retrain (R21), and one after a lane failure, which keeps credits, sequences and messages
  (R22; log 56, DESIGN CHOICE). -/
  fast : Bool
  keep : Bool
  deriving DecidableEq, Repr

/-- A line in the mirror queue (R117): its content, and whether only masked bytes are compared and written (REPAIR). -/
structure MirrorLine where
  line : Nat
  data : Line
  masked : Bool
  /-- Number of the next item booked when the line arrived: its place among this vault's own writes (R120). -/
  at_ : Nat
  /-- Its place in the Plaza, which it enters on inputs 24 to 27 (R76, R117). -/
  stage : Stage
  input : Nat
  inter : Nat
  entered : Nat
  deriving DecidableEq, Repr

/-- A running ownership handshake (R121). -/
structure Handshake where
  first : Nat
  last : Nat
  side : Bool
  giver : Bool
  /-- When the handshake began, for the hint of R121. -/
  start : Nat
  deriving DecidableEq, Repr

/-- Square mirroring (Passage). -/
structure PsgSt where
  /-- Failed lanes of the Passage, bit i for lane i (R112). -/
  lanes : Nat
  /-- Slots the partner has granted, and messages that wait for credit (R27, R112). -/
  credit : Nat
  txWait : List PsgMsg
  /-- Free slots of the receive buffer, and the messages that wait in it for the mirror queue (R112, R117). -/
  rxFree : Nat
  held : List PsgHeld
  mirrorQ : List MirrorLine
  /-- MSEQ of the last MIRROR sent and of the last received. -/
  txMseq : Nat
  rxMseq : Nat
  /-- Lines forwarded and not acknowledged, as (MSEQ, lines) (R118). -/
  fwd : List (Nat × Nat)
  handshake : Option Handshake
  /-- The windows of the running handshake are moving (R121, step 2). -/
  moving : Bool
  /-- Ports whose forward-all has ended (R133). -/
  fwdEnded : List Nat
  /-- The partner announced SERVE since the resync began (R133). -/
  servedNotice : Bool
  /-- Units waiting for a recheck (R128). -/
  recheck : List Nat
  /-- Units under watch with the lines written since the watch began (R128). -/
  watch : List (Nat × List Nat)
  /-- Lines FETCHed, with whether a write was served since (R129). -/
  fetches : List (Nat × Bool)
  /-- FETCH requests received for units not yet restored or streamed, as (line, count) (R129, R211). -/
  fetchWait : List (Nat × Nat)
  /-- STREAM_END of the partner is awaited before RD and EXM of unowned windows resume (R126, R206). -/
  holdUnowned : Bool
  /-- A resync stream of this vault as source is due or runs (R132). -/
  source : Bool
  /-- Partner state as last reported (R204). -/
  partner : Option VaultState
  partnerDeparted : Bool
  /-- The partner's GEN has arrived since JOIN (R205). -/
  genSeen : Bool
  /-- Dual-issued writes mark their unit until NOTICE SERVE entered arrives (R205). -/
  markDual : Bool
  /-- RD and EXM of every window are redirected until the partner's STREAM_END (R206). -/
  holdAll : Bool
  /-- Last MIRROR of each window as (window, MSEQ), newest first (R114 OWN_GRANT). -/
  winMseq : List (Nat × Nat)
  /-- GEN has been sent since the Passage last came up (R130). -/
  genSent : Bool
  /-- GEN of a commit waits for the Passage (R151). -/
  genDue : Bool
  /-- A resync request waits for this vault's entry to SERVE (R205). -/
  resyncAsked : Bool
  /-- This vault owes the partner a STREAM_END (R126). -/
  needEnd : Bool
  /-- SQUARE_RING has been found since JOIN (R10). -/
  otherRing : Bool
  /-- This vault has taken over and the partner has not come back into the square's service since (R124, R130). -/
  alone : Bool
  /-- A running APPLY of a WR: the log entry, the DRAM lines still awaited, and whether a fetch failed (R215). -/
  reconFetch : Option (Nat × List Nat × Bool)
  deriving DecidableEq, Repr

/-- One entry of the refusal log (R156), and the APPLY result (R215). -/
structure LogEntry where
  hdr : BitVec 128
  slot : Slot128
  result : BitVec 2
  deriving DecidableEq, Repr

/-- Power watch, dump, checkpoint and restore bookkeeping. -/
structure PowerSt where
  rideFrom : VaultState
  /-- An abort has been seen and not yet taken (R158). -/
  abortSeen : Bool
  /-- COMMIT of the running dump or checkpoint has issued (R159). -/
  committed : Bool
  /-- The dump that DUMP was entered for ended by completion (true) or abandonment (false) (R201). -/
  ended : Option Bool
  unproven : Bool
  noReserve : Bool
  noPack : Bool
  /-- A checkpoint request waits for CK_MIN (R193). -/
  ckWait : Bool
  /-- Pod time of the last checkpoint's commit plus one (0 is none), of the last commit of any kind likewise, of DUMP entry
  and of RESTORE entry. -/
  lastCommit : Nat
  lastGen : Nat
  dumpStart : Nat
  restoreStart : Nat
  log : List LogEntry
  /-- Demand queue (R208). -/
  demand : List Nat
  /-- The registry wait and the partner wait of JOIN have passed (R361, R205). -/
  regWaited : Bool
  joinWaited : Bool
  /-- The DRAM is current after a reset that did not keep the dirty bitmap (R177, R358). -/
  bitmapLost : Bool
  /-- The units that became restored in a Plaza cycle, with that cycle (R207). -/
  justRestored : Nat × List Nat
  /-- LOST_WAIT has passed since RESTORE was entered (R214). -/
  lostWaitOver : Bool
  deriving DecidableEq, Repr

/-- Header, payload and where a page goes, of every page type but parity (R172, R173): the fields that MAGIC, VAULT_ID, STRIPE, MEMBER
and CRC do not give. -/
structure PageHeader where
  typ : Nat
  layout : Nat
  enc : Bool
  intent : Bool
  wseq : Nat
  tseq : Nat
  gen : Nat
  unit : Nat
  /-- Bit j: line j of the unit was poisoned (R97). -/
  poison : BitVec 256
  deriving DecidableEq, Repr

/-- What parity covers of a page: 16,384 payload bytes as 256 lines, and 96 header bytes (R171). -/
structure PageBits where
  hdr : BitVec 768
  payload : List Line
  deriving DecidableEq, Repr

/-- A page as programmed: a header with its payload as written, or parity (R171, R172). -/
inductive PageBody where
  | page (h : PageHeader) (payload : List Line)
  | parity (b : PageBits)
  deriving DecidableEq, Repr

/-- A programmed page: its stripe address and member (R169), what it holds, and whether it has become unreadable (R166). -/
structure FlashPage where
  stripe : BitVec 32
  member : Fin 8
  body : PageBody
  bad : Bool
  deriving DecidableEq, Repr

/-- A directory entry (R179): where a page lies, and whether the entry is valid. -/
structure DirEntry where
  stripe : BitVec 32
  member : Fin 8
  valid : Bool
  deriving DecidableEq, Repr

/-- A ledger entry (R178). -/
structure LedgerEntry where
  written : Bool
  mirrored : Bool
  lost : Bool
  diverged : Bool
  stripeA : BitVec 32
  memberA : Fin 8
  stripeB : BitVec 32
  memberB : Fin 8
  genLo : BitVec 32
  deriving DecidableEq, Repr

/-- The content of a record (R180): of an open (0x10) or commit record (0x11) every field but VAULT_ID and CRC; of an intent (0x12) or
void record (0x13) its stripes. -/
structure Record where
  kind : Nat
  gen : Nat
  t : BitVec 32
  intent : Bool
  degraded : Bool
  checkpoint : Bool
  podTime : Word
  wseqFirst : Nat
  wseqLast : Nat
  dirs : List DirEntry
  sideDir : DirEntry
  logEntries : Nat
  lostUnits : Nat
  divergedUnits : Nat
  unitsWritten : Nat
  keyCheck : Word
  zoneCrc : BitVec 32
  prevGen : Nat
  stripes : List (BitVec 32)
  deriving DecidableEq, Repr

/-- A page of an anchor region (R181): channel, page number in the region, WSEQ of its header, the record, and whether it has become
unreadable. -/
structure AnchorPage where
  chan : Nat
  at_ : Nat
  wseq : Nat
  record : Record
  bad : Bool
  deriving DecidableEq, Repr

/-- The directory, the side directory and the places of their pages, of one generation (R173, R179, R180). -/
structure GenDir where
  /-- By ledger page. -/
  dir : Sparse DirEntry
  /-- By entry of the side directory. -/
  side : Sparse DirEntry
  /-- DIR0 to DIR7 and SIDEDIR. -/
  dirPages : List DirEntry
  sideDir : DirEntry
  deriving DecidableEq, Repr

/-- A stripe open for writing (R171, R253): its layout as a header shows it, the context that writes it, its healthy members, the data
members written, the units and ledger pages in it, and the P and Q accumulators of the Junction (R174). -/
structure OpenStripe where
  stripe : BitVec 32
  layout : Nat
  ctx : Nat
  members : List (Fin 8)
  filled : Nat
  units : List Nat
  spans : List Nat
  p : PageBits
  q : PageBits
  deriving DecidableEq, Repr

/-- The generation whose commit record the commit engine holds (R183, R255): its number, whether a dump closes it, its ledger
entries and directory, and the counts of its record. -/
structure Closing where
  gen : Nat
  dump : Bool
  ledger : Sparse LedgerEntry
  dirs : GenDir
  log : List LogEntry
  lost : Nat
  diverged : Nat
  units : Nat
  deriving DecidableEq, Repr

/-- The flash image. -/
structure ImageSt where
  /-- The image key the Junction holds unwrapped (R176). -/
  key : Option ImageKey
  /-- The first start after FORMAT has not entered SERVE yet (R177, R204). -/
  fresh : Bool
  /-- Programmed pages outside the anchor regions, oldest first. -/
  pages : List FlashPage
  /-- Ledgers of the newest committed, the previous and the open generation: of the last the entries that it has changed. -/
  committed : Sparse LedgerEntry
  previous : Sparse LedgerEntry
  opened : Sparse LedgerEntry
  /-- Their directories (R179). -/
  commDir : GenDir
  prevDir : GenDir
  openDir : GenDir
  /-- Pages of the anchor regions, and per channel the next free page (R181). -/
  anchors : List AnchorPage
  anchorNext : Sparse Nat
  /-- The refusal log the newest committed dump holds (R183). -/
  log : List LogEntry
  /-- Erase counts, by group block number: bits [31:12] of a stripe address (R169). -/
  erases : Sparse Nat
  /-- Group blocks that have left the erased pool and not come back (R186, R192), strictly rising. -/
  held : List Nat
  /-- Erases begun and not reported done, as (group block, channel) (R167, R186). -/
  erasing : List (Nat × Nat)
  /-- Group blocks retired for want of a spare (R167). -/
  retired : List Nat
  /-- Remapped blocks: (channel, die, bad block, spare) (R167). -/
  remap : List (Nat × Nat × Nat × Nat)
  /-- Program and erase failures of a channel together (R168). -/
  fails : Sparse Nat
  /-- Intent-log mode of the last FORMAT (R187), and the stripes of the last intent record not opened yet. -/
  intent : Bool
  batch : List (BitVec 32)
  /-- Consecutive command timeouts per channel (R168). -/
  timeouts : Sparse Nat
  /-- Group blocks open for writing, with their next page. -/
  openBlocks : Sparse Nat
  openStripes : List OpenStripe
  /-- Ledger pages with an entry changed since they were last written (R183). -/
  spans : List Nat
  /-- Steps of R183 done for the running close: padding, log, wear and side directory, directory. -/
  closed : BitVec 4
  /-- Checkpoints a rebuild still has to commit, and its units not yet copied (R189). -/
  rebuildLeft : Nat
  rebuilding : List Nat
  /-- Next unit of a reshape sweep (R191). -/
  reshapeAt : Option Nat
  /-- Units dirtied by relocation, for IMG_COUNTS.RELOCATED (R196). -/
  relocating : List Nat
  /-- Pages programmed, and the relocations of the last 2^20 of them as (pages programmed before, units) (R193). -/
  programs : Nat
  relocs : List (Nat × Nat)
  /-- A boot scan runs (R185). -/
  scanning : Bool
  /-- Units to mark dirty once restored (R189, R190). -/
  dirtyOnRestore : List Nat
  /-- Restore writes served so far of each unrestored unit, bit k for its line k (R207). -/
  restoring : Sparse Nat
  closing : Option Closing
  /-- Ledger pages of the newest committed generation found unreadable beyond tolerance (R183, R204). -/
  badLedger : List Nat
  deriving DecidableEq, Repr

/-- One energy pack (Energy packs and measurement). -/
structure PackSt where
  present : Bool
  counted : Bool
  soc : Rat
  /-- Usable energy in mJ at the last update (R226). -/
  ePack : Rat
  /-- Time at rest so far, us (R224). -/
  restUs : Nat
  /-- Charge counted in a learning discharge, uAh (R230). -/
  qLearn : Rat
  /-- Net discharge since insertion, uAh (R240). -/
  qAcc : Rat
  /-- Attempts made of the running authentication; 0 when none runs (R233). -/
  attempt : Nat
  /-- The nonce of that attempt, low byte first (R233). -/
  nonce : BitVec 128
  /-- PAK_STAT.AUTH before the running authentication (R233). -/
  authBefore : BitVec 2
  /-- A periodic authentication is due and waits for SERVE or RESTORE (R233). -/
  authDue : Bool
  /-- The identifier comparison of R236 is still to be made, with the voltage at the insertion in uV. -/
  compare : Option Int
  /-- Failed charger writes in a row, and charging held by CHG_FAULT (R232). -/
  chgFails : Nat
  chgHeld : Bool
  /-- Auto-zero or reference check failed (R239). -/
  adcBad : Bool
  /-- The temperature was outside its counting range at the last update (R239). -/
  tempOut : Bool
  lastV : Int
  lastI : Int
  lastT : Int
  deriving DecidableEq, Repr

/-- The five flags of R248. -/
structure Flags where
  z : Bool
  c : Bool
  n : Bool
  v : Bool
  f : Bool
  deriving DecidableEq, Repr

/-- What an interrupt saves (R252). -/
structure IrqFrame where
  pc : BitVec 14
  flags : Flags
  blocks : Nat
  desc : Nat
  /-- The routine's G12 to G15; the handler has copies of its own (CtxSt.hand). -/
  high : List Word
  deriving DecidableEq, Repr

/-- What HOOK saves (R263), with the microwords issued so far; `index` is the hook called, `fromIdle` marks H0 polls. -/
structure HookFrame where
  regs : List Word
  flags : Flags
  stack : List (BitVec 14)
  pc : BitVec 14
  used : Nat
  index : Bool
  fromIdle : Bool
  deriving DecidableEq, Repr

/-- A sequencer context (R242). -/
structure CtxSt where
  g : List Word
  /-- The handlers' copies of G12 to G15 (R252). -/
  hand : List Word
  flags : Flags
  pc : BitVec 14
  stack : List (BitVec 14)
  scratch : Sparse Word
  /-- SEQ_CTXn.STATE (R266). -/
  run : BitVec 3
  routine : BitVec 5
  /-- Pending starts, by vector (R244). -/
  pend : List Nat
  /-- Progress of an interrupted COPY or SCATTER (R251). -/
  blocks : Nat
  desc : Nat
  irq : Option IrqFrame
  hook : Option HookFrame
  /-- Events held or raised and not yet taken, by number (R251). -/
  events : List Nat
  /-- Registers and word after COMMIT, once it has issued (R256). -/
  commitAt : Option (List Word × BitVec 14)
  stopReq : Bool
  deriving DecidableEq, Repr

/-- The sequencer (R242) with its control store of two banks (R245). -/
structure SeqSt where
  ctx0 : CtxSt
  ctx1 : CtxSt
  ctx2 : CtxSt
  ctx3 : CtxSt
  bankA : Sparse (BitVec 128)
  bankB : Sparse (BitVec 128)
  /-- Units dirtied since the last H0 poll (R262). -/
  dirtied : Nat
  deriving DecidableEq, Repr

/-- Held low half and latched high half of one requester (R270, R369). -/
structure HalfSt where
  held : Option (Nat × BitVec 32)
  latch : Option (Nat × BitVec 32)
  deriving DecidableEq, Repr

/-- A running table load (R273): its window, first DRAM line and lines, the SRAM offset of its source, none for host memory, and, once
its source has ended, the lines it moved and the STATUS it ends with when the last of them is written. -/
structure TableLoad where
  win : Nat
  dline : Nat
  lines : Nat
  sram : Option Nat
  ending : Option (Nat × Nat)
  deriving DecidableEq, Repr

/-- The code-flash operation that runs (R281): command, address, data, requester. -/
structure NvcOp where
  cmd : Nat
  addr : Nat
  data : Word
  q : Requester
  deriving DecidableEq, Repr

/-- The hart of the management core (R268). -/
structure HartSt where
  /-- Integer registers; register 0 reads zero. -/
  x : Vector (BitVec 32) 32
  pc : BitVec 32
  /-- User mode; otherwise machine mode. -/
  user : Bool
  mstatus : BitVec 32
  mie : BitVec 32
  mtvec : BitVec 32
  mepc : BitVec 32
  mcause : BitVec 32
  mtval : BitVec 32
  mscratch : BitVec 32
  mcycle : BitVec 64
  minstret : BitVec 64
  /-- Firmware runs; otherwise the hart waits in the boot ROM (R277, R362). -/
  running : Bool
  /-- Address a load-reserved holds (R270). -/
  reserved : Option Nat
  /-- A fetch (true) or a load (false) stalls since that time (R286). -/
  stall : Option (Bool × Nat)
  /-- Core cycles until the next instruction starts (R279). -/
  busy : Nat
  /-- Address after the last instruction, and the 16-byte blocks in the line buffers, newest first (R279). -/
  seqPc : Nat
  lines : List Nat
  deriving DecidableEq, Repr

/-- The hart at a core start: at the reset vector, in machine mode with interrupts disabled (R269; log 58). -/
def HartSt.reset : HartSt :=
  { x := Vector.replicate 32 0, pc := 0x30000000, user := false, mstatus := 0, mie := 0, mtvec := 0, mepc := 0, mcause := 0, mtval := 0,
    mscratch := 0, mcycle := 0, minstret := 0, running := false, reserved := none, stall := none, busy := 0, seqPc := 0, lines := [] }

/-- The management core and the code flash (R268 to R290). -/
structure MgtSt where
  hart : HartSt
  halfCore : HalfSt
  halfPcie : HalfSt
  halfRing : HalfSt
  /-- The core takes a machine external interrupt (R271). -/
  irqTaken : Bool
  /-- Management SRAM, by byte offset (R269). -/
  sram : Sparse (BitVec 8)
  /-- Code-flash words, by word number; an unlisted word is erased (R275). -/
  flash : Sparse Word
  /-- Words whose content is undefined after a failed or interrupted operation (R282, R288). -/
  dubious : List Nat
  /-- Option area (R277, R289). -/
  next : Bool
  trial : Bool
  level : BitVec 2
  /-- Key area: slot 0, the words KEY_PROGRAM has written, by word number; slot 1, the nine words of the wrapped image key, none
  while erased (R290). -/
  keyArea : Sparse Word
  imageSlot : List (List Nat)
  /-- First unlock value written, by requester (R280). -/
  keyStep : Option Requester
  keyFails : Nat
  op : Option NvcOp
  suspended : Option NvcOp
  load : Option TableLoad
  /-- Zoning commit captured while a table load runs: (window, A, B, C, D words) (R75). -/
  heldCommit : Option (Nat × Word × Word × Word × Word)
  /-- Trial watchdog runs (R277). -/
  trialRun : Bool
  /-- Time of the last class 2 core restart plus one (R337). -/
  lastRestart : Nat
  deriving DecidableEq, Repr

/-- One ring port (R306, R323). -/
structure PortSt where
  /-- Wrapped for a cause of its own, and what the neighbour says of the hop. -/
  ownWrap : Bool
  neighWrap : Bool
  neighFwdOk : Bool
  neighMaster : Word
  /-- A HELLO has arrived since the last loss. -/
  helloSeen : Bool
  /-- The link delays measured, newest first, at most PDELAY_AVG of them, in ps (R313). -/
  delays : List Int
  /-- Former identifier of the neighbour, for LOST (R307). -/
  former : Word
  rdvDone : Bool
  /-- Time of the last successful exchange (R324). -/
  lastRdv : Nat
  /-- Rendezvous passed since the port fell back to beaconing (R325). -/
  beacons : Nat
  /-- The module read at the port's enable lacks 1000BASE-LX (R294). -/
  rateErr : Bool
  deriving DecidableEq, Repr

/-- Duplicate window of one origin (R300). -/
structure DupWin where
  origin : Word
  incarn : BitVec 16
  high : Nat
  seen : List Nat
  deriving DecidableEq, Repr

/-- A kept management response (R381). -/
structure KeptResp where
  origin : Word
  incarn : BitVec 16
  rtag : BitVec 16
  resp : MgmtGroup
  deriving DecidableEq, Repr

/-- The ring block (Talkai). -/
structure RingSt where
  east : PortSt
  west : PortSt
  seq : BitVec 32
  incarn : BitVec 16
  dups : List DupWin
  /-- Memory of forwarded LOWEST values: the lowest since the last port event (R302). -/
  fwdLowest : Option Word
  /-- The lap this vault has a token of: 0 none, 1 DISCOVER, 2 ELECT, 3 CONFIRM; when it left, and the wait in ms before the
  next DISCOVER (R302, R303). -/
  phase : Nat
  lapAt : Nat
  wait : Nat
  /-- A frame came folded since an own frame last came back unfolded (R306). -/
  folded : Bool
  /-- This vault belonged to a ring of more than one member since its last JOIN (R344). -/
  member : Bool
  registry : List RegEntry
  keptOwn : Option RegEntry
  keptPartner : Option RegEntry
  /-- Vaults whose own publication has arrived since formation (R310). -/
  ownSince : List Word
  /-- LOST reports: (identifier, from its East side) (R307). -/
  losts : List (Word × Bool)
  /-- Entries that the RDV of this rendezvous window carried (R326). -/
  relayed : List RegEntry
  kept : List KeptResp
  /-- In ALLEY: the ring is awake (a rendezvous window or a continuous listen). -/
  awake : Bool
  /-- First SYNC after JOIN not yet seen (R314). -/
  firstSync : Bool
  /-- What is still to slew of the last correction, in 1/48 ns, and the time toward its next step (R314). -/
  slewLeft : Int
  slewAcc : Nat
  /-- The time age of R323: the hops from the last SYNC, and when it came. -/
  ageHops : Nat
  syncAt : Nat
  formed : Bool
  deriving DecidableEq, Repr

/-- The Census (R315 to R322). -/
structure CenSt where
  /-- An armed Census at this vault: number and T. -/
  armed : Option (BitVec 32 × Word)
  /-- This vault, as ring master, armed the Census and rebroadcasts it. -/
  master : Bool
  /-- The snapshot is to be taken at T (first row that applies was the last of R317). -/
  snap : Bool
  /-- The fill has ended. -/
  filled : Bool
  /-- A window's ownership moved after T (R321). -/
  partial_ : Bool
  /-- Pod time at which the pass started. -/
  passStart : Nat
  reports : List Word
  deriving DecidableEq, Repr

/-- One fault log entry (R350). -/
structure LogRec where
  podTime : Word
  source : Nat
  cls : Nat
  forced : Bool
  raised : Bool
  handled : Bool
  action : Nat
  deriving DecidableEq, Repr

/-- The fault collector beside its registers. -/
structure FltSt where
  /-- Running grace timers: (source, log entry that started it, forced) (R339). -/
  grace : List (Nat × Nat × Bool)
  /-- First-event time of each count, ns plus one (R338). -/
  first : Sparse Nat
  /-- Fault log, by entry 0 to 255 (R350). -/
  log : Sparse LogRec
  logCount : Nat
  /-- Entries not read since they were written, for LOG_WRAP (R350). -/
  unread : List Nat
  /-- Events held in ALLEY: (source, forced) (R340). -/
  held : List (Nat × Bool)
  deriving DecidableEq, Repr

/-- One vault. -/
structure State where
  regs : Sparse Word
  vault : VaultState
  now : Nat
  pod : Nat
  pins : Pins
  rst : ResetSt
  adm : AdmSt
  dram : DramSt
  links : Sparse LinkSt
  psg : PsgSt
  pwr : PowerSt
  img : ImageSt
  packA : PackSt
  packB : PackSt
  seq : SeqSt
  mgt : MgtSt
  ring : RingSt
  cen : CenSt
  flt : FltSt
  /-- Snapshots of hardware-only entries per requester (R378): key as a register key. -/
  snaps : Sparse Word
  out : List Out
  /-- The MODEL's own counter of drawn free values (log 4, DESIGN CHOICE). -/
  draws : Nat
  pending : List Instr
  deriving DecidableEq, Repr

def Flags.zero : Flags := ⟨false, false, false, false, false⟩

def CtxSt.idle : CtxSt :=
  { g := List.replicate 16 0, hand := List.replicate 4 0, flags := Flags.zero, pc := 0, stack := [], scratch := [], run := 0, routine := 0, pend := [],
    blocks := 0, desc := 0, irq := none, hook := none, events := [], commitAt := none, stopReq := false }

def Bitmap.zero : Bitmap := ⟨false, []⟩

def PackSt.none_ : PackSt :=
  { present := false, counted := false, soc := 0, ePack := 0, restUs := 0, qLearn := 0, qAcc := 0, attempt := 0, nonce := 0,
    authBefore := 0, authDue := false, compare := none, chgFails := 0, chgHeld := false, adcBad := false,
    tempOut := false, lastV := 0, lastI := 0, lastT := 0 }

def HalfSt.none_ : HalfSt := ⟨none, none⟩

def LinkSt.reset : LinkSt :=
  { hdr := none, need := 0, data := [], rxSeq := none, txSeq := 0, sent := [], rxBad := [], txFails := 0, nakAck := none,
    backlog := [], owed := 0, fast := false, keep := false }

def PortSt.reset : PortSt :=
  { ownWrap := false, neighWrap := false, neighFwdOk := false, neighMaster := 0, helloSeen := false, delays := [],
    former := 0, rdvDone := false, lastRdv := 0, beacons := 0, rateErr := false }

def AdmSt.reset : AdmSt :=
  { flights := [], items := [], nextId := 0, portDl := [], bookedRow := [], raaProj := [],
    serviceReserve := 32, resHist := [], plaza := [], plazaIn := [], plazaPtr := [], served := [], intSeq := [] }

def DramSt.reset : DramSt :=
  { cells := [], poison := [], frozen := false, row := [], rowAt := [], early := [], raa := [], window := 0, intUsed := [], hkUsed := [], ptr := [], refDue := [], stepAt := [], rateTo := [],
    stepTo := [], patrol := [], offAt := [], resynced := [], writeBack := [], dirty := Bitmap.zero, restored := Bitmap.zero,
    diverged := Bitmap.zero, census := Bitmap.zero, capture := [] }

def PsgSt.reset : PsgSt :=
  { lanes := 0, credit := 0, txWait := [], rxFree := 8192, held := [], mirrorQ := [], txMseq := 0, rxMseq := 0, fwd := [], handshake := none, moving := false, fwdEnded := [],
    servedNotice := false, recheck := [], watch := [], fetches := [], fetchWait := [], holdUnowned := false, source := false,
    partner := none, partnerDeparted := false, genSeen := false, markDual := false, holdAll := false, winMseq := [],
    genSent := false, genDue := false, resyncAsked := false, needEnd := false, otherRing := false, alone := false, reconFetch := none }

def PowerSt.reset : PowerSt :=
  { rideFrom := .serve, abortSeen := false, committed := false, ended := none, unproven := false, noReserve := false,
    noPack := false, ckWait := false, lastCommit := 0, lastGen := 0, dumpStart := 0, restoreStart := 0, log := [], demand := [],
    regWaited := false, joinWaited := false, bitmapLost := false, justRestored := (0, []), lostWaitOver := false }

def DirEntry.none_ : DirEntry := ⟨0, 0, false⟩

def GenDir.none_ : GenDir := ⟨[], [], [], DirEntry.none_⟩

def ImageSt.reset : ImageSt :=
  { key := none, fresh := false, pages := [], committed := [], previous := [], opened := [], commDir := GenDir.none_,
    prevDir := GenDir.none_, openDir := GenDir.none_, anchors := [], anchorNext := [], log := [], erases := [], held := [],
    erasing := [], retired := [], remap := [], fails := [], intent := false, batch := [], timeouts := [], openBlocks := [],
    openStripes := [], spans := [], closed := 0, rebuildLeft := 0, rebuilding := [], reshapeAt := none, relocating := [],
    programs := 0, relocs := [], scanning := false, dirtyOnRestore := [], restoring := [], closing := none, badLedger := [] }

def SeqSt.reset : SeqSt :=
  { ctx0 := CtxSt.idle, ctx1 := CtxSt.idle, ctx2 := CtxSt.idle, ctx3 := CtxSt.idle, bankA := [], bankB := [], dirtied := 0 }

def MgtSt.reset : MgtSt :=
  { hart := HartSt.reset, halfCore := HalfSt.none_, halfPcie := HalfSt.none_, halfRing := HalfSt.none_, irqTaken := false, sram := [],
    flash := [], dubious := [], next := false, trial := false, level := 0, keyArea := [], imageSlot := [], keyStep := none, keyFails := 0,
    op := none, suspended := none, load := none, heldCommit := none, trialRun := false, lastRestart := 0 }

def RingSt.reset : RingSt :=
  { east := PortSt.reset, west := PortSt.reset, seq := 0, incarn := 0, dups := [], fwdLowest := none, phase := 0, lapAt := 0,
    wait := 15, folded := false, member := false, registry := [], keptOwn := none, keptPartner := none, ownSince := [],
    losts := [], relayed := [], kept := [], awake := false, firstSync := true, slewLeft := 0,
    slewAcc := 0, ageHops := 0, syncAt := 0, formed := false }

def CenSt.reset : CenSt :=
  { armed := none, master := false, snap := false, filled := false, partial_ := false, passStart := 0, reports := [] }

def FltSt.reset : FltSt := { grace := [], first := [], log := [], logCount := 0, unread := [], held := [] }

def ResetSt.reset : ResetSt :=
  { ao := true, offLatched := false, retry := false, fencedReq := false, fromFenced := false, raising := false,
    xtalHeld := false, drain := none, bootAt := 0 }

/-- The pins in BOOT after logic power-good: KERB_HOLD released (R14), MAIN_ISO_N high (R138), BKUP_EN high (R138), every
enable high (R389), every PG seen high (R390), no pack drawn. -/
def Pins.boot : Pins :=
  { kerbHold := false, mainIsoN := true, bkupEn := true, pakEnA := false, pakEnB := false, pakLearnA := false,
    pakLearnB := false, enMr := true, enPcie := true, enCore := true, enDram := true, enFlash := true,
    pgMr := true, pgPcie := true, pgCore := true, pgDram := true, pgFlash := true }

/-- The vault right after a power-up reset (R352, R354): BOOT (the reset value of PWR_STAT.STATE, R162), every register at
its reset value, nothing pending. Values the spec does not give: log 2, DESIGN CHOICE. -/
def State.reset : State :=
  { regs := [], vault := .boot, now := 0, pod := 0, pins := Pins.boot, rst := ResetSt.reset, adm := AdmSt.reset,
    dram := DramSt.reset, links := [], psg := PsgSt.reset, pwr := PowerSt.reset, img := ImageSt.reset,
    packA := PackSt.none_, packB := PackSt.none_, seq := SeqSt.reset, mgt := MgtSt.reset, ring := RingSt.reset,
    cen := CenSt.reset, flt := FltSt.reset, snaps := [], out := [], draws := 0, pending := [] }

end Sys2Proof.Machine
end

