-- ==== Sys2Proof/Machine/Clock.lean ====
section
/-! DEFINITION. The passage of time (log 1, DESIGN CHOICE). `now` and `pod` count 1/48 ns: a Plaza cycle of 1.6 GHz (R17) is 30 of them. -/
namespace Sys2Proof.Machine

/-- One Plaza cycle, in 1/48 ns. -/
def cycleUnits : Nat := 30
/-- One nanosecond and one microsecond, in 1/48 ns. -/
def nsUnits : Nat := 48
def usUnits : Nat := 48000

/-- A correction under way moves pod time by one unit in 100,000, which is 10 ppm (R314; log 36, DESIGN CHOICE: the greatest rate the
rule allows). -/
def slew (n : Nat) (s : State) : State :=
  let r := s.ring
  let k := min r.slewLeft.natAbs ((r.slewAcc + n) / 100000)
  let d : Int := if 0 < r.slewLeft then k else -k
  { s with pod := ((s.pod : Int) + d).toNat,
           ring := { r with slewLeft := r.slewLeft - d, slewAcc := (r.slewAcc + n) % 100000 } }

/-- Time passes by n units of 1/48 ns; pod time runs with it. -/
def pass (n : Nat) (s : State) : State :=
  let s1 := { s with now := s.now + n, pod := s.pod + n }
  if s.ring.slewLeft = 0 then s1 else slew n s1

/-- One Plaza cycle passes, in a step on an empty queue (log 1, DESIGN CHOICE). -/
def tick (s : State) : State := pass cycleUnits s

/-- Pod time in ns, as TIME_NOW reads it. -/
def podNs (s : State) : Nat := s.pod / nsUnits

/-- Pod time is set to v ns; a slew under way ends. -/
def setPod (s : State) (v : Nat) : State := { s with pod := v * nsUnits, ring := { s.ring with slewLeft := 0, slewAcc := 0 } }

end Sys2Proof.Machine
end

