-- ==== Sys2Proof/Machine/Sparse.lean ====
section
/-! DEFINITION. The operations on the sparse maps, sorted lists and unit bitmaps that hold the state, and on the bits of a
word. -/
namespace Sys2Proof.Machine

/-- The value of key k; `d` for a key that is not listed. -/
def sget {α : Type} (d : α) : Sparse α → Nat → α
  | [], _ => d
  | (j, v) :: m, k => if j = k then v else sget d m k

/-- The map without key k. -/
def sdel {α : Type} : Sparse α → Nat → Sparse α
  | [], _ => []
  | (j, v) :: m, k => if j = k then sdel m k else (j, v) :: sdel m k

/-- The map with key k at v, in rising order of keys. -/
def sput {α : Type} (k : Nat) (v : α) : Sparse α → Sparse α
  | [] => [(k, v)]
  | (j, w) :: m =>
    if k < j then (k, v) :: (j, w) :: m else
    if k = j then (k, v) :: m else (j, w) :: sput k v m

/-- The map with key k at v, in canonical form against the default d of that key. -/
def sset {α : Type} [DecidableEq α] (d : α) (m : Sparse α) (k : Nat) (v : α) : Sparse α :=
  if v = d then sdel m k else sput k v m

/-- Keys strictly rising, each above `lo`. -/
def sortedFrom {α : Type} : Nat → Sparse α → Bool
  | _, [] => true
  | lo, (k, _) :: m => decide (lo ≤ k) && sortedFrom (k + 1) m

/-- Canonical form: keys strictly rising, and no entry equal to the default of its key. -/
def sparseWf {α : Type} [DecidableEq α] (d : Nat → α) (m : Sparse α) : Bool :=
  sortedFrom 0 m && m.all (fun e => decide (e.2 ≠ d e.1))

/-- Map of numbers, zero by default. -/
def nget (m : Sparse Nat) (k : Nat) : Nat := sget 0 m k
/-- Map of numbers, zero by default. -/
def nset (m : Sparse Nat) (k v : Nat) : Sparse Nat := sset 0 m k v

/-- Insert into a strictly rising list. -/
def lins (k : Nat) : List Nat → List Nat
  | [] => [k]
  | j :: l => if k < j then k :: j :: l else if k = j then j :: l else j :: lins k l

/-- Remove from a list without repeats. -/
def ldel (k : Nat) : List Nat → List Nat
  | [] => []
  | j :: l => if j = k then ldel k l else j :: ldel k l

/-- Strictly rising, each at least `lo`. -/
def risingFrom : Nat → List Nat → Bool
  | _, [] => true
  | lo, k :: l => decide (lo ≤ k) && risingFrom (k + 1) l

/-- The bit of unit u. -/
def Bitmap.get (b : Bitmap) (u : Nat) : Bool := if b.except.contains u then !b.dflt else b.dflt

/-- The bitmap with the bit of unit u at v. -/
def Bitmap.set (b : Bitmap) (u : Nat) (v : Bool) : Bitmap :=
  if v = b.dflt then { b with except := ldel u b.except } else { b with except := lins u b.except }

/-- How many of the first n units have their bit set. -/
def Bitmap.count (b : Bitmap) (n : Nat) : Nat :=
  let e := (b.except.filter (fun u => decide (u < n))).length
  if b.dflt then n - e else e

/-- Every bit at v. -/
def Bitmap.all (v : Bool) : Bitmap := ⟨v, []⟩

/-- The first unit from u up, below n, whose bit is set. -/
def Bitmap.next (b : Bitmap) (u n : Nat) : Option Nat :=
  if b.dflt then
    let rec free (fuel u : Nat) : Option Nat :=
      match fuel with
      | 0 => none
      | f + 1 => if decide (n ≤ u) then none else if b.except.contains u then free f (u + 1) else some u
    free (b.except.length + 1) u
  else b.except.find? (fun x => decide (u ≤ x) && decide (x < n))

/-- Bits [hi:lo] of a number. -/
def bitsOf (n hi lo : Nat) : Nat := n / 2 ^ lo % 2 ^ (hi + 1 - lo)

/-- The number with bits [hi:lo] at v. -/
def withBits (n hi lo v : Nat) : Nat :=
  n % 2 ^ lo + (v % 2 ^ (hi + 1 - lo)) * 2 ^ lo + n / 2 ^ (hi + 1) * 2 ^ (hi + 1)

/-- Bit b of a number. -/
def bitAt (n b : Nat) : Bool := n / 2 ^ b % 2 = 1

/-- One or zero. -/
def b2n (b : Bool) : Nat := if b then 1 else 0

/-- Two's complement reading of the low w bits. -/
def toSigned (w n : Nat) : Int := let m := n % 2 ^ w; if m < 2 ^ (w - 1) then (m : Int) else (m : Int) - 2 ^ w

/-- Two's complement encoding of x in w bits. -/
def ofSigned (w : Nat) (x : Int) : Nat := (x % (2 ^ w : Nat)).toNat

/-- Split a list into its first n elements, short lists padded with d. -/
def padTake {α : Type} (d : α) (n : Nat) (l : List α) : List α := (l ++ List.replicate n d).take n

end Sys2Proof.Machine
end

