-- ==== Sys2Proof/Machine/Crc.lean ====
section
/-! DEFINITION. The check codes: CRC-16 of headers (R33), CRC-32 of flits (R23), CRC-32C of images and firmware (R172),
CRC-64 of digests (R127). -/
namespace Sys2Proof.Machine

/-- One shift of a register of w bits, most significant bit first. -/
def crcUp (w poly c : Nat) : Nat :=
  if bitAt c (w - 1) then (c * 2 % 2 ^ w) ^^^ poly else c * 2 % 2 ^ w

/-- One byte, most significant bit first, into a register of w bits. -/
def crcUpByte (w poly c b : Nat) : Nat :=
  (List.range 8).foldl (fun x _ => crcUp w poly x) (c ^^^ (b * 2 ^ (w - 8)))

/-- One shift of a reflected register. -/
def crcDown (poly c : Nat) : Nat := if c % 2 = 1 then (c / 2) ^^^ poly else c / 2

/-- One byte into a reflected register. -/
def crcDownByte (poly c b : Nat) : Nat :=
  (List.range 8).foldl (fun x _ => crcDown poly x) (c ^^^ b)

/-- CRC-16 of R33. -/
def crc16 (bytes : List Nat) : Nat := bytes.foldl (crcUpByte 16 0x1021) 0xFFFF
/-- CRC-32 of R23 (polynomial 0x04C11DB7 reflected). -/
def crc32 (bytes : List Nat) : Nat := bytes.foldl (crcDownByte 0xEDB88320) 0xFFFFFFFF ^^^ 0xFFFFFFFF
/-- CRC-32C of R172 (polynomial 0x1EDC6F41 reflected). -/
def crc32c (bytes : List Nat) : Nat := bytes.foldl (crcDownByte 0x82F63B78) 0xFFFFFFFF ^^^ 0xFFFFFFFF
/-- One byte into the CRC-64 of R127. -/
def crc64Byte (c b : Nat) : Nat := crcUpByte 64 0x42F0E1EBA9EA3693 c b
/-- CRC-64 of R127. -/
def crc64 (bytes : List Nat) : Nat := bytes.foldl crc64Byte 0

/-- The n low bytes of a number, low first. -/
def bytesOf : Nat → Nat → List Nat
  | _, 0 => []
  | v, n + 1 => v % 256 :: bytesOf (v / 256) n

/-- The number whose bytes these are, low first. -/
def ofBytes : List Nat → Nat
  | [] => 0
  | b :: l => b % 256 + 256 * ofBytes l

/-- The numbers of w bits that a line holds, low first; w divides 512. -/
def unpackLine (w : Nat) (d : Line) : List Nat := (List.range (512 / w)).map (fun i => d.toNat / 2 ^ (w * i) % 2 ^ w)
/-- The line that numbers of w bits make, low first. -/
def packLine (w : Nat) (l : List Nat) : Line := BitVec.ofNat 512 (l.foldr (fun x a => x % 2 ^ w + 2 ^ w * a) 0)

/-- A list cut into pieces of n, at most `fuel` of them. -/
def chunks {α : Type} (n : Nat) : Nat → List α → List (List α)
  | 0, _ => []
  | k + 1, l => if l.isEmpty then [] else l.take n :: chunks n k (l.drop n)

end Sys2Proof.Machine
end

