-- ==== Sys2Proof/Machine/Frames.lean ====
section
/-! DEFINITION. The bytes of a Talkai frame (R297), with the payloads whose layout the spec gives: REG (R309) and MGMT (R379). -/
namespace Sys2Proof.Machine

/-- FLAGS of a frame: WRAPPED, RESEND, and FWD_OK of a HELLO (R297). -/
def frameFlags (f : FrameHdr) (b : RingBody) : Nat :=
  let fwd := match b with
    | .hello h => h.fwdOk
    | _ => false
  b2n f.wrapped + 2 * b2n f.resend + 4 * b2n fwd

/-- A registry entry in its 32 bytes (R309). -/
def regEntryBytes (e : RegEntry) : List Nat :=
  bytesOf e.vaultId.toNat 8 ++ bytesOf e.partnerId.toNat 8 ++ bytesOf e.g.toNat 8 ++ bytesOf e.t.toNat 4 ++
    [e.state.toNat, e.flags.toNat] ++ bytesOf e.hop.toNat 2

/-- One operation of a management group in its 16 bytes (R379). -/
def mgmtOpBytes (o : MgmtOp) : List Nat := bytesOf o.addr.toNat 4 ++ [o.op.toNat, 0, 0, 0] ++ bytesOf o.data.toNat 8

/-- A management payload (R379). -/
def mgmtBytes (g : MgmtGroup) : List Nat :=
  bytesOf g.rtag.toNat 2 ++ [g.count.toNat, 0] ++ g.ops.flatMap mgmtOpBytes

/-- The payload of a frame. The spec names what HELLO, the timing, formation and Census frames and RDV carry and gives no layout
of it: their bytes are free in those fields (log 36, DESIGN CHOICE). A descriptor's frame carries the payload it was written with. -/
def payload (typ : Nat) : RingBody → List Nat
  | .hello h => Config.payloadBytes typ [h.state.toNat, h.master.toNat, b2n h.wrappedPort, b2n h.neighParked]
  | .nums l => Config.payloadBytes typ l
  | .reg e => regEntryBytes e
  | .rdv b => Config.payloadBytes typ ([(b.podTime.toNat : Int), b.age] ++
      b.entries.flatMap (fun e => (regEntryBytes e).map Int.ofNat) ++ b.missed.flatMap (fun m => [(m.1.toNat : Int), b2n m.2]))
  | .mgmt g => mgmtBytes g
  | .raw bytes => (bytes.drop 46).take (bytes.length - 50)

/-- The frame but for its FCS: destination, source, EtherType, the 32-byte header, the payload, and zeros up to 60 bytes (R297;
log 36, PRESUMED: the addresses and the EtherType lie high byte first, as IEEE 802.3 has them). -/
def frameBody (typ : Nat) (f : FrameHdr) (b : RingBody) : List Nat :=
  let p := payload typ b
  let l := [0x03, 0x54, 0x4B, 0, 0, 0] ++ [0x02] ++ (bytesOf Config.vaultId.toNat 5).reverse ++
    (bytesOf f.etype.toNat 2).reverse ++ [typ % 256, frameFlags f b] ++ bytesOf f.hops.toNat 2 ++ bytesOf f.seq.toNat 4 ++
    bytesOf f.origin.toNat 8 ++ bytesOf f.dest.toNat 8 ++ bytesOf f.podId.toNat 4 ++ bytesOf p.length 2 ++
    bytesOf f.incarn.toNat 2 ++ p
  l ++ List.replicate (60 - l.length) 0

/-- The whole frame, its FCS last (R297; log 36, PRESUMED: the FCS is the CRC-32 of IEEE 802.3). -/
def frameBytes (typ : Nat) (f : FrameHdr) (b : RingBody) : List Nat :=
  let l := frameBody typ f b
  l ++ bytesOf (crc32 l) 4

/-- A frame as it leaves a port. -/
def sentFrame (p : RingPort) (typ : Nat) (f : FrameHdr) (b : RingBody) : Out := .ringFrame p typ f b (frameBytes typ f b)

end Sys2Proof.Machine
end

