-- ==== Sys2Proof/Machine/RegTable.lean ====
section
/-! DEFINITION. The register map (R368, R373, R382, R400 and the register table of every chapter): every field with its bits,
its access code (R6) and its reset value; the named fields the blocks use; the fault sources and their default classes. -/
namespace Sys2Proof.Machine

/-- Access codes (R6). -/
inductive Acc where
  | rw | ro | w1c | w1s | wo | rc | rwl
  deriving DecidableEq, Repr

/-- One field of a register table: bits [hi:lo], access, reset value. -/
structure FieldRow where
  hi : Nat
  lo : Nat
  acc : Acc
  reset : Nat
  deriving DecidableEq, Repr

/-- One register of a page: its offset and its fields; bits in no row are reserved and read zero (R5). -/
structure RegRow where
  off : Nat
  fields : List FieldRow
  deriving DecidableEq, Repr

/-- A named field: page (of the first instance), offset, bits. -/
structure Fld where
  page : Nat
  off : Nat
  hi : Nat
  lo : Nat
  deriving DecidableEq, Repr

/-- The same field on the page of instance i of its block (R400). -/
def Fld.inst (f : Fld) (i : Nat) : Fld := { f with page := f.page + i }

/-- The same field of the n-th register of an array of registers, 8 bytes apart. -/
def Fld.nth (f : Fld) (n : Nat) : Fld := { f with off := f.off + 8 * n }


/-- Registers of blvRegs (R56). -/
def blvRegs : List RegRow := [
  ⟨0x100, [⟨3, 3, .rw, 1⟩, ⟨2, 2, .rw, 1⟩, ⟨1, 1, .w1s, 0⟩, ⟨0, 0, .rw, 0⟩]⟩,
  ⟨0x108, [⟨23, 16, .ro, 0⟩, ⟨15, 8, .ro, 0⟩, ⟨7, 7, .ro, 0⟩, ⟨6, 5, .ro, 0⟩, ⟨2, 0, .ro, 0⟩]⟩,
  ⟨0x110, [⟨23, 16, .rwl, 0⟩, ⟨15, 8, .rwl, 0⟩, ⟨7, 0, .rwl, 0⟩]⟩,
  ⟨0x118, [⟨31, 16, .ro, 0⟩, ⟨15, 0, .ro, 4096⟩]⟩,
  ⟨0x120, [⟨63, 0, .rc, 0⟩]⟩,
  ⟨0x128, [⟨63, 0, .rc, 0⟩]⟩,
  ⟨0x130, [⟨63, 0, .rc, 0⟩]⟩,
  ⟨0x138, [⟨63, 0, .rc, 0⟩]⟩,
  ⟨0x140, [⟨63, 0, .rc, 0⟩]⟩,
  ⟨0x148, [⟨63, 0, .rc, 0⟩]⟩,
  ⟨0x150, [⟨63, 32, .rc, 0⟩, ⟨31, 0, .rc, 0⟩]⟩,
  ⟨0x800, [⟨6, 0, .rw, 0⟩]⟩,
  ⟨0x808, [⟨63, 48, .rw, 0⟩, ⟨10, 8, .rw, 0⟩, ⟨7, 5, .rw, 0⟩, ⟨0, 0, .rw, 0⟩]⟩,
  ⟨0x810, [⟨63, 44, .ro, 0⟩, ⟨17, 17, .w1c, 0⟩, ⟨16, 16, .w1c, 0⟩, ⟨15, 0, .ro, 0⟩]⟩]

/-- Registers of admRegs (R80). -/
def admRegs : List RegRow := [
  ⟨0x100, [⟨7, 0, .rwl, 32⟩]⟩,
  ⟨0x108, [⟨31, 24, .rwl, 16⟩, ⟨23, 16, .rwl, 64⟩, ⟨15, 8, .rwl, 64⟩, ⟨7, 0, .rwl, 44⟩]⟩,
  ⟨0x110, [⟨39, 32, .rwl, 1⟩, ⟨31, 24, .rwl, 8⟩, ⟨23, 16, .rwl, 4⟩, ⟨15, 8, .rwl, 16⟩, ⟨7, 0, .rwl, 84⟩]⟩,
  ⟨0x118, [⟨55, 48, .rwl, 8⟩, ⟨47, 40, .rwl, 32⟩, ⟨39, 32, .rwl, 32⟩, ⟨31, 24, .rwl, 64⟩, ⟨23, 12, .rwl, 304⟩, ⟨11, 0, .rwl, 656⟩]⟩,
  ⟨0x120, [⟨27, 16, .rwl, 167⟩, ⟨15, 8, .rwl, 160⟩, ⟨7, 0, .rwl, 32⟩]⟩,
  ⟨0x128, [⟨27, 16, .rwl, 167⟩, ⟨15, 8, .rwl, 160⟩, ⟨7, 0, .rwl, 32⟩]⟩,
  ⟨0x130, [⟨27, 16, .rwl, 167⟩, ⟨15, 8, .rwl, 160⟩, ⟨7, 0, .rwl, 32⟩]⟩,
  ⟨0x138, [⟨27, 16, .rwl, 167⟩, ⟨15, 8, .rwl, 160⟩, ⟨7, 0, .rwl, 32⟩]⟩,
  ⟨0x140, [⟨27, 16, .rwl, 167⟩, ⟨15, 8, .rwl, 160⟩, ⟨7, 0, .rwl, 32⟩]⟩,
  ⟨0x148, [⟨27, 16, .rwl, 167⟩, ⟨15, 8, .rwl, 160⟩, ⟨7, 0, .rwl, 32⟩]⟩,
  ⟨0x150, [⟨27, 16, .rwl, 167⟩, ⟨15, 8, .rwl, 160⟩, ⟨7, 0, .rwl, 32⟩]⟩,
  ⟨0x158, [⟨27, 16, .rwl, 167⟩, ⟨15, 8, .rwl, 160⟩, ⟨7, 0, .rwl, 32⟩]⟩,
  ⟨0x160, [⟨11, 0, .rwl, 192⟩]⟩,
  ⟨0x168, [⟨19, 16, .ro, 0⟩, ⟨15, 0, .rwl, 5000⟩]⟩,
  ⟨0x170, [⟨23, 16, .rw, 2⟩, ⟨15, 8, .rw, 8⟩, ⟨7, 0, .rw, 32⟩]⟩,
  ⟨0x178, [⟨63, 0, .rc, 0⟩]⟩,
  ⟨0x180, [⟨63, 0, .rc, 0⟩]⟩,
  ⟨0x188, [⟨63, 0, .rc, 0⟩]⟩,
  ⟨0x190, [⟨63, 48, .ro, 0⟩, ⟨42, 40, .ro, 0⟩, ⟨36, 32, .ro, 0⟩, ⟨9, 0, .ro, 0⟩]⟩,
  ⟨0x800, [⟨9, 0, .rw, 0⟩]⟩,
  ⟨0x808, [⟨16, 0, .rw, 65000⟩]⟩,
  ⟨0x810, [⟨63, 32, .rc, 0⟩, ⟨0, 0, .ro, 0⟩]⟩,
  ⟨0x818, [⟨11, 0, .rw, 0⟩]⟩,
  ⟨0x820, [⟨63, 48, .rw, 0⟩, ⟨47, 32, .rw, 0⟩, ⟨31, 16, .rw, 0⟩, ⟨0, 0, .rw, 0⟩]⟩,
  ⟨0x828, [⟨63, 32, .rw, 0⟩, ⟨31, 0, .rw, 0⟩]⟩,
  ⟨0x830, [⟨63, 48, .ro, 0⟩, ⟨47, 24, .ro, 0⟩, ⟨23, 0, .ro, 0⟩]⟩]

/-- Registers of zonRegs (R81). -/
def zonRegs : List RegRow := [
  ⟨0x100, [⟨0, 0, .rwl, 0⟩]⟩,
  ⟨0x108, [⟨63, 60, .ro, 0⟩, ⟨59, 48, .ro, 0⟩, ⟨35, 0, .ro, 0⟩]⟩,
  ⟨0x110, [⟨63, 28, .ro, 0⟩, ⟨27, 16, .ro, 0⟩, ⟨11, 0, .ro, 0⟩]⟩,
  ⟨0x118, [⟨63, 0, .rc, 0⟩]⟩,
  ⟨0x800, [⟨11, 0, .rw, 0⟩]⟩,
  ⟨0x808, [⟨58, 53, .rw, 0⟩, ⟨52, 52, .rw, 0⟩, ⟨51, 36, .rw, 0⟩, ⟨35, 0, .rw, 0⟩]⟩,
  ⟨0x810, [⟨63, 63, .rw, 0⟩, ⟨43, 41, .rw, 0⟩, ⟨40, 40, .rw, 0⟩, ⟨39, 38, .rw, 0⟩, ⟨37, 36, .rw, 0⟩, ⟨35, 0, .rw, 0⟩]⟩,
  ⟨0x818, [⟨31, 0, .rw, 0⟩]⟩,
  ⟨0x820, [⟨63, 0, .rw, 18446744073709551615⟩]⟩,
  ⟨0x828, [⟨10, 8, .ro, 0⟩, ⟨1, 1, .w1s, 0⟩, ⟨0, 0, .w1s, 0⟩]⟩,
  ⟨0x830, [⟨15, 0, .rw, 0⟩]⟩,
  ⟨0x838, [⟨12, 12, .rw, 0⟩, ⟨11, 0, .rw, 0⟩]⟩]

/-- Registers of plzRegs (R82). -/
def plzRegs : List RegRow := [
  ⟨0x100, [⟨15, 8, .rc, 0⟩, ⟨7, 0, .rc, 0⟩]⟩,
  ⟨0x108, [⟨63, 32, .rc, 0⟩, ⟨31, 0, .rc, 0⟩]⟩,
  ⟨0x110, [⟨63, 0, .rc, 0⟩]⟩,
  ⟨0x118, [⟨63, 0, .rc, 0⟩]⟩]

/-- Registers of drcRegs (R109). -/
def drcRegs : List RegRow := [
  ⟨0x100, [⟨3, 3, .rw, 0⟩, ⟨2, 2, .w1s, 0⟩, ⟨0, 0, .rw, 0⟩]⟩,
  ⟨0x108, [⟨23, 16, .ro, 0⟩, ⟨5, 5, .ro, 0⟩, ⟨4, 4, .ro, 0⟩, ⟨3, 3, .ro, 0⟩, ⟨1, 0, .ro, 0⟩]⟩,
  ⟨0x110, [⟨5, 4, .rw, 0⟩, ⟨1, 0, .rw, 3⟩]⟩,
  ⟨0x118, [⟨63, 56, .rw, 32⟩, ⟨55, 48, .rw, 8⟩, ⟨47, 40, .rw, 96⟩, ⟨39, 32, .rw, 103⟩, ⟨31, 24, .rw, 52⟩, ⟨23, 16, .rw, 52⟩, ⟨15, 8, .rw, 50⟩, ⟨7, 0, .rw, 52⟩]⟩,
  ⟨0x120, [⟨63, 48, .rw, 1344⟩, ⟨47, 40, .rw, 16⟩, ⟨39, 32, .rw, 32⟩, ⟨31, 16, .rw, 12480⟩, ⟨15, 0, .rw, 1312⟩]⟩,
  ⟨0x128, [⟨63, 56, .rw, 32⟩, ⟨55, 48, .rw, 8⟩, ⟨47, 40, .rw, 72⟩, ⟨39, 32, .rw, 77⟩, ⟨31, 24, .rw, 40⟩, ⟨23, 16, .rw, 40⟩, ⟨15, 8, .rw, 38⟩, ⟨7, 0, .rw, 40⟩]⟩,
  ⟨0x130, [⟨63, 48, .rw, 1008⟩, ⟨47, 40, .rw, 14⟩, ⟨39, 32, .rw, 24⟩, ⟨31, 16, .rw, 9360⟩, ⟨15, 0, .rw, 984⟩]⟩,
  ⟨0x138, [⟨63, 52, .rw, 304⟩, ⟨51, 40, .rw, 656⟩, ⟨39, 32, .rw, 2⟩, ⟨31, 24, .rw, 9⟩, ⟨23, 16, .rw, 6⟩, ⟨15, 8, .rw, 20⟩, ⟨7, 0, .rw, 96⟩]⟩,
  ⟨0x140, [⟨32, 32, .rw, 1⟩, ⟨31, 24, .rw, 85⟩, ⟨23, 16, .rw, 92⟩, ⟨15, 8, .rw, 75⟩, ⟨7, 0, .rw, 80⟩]⟩,
  ⟨0x148, [⟨32, 32, .rw, 1⟩, ⟨31, 0, .rw, 86400⟩]⟩,
  ⟨0x150, [⟨63, 0, .rc, 0⟩]⟩,
  ⟨0x158, [⟨63, 0, .rc, 0⟩]⟩,
  ⟨0x160, [⟨63, 0, .rc, 0⟩]⟩,
  ⟨0x168, [⟨41, 41, .ro, 0⟩, ⟨35, 32, .ro, 0⟩, ⟨31, 0, .ro, 0⟩]⟩,
  ⟨0x170, [⟨63, 32, .rc, 0⟩, ⟨31, 0, .rc, 0⟩]⟩,
  ⟨0x180, [⟨63, 48, .rw, 0⟩, ⟨1, 1, .ro, 0⟩, ⟨0, 0, .rw, 0⟩]⟩,
  ⟨0x188, [⟨63, 48, .rw, 0⟩, ⟨1, 1, .ro, 0⟩, ⟨0, 0, .rw, 0⟩]⟩,
  ⟨0x190, [⟨63, 48, .rw, 0⟩, ⟨1, 1, .ro, 0⟩, ⟨0, 0, .rw, 0⟩]⟩,
  ⟨0x198, [⟨63, 48, .rw, 0⟩, ⟨1, 1, .ro, 0⟩, ⟨0, 0, .rw, 0⟩]⟩,
  ⟨0x1a0, [⟨63, 48, .rw, 0⟩, ⟨1, 1, .ro, 0⟩, ⟨0, 0, .rw, 0⟩]⟩,
  ⟨0x1a8, [⟨63, 48, .rw, 0⟩, ⟨1, 1, .ro, 0⟩, ⟨0, 0, .rw, 0⟩]⟩,
  ⟨0x1b0, [⟨63, 48, .rw, 0⟩, ⟨1, 1, .ro, 0⟩, ⟨0, 0, .rw, 0⟩]⟩,
  ⟨0x1b8, [⟨63, 48, .rw, 0⟩, ⟨1, 1, .ro, 0⟩, ⟨0, 0, .rw, 0⟩]⟩]

/-- Registers of drpRegs (R110). -/
def drpRegs : List RegRow := [
  ⟨0x100, [⟨4, 3, .w1s, 0⟩, ⟨2, 2, .rw, 0⟩, ⟨1, 1, .w1s, 0⟩, ⟨0, 0, .rw, 0⟩]⟩,
  ⟨0x108, [⟨15, 8, .ro, 0⟩, ⟨2, 2, .ro, 0⟩, ⟨1, 1, .ro, 0⟩, ⟨0, 0, .ro, 0⟩]⟩,
  ⟨0x110, [⟨31, 24, .rw, 16⟩, ⟨10, 10, .ro, 0⟩, ⟨9, 9, .ro, 0⟩, ⟨8, 8, .w1s, 0⟩, ⟨3, 0, .rw, 0⟩]⟩,
  ⟨0x118, [⟨63, 63, .rw, 0⟩, ⟨62, 0, .rw, 0⟩]⟩,
  ⟨0x120, [⟨44, 0, .ro, 0⟩]⟩,
  ⟨0x800, [⟨5, 0, .rw, 0⟩]⟩,
  ⟨0x808, [⟨39, 32, .rw, 0⟩, ⟨24, 16, .rw, 0⟩, ⟨8, 0, .rw, 0⟩]⟩]

/-- Registers of psgRegs (R136). -/
def psgRegs : List RegRow := [
  ⟨0x100, [⟨7, 7, .w1s, 0⟩, ⟨6, 6, .rw, 1⟩, ⟨5, 5, .rw, 1⟩, ⟨4, 4, .rw, 1⟩, ⟨3, 3, .rw, 1⟩, ⟨2, 2, .rw, 1⟩, ⟨1, 1, .w1s, 0⟩, ⟨0, 0, .rw, 0⟩]⟩,
  ⟨0x108, [⟨16, 16, .ro, 0⟩, ⟨15, 15, .ro, 0⟩, ⟨14, 14, .ro, 0⟩, ⟨13, 13, .ro, 0⟩, ⟨10, 8, .ro, 0⟩, ⟨6, 5, .ro, 0⟩, ⟨2, 0, .ro, 0⟩]⟩,
  ⟨0x110, [⟨31, 16, .rw, 200⟩, ⟨15, 0, .rwl, 128⟩]⟩,
  ⟨0x118, [⟨63, 0, .ro, 0⟩]⟩,
  ⟨0x120, [⟨63, 0, .ro, 0⟩]⟩,
  ⟨0x128, [⟨63, 32, .ro, 0⟩, ⟨31, 0, .ro, 0⟩]⟩,
  ⟨0x130, [⟨29, 27, .ro, 0⟩, ⟨26, 26, .w1s, 0⟩, ⟨25, 25, .w1s, 0⟩, ⟨24, 24, .rw, 0⟩, ⟨23, 12, .rw, 0⟩, ⟨11, 0, .rw, 0⟩]⟩,
  ⟨0x138, [⟨31, 0, .rw, 3600⟩]⟩,
  ⟨0x140, [⟨56, 32, .ro, 0⟩, ⟨7, 0, .rwl, 96⟩]⟩,
  ⟨0x148, [⟨24, 0, .ro, 0⟩]⟩,
  ⟨0x150, [⟨63, 0, .rc, 0⟩]⟩,
  ⟨0x158, [⟨63, 0, .rc, 0⟩]⟩,
  ⟨0x160, [⟨63, 0, .rc, 0⟩]⟩,
  ⟨0x168, [⟨63, 0, .rc, 0⟩]⟩,
  ⟨0x170, [⟨63, 0, .rc, 0⟩]⟩,
  ⟨0x178, [⟨31, 0, .ro, 0⟩]⟩]

/-- Registers of pwrRegs (R162). -/
def pwrRegs : List RegRow := [
  ⟨0x100, [⟨3, 3, .w1s, 0⟩, ⟨2, 2, .w1s, 0⟩, ⟨1, 1, .rw, 1⟩, ⟨0, 0, .rwl, 1⟩]⟩,
  ⟨0x108, [⟨23, 20, .ro, 0⟩, ⟨16, 16, .ro, 0⟩, ⟨15, 15, .w1c, 0⟩, ⟨9, 9, .ro, 0⟩, ⟨8, 8, .ro, 0⟩, ⟨7, 7, .ro, 0⟩, ⟨6, 6, .ro, 0⟩, ⟨5, 5, .ro, 0⟩, ⟨4, 4, .ro, 0⟩, ⟨3, 0, .ro, 2⟩]⟩,
  ⟨0x110, [⟨47, 32, .rwl, 1140⟩, ⟨31, 16, .rwl, 1080⟩, ⟨15, 8, .rwl, 10⟩, ⟨7, 0, .rwl, 2⟩]⟩,
  ⟨0x118, [⟨63, 56, .rwl, 96⟩, ⟨55, 32, .rwl, 40000⟩, ⟨23, 0, .rw, 2000⟩]⟩,
  ⟨0x120, [⟨63, 48, .rwl, 200⟩, ⟨47, 24, .rwl, 36572⟩, ⟨23, 0, .rwl, 92000⟩]⟩,
  ⟨0x128, [⟨63, 32, .rw, 65536⟩, ⟨31, 0, .rwl, 5000⟩]⟩,
  ⟨0x130, [⟨56, 32, .ro, 0⟩, ⟨24, 0, .ro, 0⟩]⟩,
  ⟨0x138, [⟨63, 32, .ro, 0⟩, ⟨31, 0, .ro, 0⟩]⟩,
  ⟨0x140, [⟨63, 32, .ro, 0⟩, ⟨5, 4, .ro, 0⟩, ⟨3, 0, .ro, 0⟩]⟩,
  ⟨0x148, [⟨31, 0, .ro, 0⟩]⟩,
  ⟨0x150, [⟨16, 16, .ro, 0⟩, ⟨14, 0, .ro, 0⟩]⟩,
  ⟨0x158, [⟨63, 48, .rc, 0⟩, ⟨47, 32, .rc, 0⟩, ⟨31, 16, .rc, 0⟩, ⟨15, 0, .rc, 0⟩]⟩,
  ⟨0x160, [⟨63, 0, .ro, 0⟩]⟩]

/-- Registers of imgRegs (R196, R219). -/
def imgRegs : List RegRow := [
  ⟨0x100, [⟨7, 7, .w1s, 0⟩, ⟨6, 6, .rwl, 0⟩, ⟨5, 5, .w1s, 0⟩, ⟨4, 4, .rw, 1⟩, ⟨0, 0, .rw, 0⟩]⟩,
  ⟨0x108, [⟨63, 32, .ro, 0⟩, ⟨27, 24, .ro, 0⟩, ⟨23, 20, .ro, 0⟩, ⟨7, 4, .ro, 0⟩, ⟨3, 3, .ro, 0⟩, ⟨2, 2, .ro, 0⟩, ⟨1, 1, .ro, 0⟩, ⟨0, 0, .ro, 0⟩]⟩,
  ⟨0x110, [⟨63, 0, .ro, 0⟩]⟩,
  ⟨0x118, [⟨63, 0, .ro, 0⟩]⟩,
  ⟨0x120, [⟨63, 0, .ro, 0⟩]⟩,
  ⟨0x128, [⟨63, 0, .ro, 0⟩]⟩,
  ⟨0x130, [⟨24, 0, .ro, 0⟩]⟩,
  ⟨0x138, [⟨31, 0, .ro, 67200⟩]⟩,
  ⟨0x140, [⟨63, 32, .ro, 0⟩, ⟨31, 0, .ro, 0⟩]⟩,
  ⟨0x148, [⟨20, 16, .rw, 17⟩, ⟨4, 0, .rw, 0⟩]⟩,
  ⟨0x150, [⟨24, 0, .ro, 0⟩]⟩,
  ⟨0x158, [⟨56, 32, .ro, 0⟩, ⟨24, 0, .ro, 0⟩]⟩,
  ⟨0x160, [⟨39, 32, .rwl, 6⟩, ⟨31, 16, .rw, 90⟩, ⟨15, 0, .rw, 10⟩]⟩,
  ⟨0x168, [⟨63, 48, .ro, 0⟩, ⟨47, 32, .ro, 0⟩, ⟨31, 16, .rw, 1000⟩]⟩,
  ⟨0x170, [⟨24, 0, .rw, 65536⟩]⟩,
  ⟨0x178, [⟨63, 32, .rc, 0⟩, ⟨31, 0, .rc, 0⟩]⟩,
  ⟨0x180, [⟨11, 11, .w1s, 0⟩, ⟨10, 10, .w1s, 0⟩, ⟨9, 4, .rw, 33⟩, ⟨1, 0, .rw, 1⟩]⟩,
  ⟨0x188, [⟨63, 48, .rw, 1000⟩, ⟨47, 40, .rwl, 64⟩, ⟨39, 32, .rw, 10⟩, ⟨31, 16, .rw, 40⟩, ⟨15, 0, .rw, 8⟩]⟩,
  ⟨0x190, [⟨56, 32, .ro, 0⟩, ⟨11, 8, .ro, 0⟩, ⟨4, 4, .ro, 0⟩, ⟨3, 3, .ro, 0⟩, ⟨2, 2, .ro, 0⟩, ⟨1, 1, .ro, 0⟩, ⟨0, 0, .ro, 0⟩]⟩,
  ⟨0x198, [⟨63, 32, .rc, 0⟩, ⟨31, 0, .rc, 0⟩]⟩,
  ⟨0x1a0, [⟨31, 0, .ro, 0⟩]⟩,
  ⟨0x1a8, [⟨46, 32, .ro, 0⟩, ⟨19, 18, .ro, 0⟩, ⟨17, 17, .ro, 0⟩, ⟨16, 16, .w1s, 0⟩, ⟨13, 0, .rw, 0⟩]⟩,
  ⟨0x1b0, [⟨63, 0, .ro, 0⟩]⟩,
  ⟨0x1b8, [⟨63, 0, .ro, 0⟩]⟩,
  ⟨0x1c0, [⟨63, 0, .ro, 0⟩]⟩,
  ⟨0x1c8, [⟨63, 0, .ro, 0⟩]⟩]

/-- Registers of jctRegs (R197). -/
def jctRegs : List RegRow := [
  ⟨0x100, [⟨1, 1, .w1s, 0⟩, ⟨0, 0, .rw, 0⟩]⟩,
  ⟨0x108, [⟨1, 1, .ro, 0⟩, ⟨0, 0, .ro, 0⟩]⟩,
  ⟨0x110, [⟨63, 0, .ro, 0⟩]⟩,
  ⟨0x118, [⟨63, 0, .rc, 0⟩]⟩,
  ⟨0x120, [⟨63, 0, .rc, 0⟩]⟩]

/-- Registers of arcRegs (R198). -/
def arcRegs : List RegRow := [
  ⟨0x100, [⟨0, 0, .rw, 0⟩]⟩,
  ⟨0x108, [⟨15, 8, .ro, 0⟩, ⟨0, 0, .ro, 0⟩]⟩,
  ⟨0x110, [⟨11, 0, .rwl, 2400⟩]⟩]

/-- Registers of fchRegs (R199). -/
def fchRegs : List RegRow := [
  ⟨0x100, [⟨3, 3, .w1s, 0⟩, ⟨2, 2, .w1s, 0⟩, ⟨0, 0, .rw, 0⟩]⟩,
  ⟨0x108, [⟨31, 16, .ro, 0⟩, ⟨2, 0, .ro, 0⟩]⟩,
  ⟨0x110, [⟨63, 49, .rwl, 2048⟩, ⟨48, 36, .rwl, 256⟩, ⟨35, 34, .rwl, 2⟩, ⟨31, 16, .rwl, 1536⟩, ⟨15, 0, .rwl, 255⟩]⟩,
  ⟨0x118, [⟨23, 16, .rwl, 0⟩, ⟨15, 8, .rwl, 0⟩, ⟨7, 0, .rwl, 0⟩]⟩,
  ⟨0x120, [⟨63, 48, .rwl, 200⟩, ⟨47, 32, .rwl, 10⟩, ⟨31, 16, .rwl, 100⟩, ⟨15, 8, .rw, 8⟩]⟩,
  ⟨0x128, [⟨63, 0, .rc, 0⟩]⟩,
  ⟨0x130, [⟨63, 0, .rc, 0⟩]⟩,
  ⟨0x138, [⟨63, 0, .rc, 0⟩]⟩,
  ⟨0x140, [⟨63, 32, .rc, 0⟩, ⟨31, 0, .rc, 0⟩]⟩,
  ⟨0x148, [⟨63, 48, .rw, 64⟩, ⟨47, 32, .ro, 0⟩, ⟨31, 16, .ro, 0⟩]⟩,
  ⟨0x800, [⟨11, 0, .rw, 0⟩]⟩,
  ⟨0x808, [⟨63, 63, .ro, 0⟩, ⟨35, 32, .ro, 0⟩, ⟨31, 16, .ro, 0⟩, ⟨15, 0, .ro, 0⟩]⟩]

/-- Registers of pakRegs (R240). -/
def pakRegs : List RegRow := [
  ⟨0x100, [⟨4, 4, .w1s, 0⟩, ⟨3, 3, .w1s, 0⟩, ⟨2, 2, .w1s, 0⟩, ⟨1, 1, .rw, 1⟩, ⟨0, 0, .rw, 1⟩]⟩,
  ⟨0x108, [⟨15, 12, .ro, 0⟩, ⟨11, 8, .ro, 0⟩, ⟨7, 6, .ro, 0⟩, ⟨5, 5, .ro, 0⟩, ⟨4, 4, .ro, 0⟩, ⟨3, 3, .ro, 0⟩, ⟨2, 2, .ro, 0⟩]⟩,
  ⟨0x110, [⟨63, 0, .ro, 0⟩]⟩,
  ⟨0x118, [⟨63, 48, .ro, 0⟩, ⟨31, 16, .ro, 0⟩, ⟨15, 0, .ro, 0⟩]⟩,
  ⟨0x120, [⟨47, 32, .ro, 0⟩, ⟨15, 0, .ro, 0⟩]⟩,
  ⟨0x128, [⟨15, 0, .rwl, 1069⟩]⟩,
  ⟨0x130, [⟨31, 16, .rc, 0⟩, ⟨15, 0, .rwl, 600⟩]⟩,
  ⟨0x138, [⟨63, 32, .ro, 0⟩, ⟨31, 0, .ro, 0⟩]⟩,
  ⟨0x140, [⟨63, 48, .ro, 0⟩, ⟨47, 32, .ro, 0⟩, ⟨23, 20, .ro, 0⟩, ⟨19, 16, .ro, 0⟩]⟩,
  ⟨0x148, [⟨31, 16, .ro, 0⟩, ⟨15, 0, .ro, 0⟩]⟩,
  ⟨0x150, [⟨63, 0, .ro, 0⟩]⟩]

/-- Registers of measRegs (R241). -/
def measRegs : List RegRow := [
  ⟨0x100, [⟨1, 1, .w1s, 0⟩, ⟨0, 0, .rwl, 0⟩]⟩,
  ⟨0x108, [⟨7, 7, .ro, 0⟩, ⟨6, 6, .w1c, 0⟩, ⟨3, 2, .ro, 0⟩, ⟨1, 0, .ro, 0⟩]⟩,
  ⟨0x110, [⟨63, 48, .rwl, 11000⟩, ⟨47, 32, .rwl, 164⟩, ⟨31, 24, .rwl, 92⟩, ⟨23, 0, .rwl, 37566⟩]⟩,
  ⟨0x118, [⟨63, 48, .rw, 600⟩, ⟨47, 32, .rw, 50⟩, ⟨31, 24, .rw, 64⟩, ⟨23, 16, .rw, 1⟩, ⟨15, 8, .rw, 16⟩, ⟨7, 0, .rw, 10⟩]⟩,
  ⟨0x120, [⟨47, 32, .rwl, 32768⟩, ⟨31, 24, .rwl, 64⟩, ⟨23, 16, .rwl, 33⟩, ⟨15, 8, .rwl, 32⟩, ⟨7, 0, .rwl, 4⟩]⟩,
  ⟨0x128, [⟨63, 48, .rwl, 16800⟩, ⟨47, 32, .rwl, 1000⟩, ⟨31, 16, .rwl, 65⟩, ⟨15, 8, .rwl, 95⟩]⟩,
  ⟨0x130, [⟨63, 56, .rwl, 0⟩, ⟨55, 48, .rwl, 45⟩, ⟨47, 40, .rwl, 216⟩, ⟨39, 32, .rwl, 70⟩, ⟨31, 24, .rwl, 10⟩, ⟨23, 16, .rwl, 45⟩]⟩,
  ⟨0x138, [⟨63, 48, .rwl, 1336⟩, ⟨47, 32, .rwl, 600⟩, ⟨31, 16, .rwl, 1200⟩, ⟨15, 8, .rwl, 205⟩, ⟨7, 0, .rwl, 5⟩]⟩,
  ⟨0x140, [⟨63, 48, .rw, 240⟩, ⟨47, 40, .rw, 30⟩]⟩,
  ⟨0x148, [⟨63, 48, .rw, 3600⟩, ⟨22, 16, .rwl, 10⟩, ⟨14, 8, .rwl, 9⟩, ⟨6, 0, .rwl, 11⟩]⟩,
  ⟨0x800, [⟨3, 0, .rw, 0⟩]⟩,
  ⟨0x808, [⟨15, 0, .rwl, 0⟩]⟩,
  ⟨0x810, [⟨2, 0, .rw, 0⟩]⟩,
  ⟨0x818, [⟨23, 16, .rwl, 0⟩, ⟨15, 0, .rwl, 0⟩]⟩]

/-- Registers of seqRegs (R266). -/
def seqRegs : List RegRow := [
  ⟨0x100, [⟨8, 8, .w1s, 0⟩, ⟨7, 7, .w1s, 0⟩, ⟨4, 4, .ro, 0⟩, ⟨0, 0, .rw, 0⟩]⟩,
  ⟨0x108, [⟨63, 48, .ro, 1⟩, ⟨39, 36, .ro, 0⟩, ⟨32, 32, .ro, 0⟩, ⟨18, 16, .ro, 0⟩]⟩,
  ⟨0x110, [⟨63, 32, .ro, 0⟩, ⟨31, 0, .ro, 0⟩]⟩,
  ⟨0x118, [⟨63, 48, .rw, 1000⟩, ⟨39, 32, .rw, 3⟩, ⟨31, 16, .rw, 1000⟩]⟩,
  ⟨0x120, [⟨63, 56, .ro, 0⟩, ⟨55, 48, .ro, 0⟩, ⟨47, 43, .ro, 0⟩, ⟨42, 40, .ro, 0⟩, ⟨17, 17, .w1s, 0⟩, ⟨16, 16, .w1s, 0⟩, ⟨13, 0, .ro, 0⟩]⟩,
  ⟨0x128, [⟨63, 56, .ro, 0⟩, ⟨55, 48, .ro, 0⟩, ⟨47, 43, .ro, 0⟩, ⟨42, 40, .ro, 0⟩, ⟨17, 17, .w1s, 0⟩, ⟨16, 16, .w1s, 0⟩, ⟨13, 0, .ro, 0⟩]⟩,
  ⟨0x130, [⟨63, 56, .ro, 0⟩, ⟨55, 48, .ro, 0⟩, ⟨47, 43, .ro, 0⟩, ⟨42, 40, .ro, 0⟩, ⟨17, 17, .w1s, 0⟩, ⟨16, 16, .w1s, 0⟩, ⟨13, 0, .ro, 0⟩]⟩,
  ⟨0x138, [⟨63, 56, .ro, 0⟩, ⟨55, 48, .ro, 0⟩, ⟨47, 43, .ro, 0⟩, ⟨42, 40, .ro, 0⟩, ⟨17, 17, .w1s, 0⟩, ⟨16, 16, .w1s, 0⟩, ⟨13, 0, .ro, 0⟩]⟩,
  ⟨0x140, [⟨52, 40, .ro, 0⟩, ⟨31, 16, .ro, 0⟩]⟩,
  ⟨0x148, [⟨52, 40, .ro, 0⟩, ⟨31, 16, .ro, 0⟩]⟩,
  ⟨0x150, [⟨52, 40, .ro, 0⟩, ⟨31, 16, .ro, 0⟩]⟩,
  ⟨0x158, [⟨52, 40, .ro, 0⟩, ⟨31, 16, .ro, 0⟩]⟩,
  ⟨0x160, [⟨63, 48, .rw, 512⟩, ⟨47, 32, .rw, 1000⟩, ⟨18, 16, .rw, 0⟩, ⟨8, 8, .w1s, 0⟩, ⟨3, 3, .rw, 0⟩, ⟨2, 2, .rw, 0⟩, ⟨1, 1, .ro, 0⟩]⟩,
  ⟨0x168, [⟨63, 32, .rw, 0⟩, ⟨31, 0, .rw, 0⟩]⟩,
  ⟨0x170, [⟨7, 0, .w1c, 0⟩]⟩,
  ⟨0x178, [⟨63, 62, .ro, 0⟩, ⟨61, 61, .ro, 0⟩, ⟨55, 48, .ro, 0⟩, ⟨13, 0, .ro, 0⟩]⟩,
  ⟨0x180, [⟨63, 32, .rc, 0⟩, ⟨31, 0, .rc, 0⟩]⟩,
  ⟨0x188, [⟨63, 32, .rc, 0⟩, ⟨31, 0, .rc, 0⟩]⟩]

/-- Registers of seqWindowRegs (R267). -/
def seqWindowRegs : List RegRow := [
  ⟨0x800, [⟨14, 14, .rw, 0⟩, ⟨13, 0, .rw, 0⟩]⟩,
  ⟨0x808, [⟨63, 0, .rw, 0⟩]⟩,
  ⟨0x810, [⟨63, 0, .rw, 0⟩]⟩]

/-- Registers of mgtRegs (R292). -/
def mgtRegs : List RegRow := [
  ⟨0x100, [⟨1, 1, .w1s, 0⟩, ⟨0, 0, .w1s, 0⟩]⟩,
  ⟨0x108, [⟨11, 8, .ro, 0⟩, ⟨2, 2, .ro, 0⟩, ⟨1, 1, .w1c, 0⟩, ⟨0, 0, .ro, 0⟩]⟩,
  ⟨0x110, [⟨15, 0, .rw, 2000⟩]⟩,
  ⟨0x118, [⟨8, 8, .ro, 0⟩, ⟨7, 0, .ro, 0⟩]⟩,
  ⟨0x120, [⟨63, 32, .rwl, 0⟩, ⟨31, 0, .rwl, 0⟩]⟩,
  ⟨0x140, [⟨27, 16, .rw, 0⟩, ⟨1, 1, .rw, 0⟩, ⟨0, 0, .w1s, 0⟩]⟩,
  ⟨0x148, [⟨35, 0, .rw, 0⟩]⟩,
  ⟨0x150, [⟨31, 0, .rw, 0⟩]⟩,
  ⟨0x158, [⟨63, 6, .rw, 0⟩]⟩,
  ⟨0x160, [⟨63, 32, .ro, 0⟩, ⟨3, 0, .ro, 0⟩]⟩]

/-- Registers of nvcRegs (R293). -/
def nvcRegs : List RegRow := [
  ⟨0x100, [⟨9, 8, .ro, 0⟩, ⟨0, 0, .w1s, 0⟩]⟩,
  ⟨0x108, [⟨31, 0, .wo, 0⟩]⟩,
  ⟨0x110, [⟨22, 0, .rw, 0⟩]⟩,
  ⟨0x118, [⟨63, 0, .rw, 0⟩]⟩,
  ⟨0x120, [⟨10, 10, .w1s, 0⟩, ⟨9, 9, .w1s, 0⟩, ⟨8, 8, .w1s, 0⟩, ⟨4, 4, .rw, 0⟩, ⟨3, 0, .rw, 0⟩]⟩,
  ⟨0x128, [⟨19, 16, .ro, 0⟩, ⟨15, 12, .ro, 0⟩, ⟨9, 8, .ro, 0⟩, ⟨4, 4, .ro, 0⟩, ⟨3, 3, .ro, 0⟩, ⟨2, 2, .ro, 0⟩, ⟨1, 1, .ro, 0⟩, ⟨0, 0, .ro, 0⟩]⟩,
  ⟨0x130, [⟨11, 8, .ro, 4⟩, ⟨3, 0, .rw, 4⟩]⟩,
  ⟨0x138, [⟨0, 0, .rwl, 1⟩]⟩,
  ⟨0x140, [⟨63, 32, .rc, 0⟩, ⟨31, 0, .rc, 0⟩]⟩,
  ⟨0x148, [⟨63, 48, .rw, 1000⟩, ⟨47, 32, .rw, 1000⟩, ⟨31, 0, .ro, 0⟩]⟩,
  ⟨0x150, [⟨63, 63, .w1c, 0⟩, ⟨62, 62, .ro, 0⟩, ⟨22, 0, .ro, 0⟩]⟩,
  ⟨0x158, [⟨63, 32, .rc, 0⟩, ⟨31, 0, .rc, 0⟩]⟩]

/-- Registers of rngRegs (R328). -/
def rngRegs : List RegRow := [
  ⟨0x100, [⟨63, 48, .rwl, 34997⟩, ⟨47, 16, .rwl, 0⟩, ⟨1, 1, .w1s, 0⟩, ⟨0, 0, .rw, 0⟩]⟩,
  ⟨0x108, [⟨55, 43, .ro, 0⟩, ⟨39, 28, .ro, 0⟩, ⟨7, 7, .ro, 0⟩, ⟨3, 0, .ro, 0⟩]⟩,
  ⟨0x110, [⟨63, 0, .ro, 0⟩]⟩,
  ⟨0x118, [⟨63, 48, .rw, 300⟩, ⟨47, 32, .rw, 3000⟩, ⟨31, 16, .rw, 50⟩, ⟨15, 0, .rw, 1000⟩]⟩,
  ⟨0x120, [⟨63, 32, .rc, 0⟩, ⟨31, 0, .ro, 0⟩]⟩,
  ⟨0x128, [⟨63, 0, .rc, 0⟩]⟩,
  ⟨0x130, [⟨63, 0, .rc, 0⟩]⟩,
  ⟨0x138, [⟨63, 32, .rc, 0⟩, ⟨31, 0, .rc, 0⟩]⟩,
  ⟨0x140, [⟨63, 32, .rw, 10000⟩, ⟨31, 16, .rw, 2000⟩, ⟨15, 0, .rw, 20⟩]⟩,
  ⟨0x148, [⟨3, 0, .rw, 0⟩]⟩,
  ⟨0x150, [⟨63, 32, .ro, 0⟩, ⟨31, 19, .rw, 0⟩, ⟨18, 8, .rw, 0⟩, ⟨7, 6, .rw, 0⟩, ⟨5, 5, .rw, 0⟩, ⟨4, 3, .ro, 0⟩, ⟨2, 2, .ro, 0⟩, ⟨1, 1, .w1s, 0⟩, ⟨0, 0, .w1s, 0⟩]⟩,
  ⟨0x800, [⟨11, 0, .rw, 0⟩]⟩,
  ⟨0x808, [⟨63, 0, .ro, 0⟩]⟩,
  ⟨0x810, [⟨63, 0, .ro, 0⟩]⟩,
  ⟨0x818, [⟨63, 0, .ro, 0⟩]⟩,
  ⟨0x820, [⟨63, 32, .ro, 0⟩, ⟨31, 16, .ro, 0⟩, ⟨15, 8, .ro, 0⟩, ⟨7, 4, .ro, 0⟩, ⟨0, 0, .ro, 0⟩]⟩]

/-- Registers of rneRegs (R329). -/
def rneRegs : List RegRow := [
  ⟨0x100, [⟨1, 1, .rw, 0⟩, ⟨0, 0, .rw, 0⟩]⟩,
  ⟨0x108, [⟨7, 7, .ro, 0⟩, ⟨6, 6, .ro, 0⟩, ⟨5, 5, .ro, 0⟩, ⟨4, 4, .ro, 0⟩, ⟨3, 2, .ro, 0⟩, ⟨1, 1, .ro, 0⟩]⟩,
  ⟨0x110, [⟨63, 0, .ro, 0⟩]⟩,
  ⟨0x118, [⟨63, 32, .rwl, 0⟩, ⟨31, 0, .ro, 0⟩]⟩,
  ⟨0x120, [⟨63, 32, .ro, 0⟩, ⟨15, 8, .ro, 0⟩, ⟨1, 0, .ro, 0⟩]⟩,
  ⟨0x128, [⟨63, 0, .rc, 0⟩]⟩,
  ⟨0x130, [⟨63, 32, .rc, 0⟩, ⟨31, 0, .rc, 0⟩]⟩]

/-- Registers of cenRegs (R330). -/
def cenRegs : List RegRow := [
  ⟨0x100, [⟨1, 1, .w1s, 0⟩, ⟨0, 0, .w1s, 0⟩]⟩,
  ⟨0x108, [⟨63, 0, .rw, 0⟩]⟩,
  ⟨0x110, [⟨63, 32, .ro, 0⟩, ⟨31, 30, .ro, 0⟩, ⟨8, 8, .w1c, 0⟩, ⟨7, 4, .ro, 0⟩, ⟨3, 0, .ro, 0⟩]⟩,
  ⟨0x118, [⟨63, 32, .rw, 1000⟩, ⟨31, 16, .rw, 1000⟩, ⟨7, 0, .rwl, 120⟩]⟩,
  ⟨0x120, [⟨56, 32, .ro, 0⟩, ⟨31, 0, .ro, 0⟩]⟩,
  ⟨0x128, [⟨63, 32, .ro, 0⟩, ⟨31, 0, .ro, 0⟩]⟩,
  ⟨0x800, [⟨11, 0, .rw, 0⟩]⟩,
  ⟨0x808, [⟨63, 63, .rw, 0⟩, ⟨31, 0, .rw, 0⟩]⟩]

/-- Registers of timeRegs (R331). -/
def timeRegs : List RegRow := [
  ⟨0x100, [⟨63, 0, .ro, 0⟩]⟩,
  ⟨0x108, [⟨63, 0, .wo, 0⟩]⟩,
  ⟨0x110, [⟨63, 32, .ro, 0⟩, ⟨2, 2, .ro, 0⟩, ⟨1, 1, .ro, 0⟩, ⟨0, 0, .ro, 0⟩]⟩,
  ⟨0x118, [⟨31, 0, .ro, 0⟩]⟩,
  ⟨0x120, [⟨47, 32, .rw, 1000⟩, ⟨31, 16, .rwl, 1000⟩, ⟨15, 0, .rwl, 64⟩]⟩]

/-- Registers of flt3Regs (R350). -/
def flt3Regs : List RegRow := [
  ⟨0x100, [⟨31, 16, .rw, 60⟩, ⟨1, 1, .w1s, 0⟩, ⟨0, 0, .w1s, 0⟩]⟩,
  ⟨0x108, [⟨15, 8, .ro, 0⟩, ⟨1, 1, .ro, 0⟩, ⟨0, 0, .w1c, 0⟩]⟩,
  ⟨0x110, [⟨63, 0, .ro, 0⟩]⟩,
  ⟨0x118, [⟨63, 0, .ro, 0⟩]⟩,
  ⟨0x120, [⟨63, 0, .ro, 0⟩]⟩,
  ⟨0x128, [⟨63, 0, .ro, 0⟩]⟩,
  ⟨0x130, [⟨63, 32, .rc, 0⟩, ⟨31, 16, .rc, 0⟩, ⟨15, 0, .rc, 0⟩]⟩]

/-- Registers of flt4Regs (R350). -/
def flt4Regs : List RegRow := [
  ⟨0x800, [⟨12, 0, .rw, 0⟩]⟩,
  ⟨0x808, [⟨63, 32, .rw, 86400000⟩, ⟨31, 8, .rw, 0⟩, ⟨7, 0, .rw, 0⟩]⟩,
  ⟨0x810, [⟨15, 8, .ro, 0⟩, ⟨7, 7, .w1c, 0⟩, ⟨2, 0, .ro, 0⟩]⟩]

/-- Registers of flt5Regs (R350). -/
def flt5Regs : List RegRow := [
  ⟨0x100, [⟨7, 0, .ro, 0⟩]⟩,
  ⟨0x800, [⟨7, 0, .rw, 0⟩]⟩,
  ⟨0x808, [⟨63, 0, .ro, 0⟩]⟩,
  ⟨0x810, [⟨23, 21, .ro, 0⟩, ⟨20, 20, .ro, 0⟩, ⟨19, 19, .ro, 0⟩, ⟨18, 18, .ro, 0⟩, ⟨17, 15, .ro, 0⟩, ⟨12, 0, .ro, 0⟩]⟩]

/-- Registers of flt6Regs (R350). -/
def flt6Regs : List RegRow := [
  ⟨0x100, [⟨63, 0, .ro, 0⟩]⟩,
  ⟨0x108, [⟨63, 32, .ro, 0⟩, ⟨16, 16, .ro, 0⟩, ⟨15, 13, .ro, 0⟩, ⟨12, 0, .ro, 0⟩]⟩,
  ⟨0x110, [⟨63, 0, .ro, 0⟩]⟩,
  ⟨0x118, [⟨16, 16, .ro, 0⟩, ⟨12, 0, .ro, 0⟩]⟩]

/-- Registers of flt7Regs (R350). -/
def flt7Regs : List RegRow := [
  ⟨0x100, [⟨63, 0, .rw, 0⟩]⟩,
  ⟨0x108, [⟨14, 14, .w1c, 0⟩, ⟨13, 13, .rw, 0⟩, ⟨12, 0, .rw, 0⟩]⟩]

/-- Registers of bootRegs (R366). -/
def bootRegs : List RegRow := [
  ⟨0x100, [⟨2, 2, .w1s, 0⟩, ⟨1, 1, .w1s, 0⟩]⟩,
  ⟨0x108, [⟨23, 20, .ro, 0⟩, ⟨19, 16, .ro, 0⟩, ⟨7, 7, .ro, 0⟩, ⟨6, 6, .ro, 0⟩, ⟨4, 4, .ro, 0⟩, ⟨3, 3, .ro, 0⟩, ⟨2, 2, .ro, 0⟩]⟩,
  ⟨0x110, [⟨63, 0, .ro, 0⟩]⟩,
  ⟨0x118, [⟨31, 16, .rw, 800⟩, ⟨15, 0, .rwl, 5900⟩]⟩,
  ⟨0x120, [⟨63, 32, .ro, 0⟩, ⟨31, 0, .ro, 0⟩]⟩]

/-- Registers of clkRegs (R367). -/
def clkRegs : List RegRow := [
  ⟨0x100, [⟨15, 15, .ro, 0⟩, ⟨14, 14, .ro, 0⟩, ⟨13, 13, .ro, 0⟩, ⟨12, 12, .ro, 0⟩, ⟨11, 11, .ro, 0⟩, ⟨10, 7, .ro, 0⟩, ⟨6, 3, .ro, 0⟩, ⟨1, 1, .ro, 0⟩, ⟨0, 0, .ro, 0⟩]⟩,
  ⟨0x108, [⟨31, 0, .ro, 0⟩]⟩,
  ⟨0x110, [⟨63, 0, .rc, 0⟩]⟩]

/-- Registers of the common header (R373). -/
def headerRegs : List RegRow := [
  ⟨0x0, [⟨31, 24, .ro, 1⟩, ⟨23, 16, .ro, 0⟩, ⟨15, 0, .ro, 0⟩]⟩,
  ⟨0x8, [⟨15, 8, .ro, 0⟩, ⟨7, 7, .ro, 0⟩, ⟨6, 6, .ro, 0⟩, ⟨4, 0, .ro, 0⟩]⟩,
  ⟨0x10, [⟨5, 4, .rwl, 0⟩, ⟨2, 2, .rw, 0⟩, ⟨1, 1, .w1s, 0⟩, ⟨0, 0, .rw, 1⟩]⟩,
  ⟨0x18, [⟨4, 4, .ro, 0⟩, ⟨3, 3, .ro, 0⟩, ⟨2, 2, .ro, 0⟩, ⟨1, 1, .ro, 0⟩, ⟨0, 0, .ro, 1⟩]⟩,
  ⟨0x20, [⟨20, 0, .w1c, 0⟩]⟩,
  ⟨0x28, [⟨20, 0, .w1s, 0⟩]⟩,
  ⟨0x30, [⟨20, 0, .rw, 0⟩]⟩,
  ⟨0x38, [⟨62, 0, .rw, 0⟩]⟩,
  ⟨0x40, [⟨63, 63, .rw, 0⟩, ⟨62, 0, .rw, 0⟩]⟩,
  ⟨0x48, [⟨63, 63, .w1c, 0⟩, ⟨62, 0, .w1c, 0⟩]⟩,
  ⟨0x50, [⟨0, 0, .w1s, 0⟩]⟩]

/-- The block registers of a page (R382); a page index that is not in the page map has none. -/
def blockRegs (page : Nat) : List RegRow :=
  if page = 0x0 then mgtRegs else
  if page = 0x1 then clkRegs else
  if page = 0x2 then bootRegs else
  if page = 0x3 then flt3Regs else
  if page = 0x4 then flt4Regs else
  if page = 0x5 then flt5Regs else
  if page = 0x6 then flt6Regs else
  if page = 0x7 then flt7Regs else
  if page = 0x8 then pwrRegs else
  if 0x9 ≤ page ∧ page ≤ 0xa then pakRegs else
  if page = 0xb then measRegs else
  if page = 0x10 then plzRegs else
  if page = 0x11 then zonRegs else
  if page = 0x12 then admRegs else
  if 0x18 ≤ page ∧ page ≤ 0x1f then blvRegs else
  if 0x20 ≤ page ∧ page ≤ 0x23 then drcRegs else
  if page = 0x28 then psgRegs else
  if page = 0x30 then imgRegs else
  if page = 0x31 then jctRegs else
  if 0x38 ≤ page ∧ page ≤ 0x3b then arcRegs else
  if 0x40 ≤ page ∧ page ≤ 0x5f then drpRegs else
  if 0x60 ≤ page ∧ page ≤ 0x7f then fchRegs else
  if page = 0x80 then seqRegs else
  if page = 0x81 then seqWindowRegs else
  if page = 0x88 then nvcRegs else
  if page = 0x90 then rngRegs else
  if 0x91 ≤ page ∧ page ≤ 0x92 then rneRegs else
  if page = 0x93 then cenRegs else
  if page = 0x94 then timeRegs else
  []

/-- BAR0 holds this page (R382). -/
def mappedPage (page : Nat) : Bool := !(blockRegs page).isEmpty

/-- R56. -/
def BLV_CTL_AUTO_RETRAIN : Fld := ⟨0x18, 0x100, 3, 3⟩
/-- R56. -/
def BLV_CTL_HALF_OK : Fld := ⟨0x18, 0x100, 2, 2⟩
/-- R56. -/
def BLV_CTL_TRAIN : Fld := ⟨0x18, 0x100, 1, 1⟩
/-- R56. -/
def BLV_CTL_ENABLE : Fld := ⟨0x18, 0x100, 0, 0⟩
/-- R56. -/
def BLV_STAT_LANE_FAIL_MAP : Fld := ⟨0x18, 0x108, 23, 16⟩
/-- R56. -/
def BLV_STAT_REVERSED_POL : Fld := ⟨0x18, 0x108, 15, 8⟩
/-- R56. -/
def BLV_STAT_LANE_REV : Fld := ⟨0x18, 0x108, 7, 7⟩
/-- R56. -/
def BLV_STAT_WIDTH : Fld := ⟨0x18, 0x108, 6, 5⟩
/-- R56. -/
def BLV_STAT_STATE : Fld := ⟨0x18, 0x108, 2, 0⟩
/-- R56. -/
def BLV_EQ_POST : Fld := ⟨0x18, 0x110, 23, 16⟩
/-- R56. -/
def BLV_EQ_MAIN : Fld := ⟨0x18, 0x110, 15, 8⟩
/-- R56. -/
def BLV_EQ_PRE : Fld := ⟨0x18, 0x110, 7, 0⟩
/-- R56. -/
def BLV_CREDIT_TX_CREDIT : Fld := ⟨0x18, 0x118, 31, 16⟩
/-- R56. -/
def BLV_CREDIT_RX_FREE : Fld := ⟨0x18, 0x118, 15, 0⟩
/-- R56. -/
def BLV_FEC_CORR_COUNT : Fld := ⟨0x18, 0x120, 63, 0⟩
/-- R56. -/
def BLV_FEC_UNCORR_COUNT : Fld := ⟨0x18, 0x128, 63, 0⟩
/-- R56. -/
def BLV_REPLAY_COUNT : Fld := ⟨0x18, 0x130, 63, 0⟩
/-- R56. -/
def BLV_HDR_CRC_ERR_COUNT : Fld := ⟨0x18, 0x138, 63, 0⟩
/-- R56. -/
def BLV_EPOCH_SKEW_COUNT : Fld := ⟨0x18, 0x140, 63, 0⟩
/-- R56. -/
def BLV_LATE_COUNT : Fld := ⟨0x18, 0x148, 63, 0⟩
/-- R56. -/
def BLV_CANCEL_LATE : Fld := ⟨0x18, 0x150, 63, 32⟩
/-- R56. -/
def BLV_CANCEL_DONE : Fld := ⟨0x18, 0x150, 31, 0⟩
/-- R56. -/
def BLV_PORT_IDX_INDEX : Fld := ⟨0x18, 0x800, 6, 0⟩
/-- R56. -/
def BLV_PORT_CFG_INFLIGHT_MAX : Fld := ⟨0x18, 0x808, 63, 48⟩
/-- R56. -/
def BLV_PORT_CFG_STANDBY : Fld := ⟨0x18, 0x808, 10, 8⟩
/-- R56. -/
def BLV_PORT_CFG_LINK : Fld := ⟨0x18, 0x808, 7, 5⟩
/-- R56. -/
def BLV_PORT_CFG_ENABLE : Fld := ⟨0x18, 0x808, 0, 0⟩
/-- R56. -/
def BLV_PORT_STAT_NEXT_SEQ : Fld := ⟨0x18, 0x810, 63, 44⟩
/-- R56. -/
def BLV_PORT_STAT_STRANDED : Fld := ⟨0x18, 0x810, 17, 17⟩
/-- R56. -/
def BLV_PORT_STAT_OVERCOMMIT : Fld := ⟨0x18, 0x810, 16, 16⟩
/-- R56. -/
def BLV_PORT_STAT_INFLIGHT : Fld := ⟨0x18, 0x810, 15, 0⟩
/-- R80. -/
def ADM_CTL_RESERVE : Fld := ⟨0x12, 0x100, 7, 0⟩
/-- R80. -/
def ADM_PATH_T_NMO : Fld := ⟨0x12, 0x108, 31, 24⟩
/-- R80. -/
def ADM_PATH_T_XOUT : Fld := ⟨0x12, 0x108, 23, 16⟩
/-- R80. -/
def ADM_PATH_T_XIN : Fld := ⟨0x12, 0x108, 15, 8⟩
/-- R80. -/
def ADM_PATH_T_IN : Fld := ⟨0x12, 0x108, 7, 0⟩
/-- R80. -/
def ADM_DRAM_C_WSHARE : Fld := ⟨0x12, 0x110, 39, 32⟩
/-- R80. -/
def ADM_DRAM_C_ACT : Fld := ⟨0x12, 0x110, 31, 24⟩
/-- R80. -/
def ADM_DRAM_C_BUS : Fld := ⟨0x12, 0x110, 23, 16⟩
/-- R80. -/
def ADM_DRAM_T_TURN : Fld := ⟨0x12, 0x110, 15, 8⟩
/-- R80. -/
def ADM_DRAM_T_ACCESS : Fld := ⟨0x12, 0x110, 7, 0⟩
/-- R80. -/
def ADM_REF_RFM_CHARGE : Fld := ⟨0x12, 0x118, 55, 48⟩
/-- R80. -/
def ADM_REF_RAA_RFM_DEC : Fld := ⟨0x12, 0x118, 47, 40⟩
/-- R80. -/
def ADM_REF_RAA_REF_DEC : Fld := ⟨0x12, 0x118, 39, 32⟩
/-- R80. -/
def ADM_REF_RFM_TH : Fld := ⟨0x12, 0x118, 31, 24⟩
/-- R80. -/
def ADM_REF_T_RFM : Fld := ⟨0x12, 0x118, 23, 12⟩
/-- R80. -/
def ADM_REF_T_RFC : Fld := ⟨0x12, 0x118, 11, 0⟩
/-- R80. -/
def ADM_LINK_SLOT_PS : Fld := ⟨0x12, 0x120, 27, 16⟩
/-- R80. -/
def ADM_LINK_REPLAY : Fld := ⟨0x12, 0x120, 15, 8⟩
/-- R80. -/
def ADM_LINK_FIXED : Fld := ⟨0x12, 0x120, 7, 0⟩
/-- R80. -/
def ADM_PSG_RT : Fld := ⟨0x12, 0x160, 11, 0⟩
/-- R80. -/
def ADM_FSTEP_PENDING : Fld := ⟨0x12, 0x168, 19, 16⟩
/-- R80. -/
def ADM_FSTEP_GAP : Fld := ⟨0x12, 0x168, 15, 0⟩
/-- R80. -/
def ADM_URG_T3 : Fld := ⟨0x12, 0x170, 23, 16⟩
/-- R80. -/
def ADM_URG_T2 : Fld := ⟨0x12, 0x170, 15, 8⟩
/-- R80. -/
def ADM_URG_T1 : Fld := ⟨0x12, 0x170, 7, 0⟩
/-- R80. -/
def ADM_ACCEPTED_COUNT : Fld := ⟨0x12, 0x178, 63, 0⟩
/-- R80. -/
def ADM_REFUSED_COUNT : Fld := ⟨0x12, 0x180, 63, 0⟩
/-- R80. -/
def ADM_OVERRUN_COUNT : Fld := ⟨0x12, 0x188, 63, 0⟩
/-- R80. -/
def ADM_LAST_REFUSE_DEFICIT : Fld := ⟨0x12, 0x190, 63, 48⟩
/-- R80. -/
def ADM_LAST_REFUSE_REASON : Fld := ⟨0x12, 0x190, 42, 40⟩
/-- R80. -/
def ADM_LAST_REFUSE_SUBCH : Fld := ⟨0x12, 0x190, 36, 32⟩
/-- R80. -/
def ADM_LAST_REFUSE_PORT : Fld := ⟨0x12, 0x190, 9, 0⟩
/-- R80. -/
def ADM_PORT_IDX_INDEX : Fld := ⟨0x12, 0x800, 9, 0⟩
/-- R80. -/
def ADM_PORT_CFG_BOUND : Fld := ⟨0x12, 0x808, 16, 0⟩
/-- R80. -/
def ADM_PORT_STAT_REFUSALS : Fld := ⟨0x12, 0x810, 63, 32⟩
/-- R80. -/
def ADM_PORT_STAT_FENCE_ACTIVE : Fld := ⟨0x12, 0x810, 0, 0⟩
/-- R80. -/
def ADM_POOL_IDX_INDEX : Fld := ⟨0x12, 0x818, 11, 0⟩
/-- R80. -/
def ADM_POOL_CFG_INFLIGHT_MAX : Fld := ⟨0x12, 0x820, 63, 48⟩
/-- R80. -/
def ADM_POOL_CFG_OPS_RATE : Fld := ⟨0x12, 0x820, 47, 32⟩
/-- R80. -/
def ADM_POOL_CFG_ACT_RATE : Fld := ⟨0x12, 0x820, 31, 16⟩
/-- R80. -/
def ADM_POOL_CFG_ENABLE : Fld := ⟨0x12, 0x820, 0, 0⟩
/-- R80. -/
def ADM_POOL_BURST_OPS_BURST : Fld := ⟨0x12, 0x828, 63, 32⟩
/-- R80. -/
def ADM_POOL_BURST_ACT_BURST : Fld := ⟨0x12, 0x828, 31, 0⟩
/-- R80. -/
def ADM_POOL_STAT_INFLIGHT : Fld := ⟨0x12, 0x830, 63, 48⟩
/-- R80. -/
def ADM_POOL_STAT_OPS_TOKENS : Fld := ⟨0x12, 0x830, 47, 24⟩
/-- R80. -/
def ADM_POOL_STAT_ACT_TOKENS : Fld := ⟨0x12, 0x830, 23, 0⟩
/-- R81. -/
def ZON_CTL_SIDE : Fld := ⟨0x11, 0x100, 0, 0⟩
/-- R81. -/
def ZON_DENY_LOG_REASON : Fld := ⟨0x11, 0x108, 63, 60⟩
/-- R81. -/
def ZON_DENY_LOG_WIN : Fld := ⟨0x11, 0x108, 59, 48⟩
/-- R81. -/
def ZON_DENY_LOG_ADDR : Fld := ⟨0x11, 0x108, 35, 0⟩
/-- R81. -/
def ZON_OVERLAP_LOG_ADDR : Fld := ⟨0x11, 0x110, 63, 28⟩
/-- R81. -/
def ZON_OVERLAP_LOG_WIN_HI : Fld := ⟨0x11, 0x110, 27, 16⟩
/-- R81. -/
def ZON_OVERLAP_LOG_WIN_LO : Fld := ⟨0x11, 0x110, 11, 0⟩
/-- R81. -/
def ZON_DENY_CNT_COUNT : Fld := ⟨0x11, 0x118, 63, 0⟩
/-- R81. -/
def ZON_WIN_IDX_INDEX : Fld := ⟨0x11, 0x800, 11, 0⟩
/-- R81. -/
def ZON_WIN_A_PERM : Fld := ⟨0x11, 0x808, 58, 53⟩
/-- R81. -/
def ZON_WIN_A_TENANT_ANY : Fld := ⟨0x11, 0x808, 52, 52⟩
/-- R81. -/
def ZON_WIN_A_TENANT : Fld := ⟨0x11, 0x808, 51, 36⟩
/-- R81. -/
def ZON_WIN_A_BASE : Fld := ⟨0x11, 0x808, 35, 0⟩
/-- R81. -/
def ZON_WIN_B_VALID : Fld := ⟨0x11, 0x810, 63, 63⟩
/-- R81. -/
def ZON_WIN_B_KEY_W : Fld := ⟨0x11, 0x810, 43, 41⟩
/-- R81. -/
def ZON_WIN_B_OWNER : Fld := ⟨0x11, 0x810, 40, 40⟩
/-- R81. -/
def ZON_WIN_B_LAYOUT : Fld := ⟨0x11, 0x810, 39, 38⟩
/-- R81. -/
def ZON_WIN_B_CLASS : Fld := ⟨0x11, 0x810, 37, 36⟩
/-- R81. -/
def ZON_WIN_B_LIMIT : Fld := ⟨0x11, 0x810, 35, 0⟩
/-- R81. -/
def ZON_WIN_C_DBASE : Fld := ⟨0x11, 0x818, 31, 0⟩
/-- R81. -/
def ZON_WIN_D_CMASK : Fld := ⟨0x11, 0x820, 63, 0⟩
/-- R81. -/
def ZON_WIN_CMD_STATUS : Fld := ⟨0x11, 0x828, 10, 8⟩
/-- R81. -/
def ZON_WIN_CMD_READ : Fld := ⟨0x11, 0x828, 1, 1⟩
/-- R81. -/
def ZON_WIN_CMD_COMMIT : Fld := ⟨0x11, 0x828, 0, 0⟩
/-- R81. -/
def ZON_TEN_IDX_INDEX : Fld := ⟨0x11, 0x830, 15, 0⟩
/-- R81. -/
def ZON_TEN_CFG_VALID : Fld := ⟨0x11, 0x838, 12, 12⟩
/-- R81. -/
def ZON_TEN_CFG_POOL : Fld := ⟨0x11, 0x838, 11, 0⟩
/-- R82. -/
def PLZ_TRANSIT_MAX_OUT : Fld := ⟨0x10, 0x100, 15, 8⟩
/-- R82. -/
def PLZ_TRANSIT_MAX_IN : Fld := ⟨0x10, 0x100, 7, 0⟩
/-- R82. -/
def PLZ_CANCEL_LATE : Fld := ⟨0x10, 0x108, 63, 32⟩
/-- R82. -/
def PLZ_CANCEL_DONE : Fld := ⟨0x10, 0x108, 31, 0⟩
/-- R82. -/
def PLZ_DUP_DISCARD_COUNT : Fld := ⟨0x10, 0x110, 63, 0⟩
/-- R82. -/
def PLZ_URG3_COUNT : Fld := ⟨0x10, 0x118, 63, 0⟩
/-- R109. -/
def DRC_CTL_TARGET : Fld := ⟨0x20, 0x100, 3, 3⟩
/-- R109. -/
def DRC_CTL_STEP_REQ : Fld := ⟨0x20, 0x100, 2, 2⟩
/-- R109. -/
def DRC_CTL_ENABLE : Fld := ⟨0x20, 0x100, 0, 0⟩
/-- R109. -/
def DRC_STAT_TEMP : Fld := ⟨0x20, 0x108, 23, 16⟩
/-- R109. -/
def DRC_STAT_RATE_PEND : Fld := ⟨0x20, 0x108, 5, 5⟩
/-- R109. -/
def DRC_STAT_RATE2X : Fld := ⟨0x20, 0x108, 4, 4⟩
/-- R109. -/
def DRC_STAT_ACTIVE_SET : Fld := ⟨0x20, 0x108, 3, 3⟩
/-- R109. -/
def DRC_STAT_STEP_STATE : Fld := ⟨0x20, 0x108, 1, 0⟩
/-- R109. -/
def DRC_MAP_DENSITY : Fld := ⟨0x20, 0x110, 5, 4⟩
/-- R109. -/
def DRC_MAP_XOR_MODE : Fld := ⟨0x20, 0x110, 1, 0⟩
/-- R109. -/
def DRC_TSETA0_TFAW : Fld := ⟨0x20, 0x118, 63, 56⟩
/-- R109. -/
def DRC_TSETB0_TFAW : Fld := ⟨0x20, 0x128, 63, 56⟩
/-- R109. -/
def DRC_TSETA0_TRRD_S : Fld := ⟨0x20, 0x118, 55, 48⟩
/-- R109. -/
def DRC_TSETB0_TRRD_S : Fld := ⟨0x20, 0x128, 55, 48⟩
/-- R109. -/
def DRC_TSETA0_TWR : Fld := ⟨0x20, 0x118, 47, 40⟩
/-- R109. -/
def DRC_TSETB0_TWR : Fld := ⟨0x20, 0x128, 47, 40⟩
/-- R109. -/
def DRC_TSETA0_TRAS : Fld := ⟨0x20, 0x118, 39, 32⟩
/-- R109. -/
def DRC_TSETB0_TRAS : Fld := ⟨0x20, 0x128, 39, 32⟩
/-- R109. -/
def DRC_TSETA0_TRP : Fld := ⟨0x20, 0x118, 31, 24⟩
/-- R109. -/
def DRC_TSETB0_TRP : Fld := ⟨0x20, 0x128, 31, 24⟩
/-- R109. -/
def DRC_TSETA0_TRCD : Fld := ⟨0x20, 0x118, 23, 16⟩
/-- R109. -/
def DRC_TSETB0_TRCD : Fld := ⟨0x20, 0x128, 23, 16⟩
/-- R109. -/
def DRC_TSETA0_CWL : Fld := ⟨0x20, 0x118, 15, 8⟩
/-- R109. -/
def DRC_TSETB0_CWL : Fld := ⟨0x20, 0x128, 15, 8⟩
/-- R109. -/
def DRC_TSETA0_CL : Fld := ⟨0x20, 0x118, 7, 0⟩
/-- R109. -/
def DRC_TSETB0_CL : Fld := ⟨0x20, 0x128, 7, 0⟩
/-- R109. -/
def DRC_TSETA1_TXS : Fld := ⟨0x20, 0x120, 63, 48⟩
/-- R109. -/
def DRC_TSETB1_TXS : Fld := ⟨0x20, 0x130, 63, 48⟩
/-- R109. -/
def DRC_TSETA1_TRTW : Fld := ⟨0x20, 0x120, 47, 40⟩
/-- R109. -/
def DRC_TSETB1_TRTW : Fld := ⟨0x20, 0x130, 47, 40⟩
/-- R109. -/
def DRC_TSETA1_TWTR_L : Fld := ⟨0x20, 0x120, 39, 32⟩
/-- R109. -/
def DRC_TSETB1_TWTR_L : Fld := ⟨0x20, 0x130, 39, 32⟩
/-- R109. -/
def DRC_TSETA1_TREFI : Fld := ⟨0x20, 0x120, 31, 16⟩
/-- R109. -/
def DRC_TSETB1_TREFI : Fld := ⟨0x20, 0x130, 31, 16⟩
/-- R109. -/
def DRC_TSETA1_TRFC : Fld := ⟨0x20, 0x120, 15, 0⟩
/-- R109. -/
def DRC_TSETB1_TRFC : Fld := ⟨0x20, 0x130, 15, 0⟩
/-- R109. -/
def DRC_TSETB_COST_T_RFM : Fld := ⟨0x20, 0x138, 63, 52⟩
/-- R109. -/
def DRC_TSETB_COST_T_RFC : Fld := ⟨0x20, 0x138, 51, 40⟩
/-- R109. -/
def DRC_TSETB_COST_C_WSHARE : Fld := ⟨0x20, 0x138, 39, 32⟩
/-- R109. -/
def DRC_TSETB_COST_C_ACT : Fld := ⟨0x20, 0x138, 31, 24⟩
/-- R109. -/
def DRC_TSETB_COST_C_BUS : Fld := ⟨0x20, 0x138, 23, 16⟩
/-- R109. -/
def DRC_TSETB_COST_T_TURN : Fld := ⟨0x20, 0x138, 15, 8⟩
/-- R109. -/
def DRC_TSETB_COST_T_ACCESS : Fld := ⟨0x20, 0x138, 7, 0⟩
/-- R109. -/
def DRC_THERM_STEP_EN : Fld := ⟨0x20, 0x140, 32, 32⟩
/-- R109. -/
def DRC_THERM_STEP_LO : Fld := ⟨0x20, 0x140, 31, 24⟩
/-- R109. -/
def DRC_THERM_STEP_HI : Fld := ⟨0x20, 0x140, 23, 16⟩
/-- R109. -/
def DRC_THERM_RATE_LO : Fld := ⟨0x20, 0x140, 15, 8⟩
/-- R109. -/
def DRC_THERM_RATE_HI : Fld := ⟨0x20, 0x140, 7, 0⟩
/-- R109. -/
def DRC_SCRUB_ENABLE : Fld := ⟨0x20, 0x148, 32, 32⟩
/-- R109. -/
def DRC_SCRUB_PERIOD : Fld := ⟨0x20, 0x148, 31, 0⟩
/-- R109. -/
def DRC_ECC_CORR_COUNT : Fld := ⟨0x20, 0x150, 63, 0⟩
/-- R109. -/
def DRC_ECC_UNCORR_COUNT : Fld := ⟨0x20, 0x158, 63, 0⟩
/-- R109. -/
def DRC_POISON_SEEN_COUNT : Fld := ⟨0x20, 0x160, 63, 0⟩
/-- R109. -/
def DRC_ERR_LOG_PATROL : Fld := ⟨0x20, 0x168, 41, 41⟩
/-- R109. -/
def DRC_ERR_LOG_SYMBOLS : Fld := ⟨0x20, 0x168, 35, 32⟩
/-- R109. -/
def DRC_ERR_LOG_LINE : Fld := ⟨0x20, 0x168, 31, 0⟩
/-- R109. -/
def DRC_STEPS_IGNORED : Fld := ⟨0x20, 0x170, 63, 32⟩
/-- R109. -/
def DRC_STEPS_DONE : Fld := ⟨0x20, 0x170, 31, 0⟩
/-- R109. -/
def DRC_SUB_EST_MS : Fld := ⟨0x20, 0x180, 63, 48⟩
/-- R109. -/
def DRC_SUB_READY : Fld := ⟨0x20, 0x180, 1, 1⟩
/-- R109. -/
def DRC_SUB_OFFLINE : Fld := ⟨0x20, 0x180, 0, 0⟩
/-- R110. -/
def DRP_CTL_MARK : Fld := ⟨0x40, 0x100, 4, 3⟩
/-- R110. -/
def DRP_CTL_SET_EDIT : Fld := ⟨0x40, 0x100, 2, 2⟩
/-- R110. -/
def DRP_CTL_DEV_RESET : Fld := ⟨0x40, 0x100, 1, 1⟩
/-- R110. -/
def DRP_CTL_ENABLE : Fld := ⟨0x40, 0x100, 0, 0⟩
/-- R110. -/
def DRP_STAT_DRIFT : Fld := ⟨0x40, 0x108, 15, 8⟩
/-- R110. -/
def DRP_STAT_TRAINED_B : Fld := ⟨0x40, 0x108, 2, 2⟩
/-- R110. -/
def DRP_STAT_TRAINED_A : Fld := ⟨0x40, 0x108, 1, 1⟩
/-- R110. -/
def DRP_STAT_LOCKED : Fld := ⟨0x40, 0x108, 0, 0⟩
/-- R110. -/
def DRP_TRAIN_CTL_BURSTS : Fld := ⟨0x40, 0x110, 31, 24⟩
/-- R110. -/
def DRP_TRAIN_CTL_DONE : Fld := ⟨0x40, 0x110, 10, 10⟩
/-- R110. -/
def DRP_TRAIN_CTL_BUSY : Fld := ⟨0x40, 0x110, 9, 9⟩
/-- R110. -/
def DRP_TRAIN_CTL_GO : Fld := ⟨0x40, 0x110, 8, 8⟩
/-- R110. -/
def DRP_TRAIN_CTL_MODE : Fld := ⟨0x40, 0x110, 3, 0⟩
/-- R110. -/
def DRP_TRAIN_PAT_PAT_MODE : Fld := ⟨0x40, 0x118, 63, 63⟩
/-- R110. -/
def DRP_TRAIN_PAT_PATTERN : Fld := ⟨0x40, 0x118, 62, 0⟩
/-- R110. -/
def DRP_TRAIN_RES_PASS : Fld := ⟨0x40, 0x120, 44, 0⟩
/-- R110. -/
def DRP_DLY_IDX_PIN : Fld := ⟨0x40, 0x800, 5, 0⟩
/-- R110. -/
def DRP_DLY_VREF : Fld := ⟨0x40, 0x808, 39, 32⟩
/-- R110. -/
def DRP_DLY_RX_DLY : Fld := ⟨0x40, 0x808, 24, 16⟩
/-- R110. -/
def DRP_DLY_TX_DLY : Fld := ⟨0x40, 0x808, 8, 0⟩
/-- R136. -/
def PSG_CTL_FWD_END : Fld := ⟨0x28, 0x100, 7, 7⟩
/-- R136. -/
def PSG_CTL_SCRUB_EN : Fld := ⟨0x28, 0x100, 6, 6⟩
/-- R136. -/
def PSG_CTL_POISON_FIX : Fld := ⟨0x28, 0x100, 5, 5⟩
/-- R136. -/
def PSG_CTL_SOLO_OK : Fld := ⟨0x28, 0x100, 4, 4⟩
/-- R136. -/
def PSG_CTL_AUTO_RETRAIN : Fld := ⟨0x28, 0x100, 3, 3⟩
/-- R136. -/
def PSG_CTL_HALF_OK : Fld := ⟨0x28, 0x100, 2, 2⟩
/-- R136. -/
def PSG_CTL_TRAIN : Fld := ⟨0x28, 0x100, 1, 1⟩
/-- R136. -/
def PSG_CTL_ENABLE : Fld := ⟨0x28, 0x100, 0, 0⟩
/-- R136. -/
def PSG_STAT_CATCHUP : Fld := ⟨0x28, 0x108, 16, 16⟩
/-- R136. -/
def PSG_STAT_RESYNC_DST : Fld := ⟨0x28, 0x108, 15, 15⟩
/-- R136. -/
def PSG_STAT_FWD_ALL : Fld := ⟨0x28, 0x108, 14, 14⟩
/-- R136. -/
def PSG_STAT_SOLO : Fld := ⟨0x28, 0x108, 13, 13⟩
/-- R136. -/
def PSG_STAT_PARTNER : Fld := ⟨0x28, 0x108, 10, 8⟩
/-- R136. -/
def PSG_STAT_WIDTH : Fld := ⟨0x28, 0x108, 6, 5⟩
/-- R136. -/
def PSG_STAT_STATE : Fld := ⟨0x28, 0x108, 2, 0⟩
/-- R136. -/
def PSG_CFG_SETTLE : Fld := ⟨0x28, 0x110, 31, 16⟩
/-- R136. -/
def PSG_CFG_FWD_WIN : Fld := ⟨0x28, 0x110, 15, 0⟩
/-- R136. -/
def PSG_GEN_OWN_G : Fld := ⟨0x28, 0x118, 63, 0⟩
/-- R136. -/
def PSG_GEN_PARTNER_G : Fld := ⟨0x28, 0x120, 63, 0⟩
/-- R136. -/
def PSG_TAKEOVER_PARTNER_T : Fld := ⟨0x28, 0x128, 63, 32⟩
/-- R136. -/
def PSG_TAKEOVER_T : Fld := ⟨0x28, 0x128, 31, 0⟩
/-- R136. -/
def PSG_OWN_CMD_STATUS : Fld := ⟨0x28, 0x130, 29, 27⟩
/-- R136. -/
def PSG_OWN_CMD_FORCE : Fld := ⟨0x28, 0x130, 26, 26⟩
/-- R136. -/
def PSG_OWN_CMD_GO : Fld := ⟨0x28, 0x130, 25, 25⟩
/-- R136. -/
def PSG_OWN_CMD_TARGET : Fld := ⟨0x28, 0x130, 24, 24⟩
/-- R136. -/
def PSG_OWN_CMD_LAST : Fld := ⟨0x28, 0x130, 23, 12⟩
/-- R136. -/
def PSG_OWN_CMD_FIRST : Fld := ⟨0x28, 0x130, 11, 0⟩
/-- R136. -/
def PSG_SCRUB_PERIOD : Fld := ⟨0x28, 0x138, 31, 0⟩
/-- R136. -/
def PSG_RESYNC_REMAIN : Fld := ⟨0x28, 0x140, 56, 32⟩
/-- R136. -/
def PSG_RESYNC_RESERVE : Fld := ⟨0x28, 0x140, 7, 0⟩
/-- R136. -/
def PSG_DIVERGE_UNITS : Fld := ⟨0x28, 0x148, 24, 0⟩
/-- R136. -/
def PSG_MIRROR_LINES_COUNT : Fld := ⟨0x28, 0x150, 63, 0⟩
/-- R136. -/
def PSG_FWD_REFUSED_COUNT : Fld := ⟨0x28, 0x158, 63, 0⟩
/-- R136. -/
def PSG_SCRUB_TRANSIENT_COUNT : Fld := ⟨0x28, 0x160, 63, 0⟩
/-- R136. -/
def PSG_SCRUB_REPAIRED_COUNT : Fld := ⟨0x28, 0x168, 63, 0⟩
/-- R136. -/
def PSG_POISON_FIXED_COUNT : Fld := ⟨0x28, 0x170, 63, 0⟩
/-- R136. -/
def PSG_LAST_MISMATCH_LINE : Fld := ⟨0x28, 0x178, 31, 0⟩
/-- R162. -/
def PWR_CTL_CHECKPOINT : Fld := ⟨0x8, 0x100, 3, 3⟩
/-- R162. -/
def PWR_CTL_ABORT : Fld := ⟨0x8, 0x100, 2, 2⟩
/-- R162. -/
def PWR_CTL_SPEC_EN : Fld := ⟨0x8, 0x100, 1, 1⟩
/-- R162. -/
def PWR_CTL_BKUP_ARM : Fld := ⟨0x8, 0x100, 0, 0⟩
/-- R162. -/
def PWR_STAT_PREV_STATE : Fld := ⟨0x8, 0x108, 23, 20⟩
/-- R162. -/
def PWR_STAT_LOGIC_FAIL : Fld := ⟨0x8, 0x108, 16, 16⟩
/-- R162. -/
def PWR_STAT_RESET_DISCARD : Fld := ⟨0x8, 0x108, 15, 15⟩
/-- R162. -/
def PWR_STAT_SPEC : Fld := ⟨0x8, 0x108, 9, 9⟩
/-- R162. -/
def PWR_STAT_CKPT : Fld := ⟨0x8, 0x108, 8, 8⟩
/-- R162. -/
def PWR_STAT_PROVEN : Fld := ⟨0x8, 0x108, 7, 7⟩
/-- R162. -/
def PWR_STAT_ISO : Fld := ⟨0x8, 0x108, 6, 6⟩
/-- R162. -/
def PWR_STAT_MAIN_RAW : Fld := ⟨0x8, 0x108, 5, 5⟩
/-- R162. -/
def PWR_STAT_MAIN : Fld := ⟨0x8, 0x108, 4, 4⟩
/-- R162. -/
def PWR_STAT_STATE : Fld := ⟨0x8, 0x108, 3, 0⟩
/-- R162. -/
def PWR_SENSE_RETURN : Fld := ⟨0x8, 0x110, 47, 32⟩
/-- R162. -/
def PWR_SENSE_LOSS : Fld := ⟨0x8, 0x110, 31, 16⟩
/-- R162. -/
def PWR_SENSE_RET_QUAL : Fld := ⟨0x8, 0x110, 15, 8⟩
/-- R162. -/
def PWR_SENSE_LOSS_QUAL : Fld := ⟨0x8, 0x110, 7, 0⟩
/-- R162. -/
def PWR_RIDE_RESERVE : Fld := ⟨0x8, 0x118, 63, 56⟩
/-- R162. -/
def PWR_RIDE_WINDOW : Fld := ⟨0x8, 0x118, 55, 32⟩
/-- R162. -/
def PWR_RIDE_SPEC_DELAY : Fld := ⟨0x8, 0x118, 23, 0⟩
/-- R162. -/
def PWR_ENERGY_P_RIDE : Fld := ⟨0x8, 0x120, 63, 48⟩
/-- R162. -/
def PWR_ENERGY_E_UNIT : Fld := ⟨0x8, 0x120, 47, 24⟩
/-- R162. -/
def PWR_ENERGY_E_FIX : Fld := ⟨0x8, 0x120, 23, 0⟩
/-- R162. -/
def PWR_MARGIN_CK_SLACK : Fld := ⟨0x8, 0x128, 63, 32⟩
/-- R162. -/
def PWR_MARGIN_MARGIN : Fld := ⟨0x8, 0x128, 31, 0⟩
/-- R162. -/
def PWR_PROOF_D_MAX : Fld := ⟨0x8, 0x130, 56, 32⟩
/-- R162. -/
def PWR_PROOF_DIRTY : Fld := ⟨0x8, 0x130, 24, 0⟩
/-- R162. -/
def PWR_E_NEED_E_NEED : Fld := ⟨0x8, 0x138, 63, 32⟩
/-- R162. -/
def PWR_E_NEED_E_USE : Fld := ⟨0x8, 0x138, 31, 0⟩
/-- R162. -/
def PWR_DUMP_STAT_UNITS_WRITTEN : Fld := ⟨0x8, 0x140, 63, 32⟩
/-- R162. -/
def PWR_DUMP_STAT_ABORT_RESULT : Fld := ⟨0x8, 0x140, 5, 4⟩
/-- R162. -/
def PWR_DUMP_STAT_PHASE : Fld := ⟨0x8, 0x140, 3, 0⟩
/-- R162. -/
def PWR_DUMP_TIME_DURATION : Fld := ⟨0x8, 0x148, 31, 0⟩
/-- R162. -/
def PWR_LOG_OVF : Fld := ⟨0x8, 0x150, 16, 16⟩
/-- R162. -/
def PWR_LOG_ENTRIES : Fld := ⟨0x8, 0x150, 14, 0⟩
/-- R162. -/
def PWR_COUNTS_RIDES : Fld := ⟨0x8, 0x158, 63, 48⟩
/-- R162. -/
def PWR_COUNTS_DUMPS : Fld := ⟨0x8, 0x158, 47, 32⟩
/-- R162. -/
def PWR_COUNTS_ABANDONS : Fld := ⟨0x8, 0x158, 31, 16⟩
/-- R162. -/
def PWR_COUNTS_CHECKPOINTS : Fld := ⟨0x8, 0x158, 15, 0⟩
/-- R162. -/
def PWR_LOSS_TIME_POD_TIME : Fld := ⟨0x8, 0x160, 63, 0⟩
/-- R196. -/
def IMG_CTL_FORMAT : Fld := ⟨0x30, 0x100, 7, 7⟩
/-- R196. -/
def IMG_CTL_INTENT : Fld := ⟨0x30, 0x100, 6, 6⟩
/-- R196. -/
def IMG_CTL_RESHAPE : Fld := ⟨0x30, 0x100, 5, 5⟩
/-- R196. -/
def IMG_CTL_GC_EN : Fld := ⟨0x30, 0x100, 4, 4⟩
/-- R196. -/
def IMG_CTL_ENABLE : Fld := ⟨0x30, 0x100, 0, 0⟩
/-- R196. -/
def IMG_STAT_FAILED : Fld := ⟨0x30, 0x108, 63, 32⟩
/-- R196. -/
def IMG_STAT_DEGRADED : Fld := ⟨0x30, 0x108, 27, 24⟩
/-- R196. -/
def IMG_STAT_CLOSED : Fld := ⟨0x30, 0x108, 23, 20⟩
/-- R196. -/
def IMG_STAT_BOOT_RESULT : Fld := ⟨0x30, 0x108, 7, 4⟩
/-- R196. -/
def IMG_STAT_RESHAPING : Fld := ⟨0x30, 0x108, 3, 3⟩
/-- R196. -/
def IMG_STAT_REBUILDING : Fld := ⟨0x30, 0x108, 2, 2⟩
/-- R196. -/
def IMG_STAT_MODE : Fld := ⟨0x30, 0x108, 1, 1⟩
/-- R196. -/
def IMG_STAT_READY : Fld := ⟨0x30, 0x108, 0, 0⟩
/-- R196. -/
def IMG_GEN_COMMIT_G : Fld := ⟨0x30, 0x110, 63, 0⟩
/-- R196. -/
def IMG_GEN_PREV_G : Fld := ⟨0x30, 0x118, 63, 0⟩
/-- R196. -/
def IMG_GEN_OPEN_G : Fld := ⟨0x30, 0x120, 63, 0⟩
/-- R196. -/
def IMG_WSEQ_NEXT : Fld := ⟨0x30, 0x128, 63, 0⟩
/-- R196. -/
def IMG_DIRTY_UNITS : Fld := ⟨0x30, 0x130, 24, 0⟩
/-- R196. -/
def IMG_RATE_MBPS : Fld := ⟨0x30, 0x138, 31, 0⟩
/-- R196. -/
def IMG_CAP_ERASED : Fld := ⟨0x30, 0x140, 63, 32⟩
/-- R196. -/
def IMG_CAP_NEED : Fld := ⟨0x30, 0x140, 31, 0⟩
/-- R196. -/
def IMG_ANCHOR_CH2 : Fld := ⟨0x30, 0x148, 20, 16⟩
/-- R196. -/
def IMG_ANCHOR_CH1 : Fld := ⟨0x30, 0x148, 4, 0⟩
/-- R196. -/
def IMG_LOST_UNITS : Fld := ⟨0x30, 0x150, 24, 0⟩
/-- R196. -/
def IMG_WORK_RESHAPE_LEFT : Fld := ⟨0x30, 0x158, 56, 32⟩
/-- R196. -/
def IMG_WORK_REBUILD_LEFT : Fld := ⟨0x30, 0x158, 24, 0⟩
/-- R196. -/
def IMG_GC_SHARE : Fld := ⟨0x30, 0x160, 39, 32⟩
/-- R196. -/
def IMG_GC_RETAIN_DAYS : Fld := ⟨0x30, 0x160, 31, 16⟩
/-- R196. -/
def IMG_GC_CK_MIN : Fld := ⟨0x30, 0x160, 15, 0⟩
/-- R196. -/
def IMG_WEAR_MAX : Fld := ⟨0x30, 0x168, 63, 48⟩
/-- R196. -/
def IMG_WEAR_MIN : Fld := ⟨0x30, 0x168, 47, 32⟩
/-- R196. -/
def IMG_WEAR_SPREAD : Fld := ⟨0x30, 0x168, 31, 16⟩
/-- R196. -/
def IMG_RESHAPE_CFG_BATCH : Fld := ⟨0x30, 0x170, 24, 0⟩
/-- R196. -/
def IMG_COUNTS_COMMITS : Fld := ⟨0x30, 0x178, 63, 32⟩
/-- R196. -/
def IMG_COUNTS_RELOCATED : Fld := ⟨0x30, 0x178, 31, 0⟩
/-- R197. -/
def JCT_CTL_SELFTEST : Fld := ⟨0x31, 0x100, 1, 1⟩
/-- R197. -/
def JCT_CTL_ENABLE : Fld := ⟨0x31, 0x100, 0, 0⟩
/-- R197. -/
def JCT_STAT_KEY_VALID : Fld := ⟨0x31, 0x108, 1, 1⟩
/-- R197. -/
def JCT_STAT_SELFTEST_OK : Fld := ⟨0x31, 0x108, 0, 0⟩
/-- R197. -/
def JCT_KEY_CHECK_CHECK : Fld := ⟨0x31, 0x110, 63, 0⟩
/-- R197. -/
def JCT_SLOTS_COUNT : Fld := ⟨0x31, 0x118, 63, 0⟩
/-- R197. -/
def JCT_RECON_COUNT : Fld := ⟨0x31, 0x120, 63, 0⟩
/-- R198. -/
def ARC_CTL_ENABLE : Fld := ⟨0x38, 0x100, 0, 0⟩
/-- R198. -/
def ARC_STAT_CH_UP : Fld := ⟨0x38, 0x108, 15, 8⟩
/-- R198. -/
def ARC_STAT_PLL_LOCK : Fld := ⟨0x38, 0x108, 0, 0⟩
/-- R198. -/
def ARC_RATE_MTS : Fld := ⟨0x38, 0x110, 11, 0⟩
/-- R199. -/
def FCH_CTL_RETIRE : Fld := ⟨0x60, 0x100, 3, 3⟩
/-- R199. -/
def FCH_CTL_TRAIN : Fld := ⟨0x60, 0x100, 2, 2⟩
/-- R199. -/
def FCH_CTL_ENABLE : Fld := ⟨0x60, 0x100, 0, 0⟩
/-- R199. -/
def FCH_STAT_DIES : Fld := ⟨0x60, 0x108, 31, 16⟩
/-- R199. -/
def FCH_STAT_STATE : Fld := ⟨0x60, 0x108, 2, 0⟩
/-- R199. -/
def FCH_GEOM_BLOCKS : Fld := ⟨0x60, 0x110, 63, 49⟩
/-- R199. -/
def FCH_GEOM_PAGES : Fld := ⟨0x60, 0x110, 48, 36⟩
/-- R199. -/
def FCH_GEOM_PLANES : Fld := ⟨0x60, 0x110, 35, 34⟩
/-- R199. -/
def FCH_GEOM_SPARE : Fld := ⟨0x60, 0x110, 31, 16⟩
/-- R199. -/
def FCH_GEOM_DIE_EN : Fld := ⟨0x60, 0x110, 15, 0⟩
/-- R199. -/
def FCH_SLC_PREFIX : Fld := ⟨0x60, 0x118, 23, 16⟩
/-- R199. -/
def FCH_SLC_FEAT_ADDR : Fld := ⟨0x60, 0x118, 15, 8⟩
/-- R199. -/
def FCH_SLC_FEAT_VAL : Fld := ⟨0x60, 0x118, 7, 0⟩
/-- R199. -/
def FCH_TIME_T_PROG_MAX : Fld := ⟨0x60, 0x120, 63, 48⟩
/-- R199. -/
def FCH_TIME_T_ERASE_MAX : Fld := ⟨0x60, 0x120, 47, 32⟩
/-- R199. -/
def FCH_TIME_T_READ_MAX : Fld := ⟨0x60, 0x120, 31, 16⟩
/-- R199. -/
def FCH_TIME_RETRY_MAX : Fld := ⟨0x60, 0x120, 15, 8⟩
/-- R199. -/
def FCH_LDPC_CORR_COUNT : Fld := ⟨0x60, 0x128, 63, 0⟩
/-- R199. -/
def FCH_RETRIES_COUNT : Fld := ⟨0x60, 0x130, 63, 0⟩
/-- R199. -/
def FCH_UNREADABLE_COUNT : Fld := ⟨0x60, 0x138, 63, 0⟩
/-- R199. -/
def FCH_FAILS_PROG : Fld := ⟨0x60, 0x140, 63, 32⟩
/-- R199. -/
def FCH_FAILS_ERASE : Fld := ⟨0x60, 0x140, 31, 0⟩
/-- R199. -/
def FCH_SPARE_FAIL_TH : Fld := ⟨0x60, 0x148, 63, 48⟩
/-- R199. -/
def FCH_SPARE_LEFT : Fld := ⟨0x60, 0x148, 47, 32⟩
/-- R199. -/
def FCH_SPARE_REMAPPED : Fld := ⟨0x60, 0x148, 31, 16⟩
/-- R199. -/
def FCH_REMAP_IDX_INDEX : Fld := ⟨0x60, 0x800, 11, 0⟩
/-- R199. -/
def FCH_REMAP_VALID : Fld := ⟨0x60, 0x808, 63, 63⟩
/-- R199. -/
def FCH_REMAP_DIE : Fld := ⟨0x60, 0x808, 35, 32⟩
/-- R199. -/
def FCH_REMAP_BAD : Fld := ⟨0x60, 0x808, 31, 16⟩
/-- R199. -/
def FCH_REMAP_SPARE : Fld := ⟨0x60, 0x808, 15, 0⟩
/-- R219. -/
def IMG_RST_CTL_RECON_ABANDON : Fld := ⟨0x30, 0x180, 11, 11⟩
/-- R219. -/
def IMG_RST_CTL_RECON_DONE : Fld := ⟨0x30, 0x180, 10, 10⟩
/-- R219. -/
def IMG_RST_CTL_CLASS_ORDER : Fld := ⟨0x30, 0x180, 9, 4⟩
/-- R219. -/
def IMG_RST_CTL_ORDER : Fld := ⟨0x30, 0x180, 1, 0⟩
/-- R219. -/
def IMG_RST_CFG_JOIN_WAIT : Fld := ⟨0x30, 0x188, 63, 48⟩
/-- R219. -/
def IMG_RST_CFG_RESERVE : Fld := ⟨0x30, 0x188, 47, 40⟩
/-- R219. -/
def IMG_RST_CFG_LOST_WAIT : Fld := ⟨0x30, 0x188, 39, 32⟩
/-- R219. -/
def IMG_RST_CFG_HINT_BASE : Fld := ⟨0x30, 0x188, 31, 16⟩
/-- R219. -/
def IMG_RST_CFG_HINT_PER : Fld := ⟨0x30, 0x188, 15, 0⟩
/-- R219. -/
def IMG_RST_STAT_LEFT : Fld := ⟨0x30, 0x190, 56, 32⟩
/-- R219. -/
def IMG_RST_STAT_SOURCE : Fld := ⟨0x30, 0x190, 11, 8⟩
/-- R219. -/
def IMG_RST_STAT_RECON : Fld := ⟨0x30, 0x190, 4, 4⟩
/-- R219. -/
def IMG_RST_STAT_STALE : Fld := ⟨0x30, 0x190, 3, 3⟩
/-- R219. -/
def IMG_RST_STAT_HOLD : Fld := ⟨0x30, 0x190, 2, 2⟩
/-- R219. -/
def IMG_RST_STAT_JOIN_WAITING : Fld := ⟨0x30, 0x190, 1, 1⟩
/-- R219. -/
def IMG_RST_STAT_ACTIVE : Fld := ⟨0x30, 0x190, 0, 0⟩
/-- R219. -/
def IMG_RST_DEMAND_DROPPED : Fld := ⟨0x30, 0x198, 63, 32⟩
/-- R219. -/
def IMG_RST_DEMAND_PROMOTED : Fld := ⟨0x30, 0x198, 31, 0⟩
/-- R219. -/
def IMG_RST_TIME_DURATION : Fld := ⟨0x30, 0x1a0, 31, 0⟩
/-- R219. -/
def IMG_RLOG_IDX_COUNT : Fld := ⟨0x30, 0x1a8, 46, 32⟩
/-- R219. -/
def IMG_RLOG_IDX_RESULT : Fld := ⟨0x30, 0x1a8, 19, 18⟩
/-- R219. -/
def IMG_RLOG_IDX_BUSY : Fld := ⟨0x30, 0x1a8, 17, 17⟩
/-- R219. -/
def IMG_RLOG_IDX_APPLY : Fld := ⟨0x30, 0x1a8, 16, 16⟩
/-- R219. -/
def IMG_RLOG_IDX_INDEX : Fld := ⟨0x30, 0x1a8, 13, 0⟩
/-- R219. -/
def IMG_RLOG_D_DATA : Fld := ⟨0x30, 0x1b0, 63, 0⟩
/-- R240. -/
def PAK_CTL_AUTH : Fld := ⟨0x9, 0x100, 4, 4⟩
/-- R240. -/
def PAK_CTL_LEARN_STOP : Fld := ⟨0x9, 0x100, 3, 3⟩
/-- R240. -/
def PAK_CTL_LEARN : Fld := ⟨0x9, 0x100, 2, 2⟩
/-- R240. -/
def PAK_CTL_CHG_EN : Fld := ⟨0x9, 0x100, 1, 1⟩
/-- R240. -/
def PAK_CTL_ENABLE : Fld := ⟨0x9, 0x100, 0, 0⟩
/-- R240. -/
def PAK_STAT_LEARN : Fld := ⟨0x9, 0x108, 15, 12⟩
/-- R240. -/
def PAK_STAT_CHG : Fld := ⟨0x9, 0x108, 11, 8⟩
/-- R240. -/
def PAK_STAT_AUTH : Fld := ⟨0x9, 0x108, 7, 6⟩
/-- R240. -/
def PAK_STAT_COUNTED : Fld := ⟨0x9, 0x108, 5, 5⟩
/-- R240. -/
def PAK_STAT_DRAWN : Fld := ⟨0x9, 0x108, 4, 4⟩
/-- R240. -/
def PAK_STAT_PRESENT : Fld := ⟨0x9, 0x108, 3, 3⟩
/-- R240. -/
def PAK_STAT_REST : Fld := ⟨0x9, 0x108, 2, 2⟩
/-- R240. -/
def PAK_ID_ID : Fld := ⟨0x9, 0x110, 63, 0⟩
/-- R240. -/
def PAK_MEAS_TEMP : Fld := ⟨0x9, 0x118, 63, 48⟩
/-- R240. -/
def PAK_MEAS_CURRENT : Fld := ⟨0x9, 0x118, 31, 16⟩
/-- R240. -/
def PAK_MEAS_VOLT : Fld := ⟨0x9, 0x118, 15, 0⟩
/-- R240. -/
def PAK_SOC_SOC_V : Fld := ⟨0x9, 0x120, 47, 32⟩
/-- R240. -/
def PAK_SOC_SOC : Fld := ⟨0x9, 0x120, 15, 0⟩
/-- R240. -/
def PAK_CAP_CAP : Fld := ⟨0x9, 0x128, 15, 0⟩
/-- R240. -/
def PAK_IMP_STEPS : Fld := ⟨0x9, 0x130, 31, 16⟩
/-- R240. -/
def PAK_IMP_Z25 : Fld := ⟨0x9, 0x130, 15, 0⟩
/-- R240. -/
def PAK_ENERGY_E_USE : Fld := ⟨0x9, 0x138, 63, 32⟩
/-- R240. -/
def PAK_ENERGY_E_REM : Fld := ⟨0x9, 0x138, 31, 0⟩
/-- R240. -/
def PAK_LEARN_LAST_MAH : Fld := ⟨0x9, 0x140, 63, 48⟩
/-- R240. -/
def PAK_LEARN_Q_MAH : Fld := ⟨0x9, 0x140, 47, 32⟩
/-- R240. -/
def PAK_LEARN_RESULT : Fld := ⟨0x9, 0x140, 23, 20⟩
/-- R240. -/
def PAK_LEARN_REASON : Fld := ⟨0x9, 0x140, 19, 16⟩
/-- R240. -/
def PAK_CHG_SET_I : Fld := ⟨0x9, 0x148, 31, 16⟩
/-- R240. -/
def PAK_CHG_SET_V : Fld := ⟨0x9, 0x148, 15, 0⟩
/-- R240. -/
def PAK_QACC_CHARGE : Fld := ⟨0x9, 0x150, 63, 0⟩
/-- R241. -/
def MEAS_CTL_SHIP : Fld := ⟨0xb, 0x100, 1, 1⟩
/-- R241. -/
def MEAS_CTL_PROOF_MODE : Fld := ⟨0xb, 0x100, 0, 0⟩
/-- R241. -/
def MEAS_STAT_SHIP_PENDING : Fld := ⟨0xb, 0x108, 7, 7⟩
/-- R241. -/
def MEAS_STAT_SHIP_DISCARD : Fld := ⟨0xb, 0x108, 6, 6⟩
/-- R241. -/
def MEAS_STAT_COUNTED : Fld := ⟨0xb, 0x108, 3, 2⟩
/-- R241. -/
def MEAS_STAT_CLASS : Fld := ⟨0xb, 0x108, 1, 0⟩
/-- R241. -/
def MEAS_CFG_V_MIN : Fld := ⟨0xb, 0x110, 63, 48⟩
/-- R241. -/
def MEAS_CFG_P_PACK : Fld := ⟨0xb, 0x110, 47, 32⟩
/-- R241. -/
def MEAS_CFG_EFF : Fld := ⟨0xb, 0x110, 31, 24⟩
/-- R241. -/
def MEAS_CFG_ALLEY_RES : Fld := ⟨0xb, 0x110, 23, 0⟩
/-- R241. -/
def MEAS_FILT_REST_T : Fld := ⟨0xb, 0x118, 63, 48⟩
/-- R241. -/
def MEAS_FILT_REST_I : Fld := ⟨0xb, 0x118, 47, 32⟩
/-- R241. -/
def MEAS_FILT_GAIN_REST : Fld := ⟨0xb, 0x118, 31, 24⟩
/-- R241. -/
def MEAS_FILT_GAIN_LOAD : Fld := ⟨0xb, 0x118, 23, 16⟩
/-- R241. -/
def MEAS_FILT_Z_DIV : Fld := ⟨0xb, 0x118, 15, 8⟩
/-- R241. -/
def MEAS_FILT_STEP_MIN : Fld := ⟨0xb, 0x118, 7, 0⟩
/-- R241. -/
def MEAS_RATE_PARK_PER : Fld := ⟨0xb, 0x120, 47, 32⟩
/-- R241. -/
def MEAS_RATE_BURST : Fld := ⟨0xb, 0x120, 31, 24⟩
/-- R241. -/
def MEAS_RATE_Z_AT : Fld := ⟨0xb, 0x120, 23, 16⟩
/-- R241. -/
def MEAS_RATE_NORM_PER : Fld := ⟨0xb, 0x120, 15, 8⟩
/-- R241. -/
def MEAS_RATE_FAST_PER : Fld := ⟨0xb, 0x120, 7, 0⟩
/-- R241. -/
def MEAS_CHG_CHG_V : Fld := ⟨0xb, 0x128, 63, 48⟩
/-- R241. -/
def MEAS_CHG_CHG_I : Fld := ⟨0xb, 0x128, 47, 32⟩
/-- R241. -/
def MEAS_CHG_TAPER_I : Fld := ⟨0xb, 0x128, 31, 16⟩
/-- R241. -/
def MEAS_CHG_RECHG : Fld := ⟨0xb, 0x128, 15, 8⟩
/-- R241. -/
def MEAS_TEMP_CHG_LO : Fld := ⟨0xb, 0x130, 63, 56⟩
/-- R241. -/
def MEAS_TEMP_CHG_HI : Fld := ⟨0xb, 0x130, 55, 48⟩
/-- R241. -/
def MEAS_TEMP_DIS_LO : Fld := ⟨0xb, 0x130, 47, 40⟩
/-- R241. -/
def MEAS_TEMP_DIS_HI : Fld := ⟨0xb, 0x130, 39, 32⟩
/-- R241. -/
def MEAS_TEMP_LRN_LO : Fld := ⟨0xb, 0x130, 31, 24⟩
/-- R241. -/
def MEAS_TEMP_LRN_HI : Fld := ⟨0xb, 0x130, 23, 16⟩
/-- R241. -/
def MEAS_PACK_NOMINAL_MAH : Fld := ⟨0xb, 0x138, 63, 48⟩
/-- R241. -/
def MEAS_PACK_Z_NEW : Fld := ⟨0xb, 0x138, 47, 32⟩
/-- R241. -/
def MEAS_PACK_Z_LIMIT : Fld := ⟨0xb, 0x138, 31, 16⟩
/-- R241. -/
def MEAS_PACK_NEW_DERATE : Fld := ⟨0xb, 0x138, 15, 8⟩
/-- R241. -/
def MEAS_PACK_FLOOR : Fld := ⟨0xb, 0x138, 7, 0⟩
/-- R241. -/
def MEAS_LEARN_FULL_WAIT : Fld := ⟨0xb, 0x140, 63, 48⟩
/-- R241. -/
def MEAS_LEARN_LEARN_LIM : Fld := ⟨0xb, 0x140, 47, 40⟩
/-- R241. -/
def MEAS_AUTH_PERIOD : Fld := ⟨0xb, 0x148, 63, 48⟩
/-- R241. -/
def MEAS_AUTH_CHG_B : Fld := ⟨0xb, 0x148, 22, 16⟩
/-- R241. -/
def MEAS_AUTH_CHG_A : Fld := ⟨0xb, 0x148, 14, 8⟩
/-- R241. -/
def MEAS_AUTH_PACK : Fld := ⟨0xb, 0x148, 6, 0⟩
/-- R241. -/
def MEAS_OCV_IDX_INDEX : Fld := ⟨0xb, 0x800, 3, 0⟩
/-- R241. -/
def MEAS_OCV_MV : Fld := ⟨0xb, 0x808, 15, 0⟩
/-- R241. -/
def MEAS_TS_IDX_INDEX : Fld := ⟨0xb, 0x810, 2, 0⟩
/-- R241. -/
def MEAS_TS_TEMP : Fld := ⟨0xb, 0x818, 23, 16⟩
/-- R241. -/
def MEAS_TS_SCALE : Fld := ⟨0xb, 0x818, 15, 0⟩
/-- R266. -/
def SEQ_CTL_CHECK : Fld := ⟨0x80, 0x100, 8, 8⟩
/-- R266. -/
def SEQ_CTL_SWITCH : Fld := ⟨0x80, 0x100, 7, 7⟩
/-- R266. -/
def SEQ_CTL_ACTIVE : Fld := ⟨0x80, 0x100, 4, 4⟩
/-- R266. -/
def SEQ_CTL_ENABLE : Fld := ⟨0x80, 0x100, 0, 0⟩
/-- R266. -/
def SEQ_STAT_HW_ABI : Fld := ⟨0x80, 0x108, 63, 48⟩
/-- R266. -/
def SEQ_STAT_CTX_BANK : Fld := ⟨0x80, 0x108, 39, 36⟩
/-- R266. -/
def SEQ_STAT_SWITCH_BUSY : Fld := ⟨0x80, 0x108, 32, 32⟩
/-- R266. -/
def SEQ_STAT_SWITCH_RESULT : Fld := ⟨0x80, 0x108, 18, 16⟩
/-- R266. -/
def SEQ_CS_CHECK_CRC_B : Fld := ⟨0x80, 0x110, 63, 32⟩
/-- R266. -/
def SEQ_CS_CHECK_CRC_A : Fld := ⟨0x80, 0x110, 31, 0⟩
/-- R266. -/
def SEQ_LIMITS_WDOG : Fld := ⟨0x80, 0x118, 63, 48⟩
/-- R266. -/
def SEQ_LIMITS_RESTART_MAX : Fld := ⟨0x80, 0x118, 39, 32⟩
/-- R266. -/
def SEQ_LIMITS_TICK : Fld := ⟨0x80, 0x118, 31, 16⟩
/-- R266. -/
def SEQ_CTX_RESULT : Fld := ⟨0x80, 0x120, 63, 56⟩
/-- R266. -/
def SEQ_CTX_RESTARTS : Fld := ⟨0x80, 0x120, 55, 48⟩
/-- R266. -/
def SEQ_CTX_ROUTINE : Fld := ⟨0x80, 0x120, 47, 43⟩
/-- R266. -/
def SEQ_CTX_STATE : Fld := ⟨0x80, 0x120, 42, 40⟩
/-- R266. -/
def SEQ_CTX_DOORBELL : Fld := ⟨0x80, 0x120, 17, 17⟩
/-- R266. -/
def SEQ_CTX_STOP : Fld := ⟨0x80, 0x120, 16, 16⟩
/-- R266. -/
def SEQ_CTX_PC : Fld := ⟨0x80, 0x120, 13, 0⟩
/-- R266. -/
def SEQ_IP_BLOCKS : Fld := ⟨0x80, 0x140, 52, 40⟩
/-- R266. -/
def SEQ_IP_DESC : Fld := ⟨0x80, 0x140, 31, 16⟩
/-- R266. -/
def SEQ_CUST_BUDGET : Fld := ⟨0x80, 0x160, 63, 48⟩
/-- R266. -/
def SEQ_CUST_CKPT_POLL : Fld := ⟨0x80, 0x160, 47, 32⟩
/-- R266. -/
def SEQ_CUST_START_IDX : Fld := ⟨0x80, 0x160, 18, 16⟩
/-- R266. -/
def SEQ_CUST_START : Fld := ⟨0x80, 0x160, 8, 8⟩
/-- R266. -/
def SEQ_CUST_H1_EN : Fld := ⟨0x80, 0x160, 3, 3⟩
/-- R266. -/
def SEQ_CUST_H0_EN : Fld := ⟨0x80, 0x160, 2, 2⟩
/-- R266. -/
def SEQ_CUST_PRESENT : Fld := ⟨0x80, 0x160, 1, 1⟩
/-- R266. -/
def SEQ_CUST_WIN_LIMIT : Fld := ⟨0x80, 0x168, 63, 32⟩
/-- R266. -/
def SEQ_CUST_WIN_BASE : Fld := ⟨0x80, 0x168, 31, 0⟩
/-- R266. -/
def SEQ_EVT_EVT : Fld := ⟨0x80, 0x170, 7, 0⟩
/-- R266. -/
def SEQ_FAULT_LOG_CTX : Fld := ⟨0x80, 0x178, 63, 62⟩
/-- R266. -/
def SEQ_FAULT_LOG_BANK : Fld := ⟨0x80, 0x178, 61, 61⟩
/-- R266. -/
def SEQ_FAULT_LOG_CAUSE : Fld := ⟨0x80, 0x178, 55, 48⟩
/-- R266. -/
def SEQ_FAULT_LOG_PC : Fld := ⟨0x80, 0x178, 13, 0⟩
/-- R266. -/
def SEQ_COUNTS_RESTARTS : Fld := ⟨0x80, 0x180, 63, 32⟩
/-- R266. -/
def SEQ_COUNTS_ROUTINES : Fld := ⟨0x80, 0x180, 31, 0⟩
/-- R266. -/
def SEQ_CS_ERR_CORR : Fld := ⟨0x80, 0x188, 63, 32⟩
/-- R266. -/
def SEQ_CS_ERR_UNCORR : Fld := ⟨0x80, 0x188, 31, 0⟩
/-- R267. -/
def SEQ_CS_IDX_BANK : Fld := ⟨0x81, 0x800, 14, 14⟩
/-- R267. -/
def SEQ_CS_IDX_ADDR : Fld := ⟨0x81, 0x800, 13, 0⟩
/-- R267. -/
def SEQ_CS_W0_WORD_LO : Fld := ⟨0x81, 0x808, 63, 0⟩
/-- R267. -/
def SEQ_CS_W1_WORD_HI : Fld := ⟨0x81, 0x810, 63, 0⟩
/-- R292. -/
def MGT_CTL_CORE_RESTART : Fld := ⟨0x0, 0x100, 1, 1⟩
/-- R292. -/
def MGT_CTL_BOOT_OK : Fld := ⟨0x0, 0x100, 0, 0⟩
/-- R292. -/
def MGT_STAT_CAUSE : Fld := ⟨0x0, 0x108, 11, 8⟩
/-- R292. -/
def MGT_STAT_TRIAL : Fld := ⟨0x0, 0x108, 2, 2⟩
/-- R292. -/
def MGT_STAT_FALLBACK : Fld := ⟨0x0, 0x108, 1, 1⟩
/-- R292. -/
def MGT_STAT_HALF : Fld := ⟨0x0, 0x108, 0, 0⟩
/-- R292. -/
def MGT_BOOT_WDOG_MS : Fld := ⟨0x0, 0x110, 15, 0⟩
/-- R292. -/
def MGT_IRQ_SRC_VALID : Fld := ⟨0x0, 0x118, 8, 8⟩
/-- R292. -/
def MGT_IRQ_SRC_PAGE : Fld := ⟨0x0, 0x118, 7, 0⟩
/-- R292. -/
def MGT_UWIN_LIMIT : Fld := ⟨0x0, 0x120, 63, 32⟩
/-- R292. -/
def MGT_UWIN_BASE : Fld := ⟨0x0, 0x120, 31, 0⟩
/-- R292. -/
def MGT_TL_CTL_WIN : Fld := ⟨0x0, 0x140, 27, 16⟩
/-- R292. -/
def MGT_TL_CTL_SRC_SRAM : Fld := ⟨0x0, 0x140, 1, 1⟩
/-- R292. -/
def MGT_TL_CTL_GO : Fld := ⟨0x0, 0x140, 0, 0⟩
/-- R292. -/
def MGT_TL_LINE_LINE : Fld := ⟨0x0, 0x148, 35, 0⟩
/-- R292. -/
def MGT_TL_LEN_BYTES : Fld := ⟨0x0, 0x150, 31, 0⟩
/-- R292. -/
def MGT_TL_SRC_ADDR : Fld := ⟨0x0, 0x158, 63, 6⟩
/-- R292. -/
def MGT_TL_STAT_DONE : Fld := ⟨0x0, 0x160, 63, 32⟩
/-- R292. -/
def MGT_TL_STAT_STATUS : Fld := ⟨0x0, 0x160, 3, 0⟩
/-- R293. -/
def NVC_CTL_OWNER : Fld := ⟨0x88, 0x100, 9, 8⟩
/-- R293. -/
def NVC_CTL_LOCK : Fld := ⟨0x88, 0x100, 0, 0⟩
/-- R293. -/
def NVC_KEY_KEY : Fld := ⟨0x88, 0x108, 31, 0⟩
/-- R293. -/
def NVC_ADDR_ADDR : Fld := ⟨0x88, 0x110, 22, 0⟩
/-- R293. -/
def NVC_DATA_DATA : Fld := ⟨0x88, 0x118, 63, 0⟩
/-- R293. -/
def NVC_CMD_RESUME : Fld := ⟨0x88, 0x120, 10, 10⟩
/-- R293. -/
def NVC_CMD_SUSPEND : Fld := ⟨0x88, 0x120, 9, 9⟩
/-- R293. -/
def NVC_CMD_GO : Fld := ⟨0x88, 0x120, 8, 8⟩
/-- R293. -/
def NVC_CMD_AUTO : Fld := ⟨0x88, 0x120, 4, 4⟩
/-- R293. -/
def NVC_CMD_CMD : Fld := ⟨0x88, 0x120, 3, 0⟩
/-- R293. -/
def NVC_STAT_PULSES : Fld := ⟨0x88, 0x128, 19, 16⟩
/-- R293. -/
def NVC_STAT_RESULT : Fld := ⟨0x88, 0x128, 15, 12⟩
/-- R293. -/
def NVC_STAT_LEVEL : Fld := ⟨0x88, 0x128, 9, 8⟩
/-- R293. -/
def NVC_STAT_GUARD : Fld := ⟨0x88, 0x128, 4, 4⟩
/-- R293. -/
def NVC_STAT_KEY_LOCKOUT : Fld := ⟨0x88, 0x128, 3, 3⟩
/-- R293. -/
def NVC_STAT_UNLOCKED : Fld := ⟨0x88, 0x128, 2, 2⟩
/-- R293. -/
def NVC_STAT_SUSPENDED : Fld := ⟨0x88, 0x128, 1, 1⟩
/-- R293. -/
def NVC_STAT_BUSY : Fld := ⟨0x88, 0x128, 0, 0⟩
/-- R293. -/
def NVC_WAIT_WS_MIN : Fld := ⟨0x88, 0x130, 11, 8⟩
/-- R293. -/
def NVC_WAIT_WS : Fld := ⟨0x88, 0x130, 3, 0⟩
/-- R293. -/
def NVC_PROT_ACTIVE_WP : Fld := ⟨0x88, 0x138, 0, 0⟩
/-- R293. -/
def NVC_STALL_LONGEST : Fld := ⟨0x88, 0x140, 63, 32⟩
/-- R293. -/
def NVC_STALL_COUNT : Fld := ⟨0x88, 0x140, 31, 0⟩
/-- R293. -/
def NVC_SUSP_STARVE_MS : Fld := ⟨0x88, 0x148, 63, 48⟩
/-- R293. -/
def NVC_SUSP_STARVE_TH : Fld := ⟨0x88, 0x148, 47, 32⟩
/-- R293. -/
def NVC_SUSP_COUNT : Fld := ⟨0x88, 0x148, 31, 0⟩
/-- R293. -/
def NVC_INTR_VALID : Fld := ⟨0x88, 0x150, 63, 63⟩
/-- R293. -/
def NVC_INTR_SECTOR : Fld := ⟨0x88, 0x150, 62, 62⟩
/-- R293. -/
def NVC_INTR_ADDR : Fld := ⟨0x88, 0x150, 22, 0⟩
/-- R293. -/
def NVC_COUNTS_ERASES : Fld := ⟨0x88, 0x158, 63, 32⟩
/-- R293. -/
def NVC_COUNTS_PROGRAMS : Fld := ⟨0x88, 0x158, 31, 0⟩
/-- R328. -/
def RNG_CTL_ETYPE : Fld := ⟨0x90, 0x100, 63, 48⟩
/-- R328. -/
def RNG_CTL_POD_ID : Fld := ⟨0x90, 0x100, 47, 16⟩
/-- R328. -/
def RNG_CTL_REFORM : Fld := ⟨0x90, 0x100, 1, 1⟩
/-- R328. -/
def RNG_CTL_ENABLE : Fld := ⟨0x90, 0x100, 0, 0⟩
/-- R328. -/
def RNG_STAT_MEMBERS : Fld := ⟨0x90, 0x108, 55, 43⟩
/-- R328. -/
def RNG_STAT_HOP : Fld := ⟨0x90, 0x108, 39, 28⟩
/-- R328. -/
def RNG_STAT_MASTER : Fld := ⟨0x90, 0x108, 7, 7⟩
/-- R328. -/
def RNG_STAT_TOPO : Fld := ⟨0x90, 0x108, 3, 0⟩
/-- R328. -/
def RNG_MASTER_ID : Fld := ⟨0x90, 0x110, 63, 0⟩
/-- R328. -/
def RNG_CFG_STABLE_MS : Fld := ⟨0x90, 0x118, 63, 48⟩
/-- R328. -/
def RNG_CFG_HELLO_TMO_US : Fld := ⟨0x90, 0x118, 47, 32⟩
/-- R328. -/
def RNG_CFG_UNWRAP_MS : Fld := ⟨0x90, 0x118, 31, 16⟩
/-- R328. -/
def RNG_CFG_REG_REFRESH_MS : Fld := ⟨0x90, 0x118, 15, 0⟩
/-- R328. -/
def RNG_LAP_MAX : Fld := ⟨0x90, 0x120, 63, 32⟩
/-- R328. -/
def RNG_LAP_LAST : Fld := ⟨0x90, 0x120, 31, 0⟩
/-- R328. -/
def RNG_DUP_COUNT : Fld := ⟨0x90, 0x128, 63, 0⟩
/-- R328. -/
def RNG_DISCARD_COUNT : Fld := ⟨0x90, 0x130, 63, 0⟩
/-- R328. -/
def RNG_CANCEL_LATE : Fld := ⟨0x90, 0x138, 63, 32⟩
/-- R328. -/
def RNG_CANCEL_DONE : Fld := ⟨0x90, 0x138, 31, 0⟩
/-- R328. -/
def RNG_ALLEY_PERIOD_MS : Fld := ⟨0x90, 0x140, 63, 32⟩
/-- R328. -/
def RNG_ALLEY_GUARD_MIN_US : Fld := ⟨0x90, 0x140, 31, 16⟩
/-- R328. -/
def RNG_ALLEY_WIN_MS : Fld := ⟨0x90, 0x140, 15, 0⟩
/-- R328. -/
def RNG_TX_IDX_INDEX : Fld := ⟨0x90, 0x148, 3, 0⟩
/-- R328. -/
def RNG_TX_CTL_SEQ : Fld := ⟨0x90, 0x150, 63, 32⟩
/-- R328. -/
def RNG_TX_CTL_OFFSET : Fld := ⟨0x90, 0x150, 31, 19⟩
/-- R328. -/
def RNG_TX_CTL_LEN : Fld := ⟨0x90, 0x150, 18, 8⟩
/-- R328. -/
def RNG_TX_CTL_PORT : Fld := ⟨0x90, 0x150, 7, 6⟩
/-- R328. -/
def RNG_TX_CTL_RESEND : Fld := ⟨0x90, 0x150, 5, 5⟩
/-- R328. -/
def RNG_TX_CTL_RESULT : Fld := ⟨0x90, 0x150, 4, 3⟩
/-- R328. -/
def RNG_TX_CTL_BUSY : Fld := ⟨0x90, 0x150, 2, 2⟩
/-- R328. -/
def RNG_TX_CTL_CANCEL : Fld := ⟨0x90, 0x150, 1, 1⟩
/-- R328. -/
def RNG_TX_CTL_GO : Fld := ⟨0x90, 0x150, 0, 0⟩
/-- R328. -/
def RNG_REG_IDX_INDEX : Fld := ⟨0x90, 0x800, 11, 0⟩
/-- R328. -/
def RNG_REG_ID_VAULT_ID : Fld := ⟨0x90, 0x808, 63, 0⟩
/-- R328. -/
def RNG_REG_PARTNER_PARTNER_ID : Fld := ⟨0x90, 0x810, 63, 0⟩
/-- R328. -/
def RNG_REG_GEN_G : Fld := ⟨0x90, 0x818, 63, 0⟩
/-- R328. -/
def RNG_REG_INFO_T : Fld := ⟨0x90, 0x820, 63, 32⟩
/-- R328. -/
def RNG_REG_INFO_HOP : Fld := ⟨0x90, 0x820, 31, 16⟩
/-- R328. -/
def RNG_REG_INFO_FLAGS : Fld := ⟨0x90, 0x820, 15, 8⟩
/-- R328. -/
def RNG_REG_INFO_STATE : Fld := ⟨0x90, 0x820, 7, 4⟩
/-- R328. -/
def RNG_REG_INFO_VALID : Fld := ⟨0x90, 0x820, 0, 0⟩
/-- R329. -/
def RNE_CTL_WRAP_FORCE : Fld := ⟨0x91, 0x100, 1, 1⟩
/-- R329. -/
def RNE_CTL_ENABLE : Fld := ⟨0x91, 0x100, 0, 0⟩
/-- R329. -/
def RNE_STAT_NEIGH_PARKED : Fld := ⟨0x91, 0x108, 7, 7⟩
/-- R329. -/
def RNE_STAT_WRAPPED : Fld := ⟨0x91, 0x108, 6, 6⟩
/-- R329. -/
def RNE_STAT_STABLE : Fld := ⟨0x91, 0x108, 5, 5⟩
/-- R329. -/
def RNE_STAT_LOS : Fld := ⟨0x91, 0x108, 4, 4⟩
/-- R329. -/
def RNE_STAT_RATE : Fld := ⟨0x91, 0x108, 3, 2⟩
/-- R329. -/
def RNE_STAT_LINK : Fld := ⟨0x91, 0x108, 1, 1⟩
/-- R329. -/
def RNE_NEIGH_ID : Fld := ⟨0x91, 0x110, 63, 0⟩
/-- R329. -/
def RNE_DELAY_ASYM : Fld := ⟨0x91, 0x118, 63, 32⟩
/-- R329. -/
def RNE_DELAY_MEAN : Fld := ⟨0x91, 0x118, 31, 0⟩
/-- R329. -/
def RNE_RDV_GUARD_US : Fld := ⟨0x91, 0x120, 63, 32⟩
/-- R329. -/
def RNE_RDV_MISSES : Fld := ⟨0x91, 0x120, 15, 8⟩
/-- R329. -/
def RNE_RDV_MODE : Fld := ⟨0x91, 0x120, 1, 0⟩
/-- R329. -/
def RNE_FCS_COUNT : Fld := ⟨0x91, 0x128, 63, 0⟩
/-- R329. -/
def RNE_FRAMES_TX : Fld := ⟨0x91, 0x130, 63, 32⟩
/-- R329. -/
def RNE_FRAMES_RX : Fld := ⟨0x91, 0x130, 31, 0⟩
/-- R330. -/
def CEN_CTL_RELEASE : Fld := ⟨0x93, 0x100, 1, 1⟩
/-- R330. -/
def CEN_CTL_ARM : Fld := ⟨0x93, 0x100, 0, 0⟩
/-- R330. -/
def CEN_T_T : Fld := ⟨0x93, 0x108, 63, 0⟩
/-- R330. -/
def CEN_STAT_NUMBER : Fld := ⟨0x93, 0x110, 63, 32⟩
/-- R330. -/
def CEN_STAT_EPOCH : Fld := ⟨0x93, 0x110, 31, 30⟩
/-- R330. -/
def CEN_STAT_ARM_REFUSED : Fld := ⟨0x93, 0x110, 8, 8⟩
/-- R330. -/
def CEN_STAT_RESULT : Fld := ⟨0x93, 0x110, 7, 4⟩
/-- R330. -/
def CEN_STAT_STATE : Fld := ⟨0x93, 0x110, 3, 0⟩
/-- R330. -/
def CEN_CFG_LEAD_MS : Fld := ⟨0x93, 0x118, 63, 32⟩
/-- R330. -/
def CEN_CFG_TMO_MS : Fld := ⟨0x93, 0x118, 31, 16⟩
/-- R330. -/
def CEN_CFG_RESERVE : Fld := ⟨0x93, 0x118, 7, 0⟩
/-- R330. -/
def CEN_PROG_UNITS_LEFT : Fld := ⟨0x93, 0x120, 56, 32⟩
/-- R330. -/
def CEN_PROG_PASS_US : Fld := ⟨0x93, 0x120, 31, 0⟩
/-- R330. -/
def CEN_REPORT_MISSING : Fld := ⟨0x93, 0x128, 63, 32⟩
/-- R330. -/
def CEN_REPORT_DONE : Fld := ⟨0x93, 0x128, 31, 0⟩
/-- R330. -/
def CEN_WIN_IDX_INDEX : Fld := ⟨0x93, 0x800, 11, 0⟩
/-- R330. -/
def CEN_WIN_EN : Fld := ⟨0x93, 0x808, 63, 63⟩
/-- R330. -/
def CEN_WIN_SNAP_DBASE : Fld := ⟨0x93, 0x808, 31, 0⟩
/-- R331. -/
def TIME_NOW_NS : Fld := ⟨0x94, 0x100, 63, 0⟩
/-- R331. -/
def TIME_SET_NS : Fld := ⟨0x94, 0x108, 63, 0⟩
/-- R331. -/
def TIME_STAT_CLOSURE : Fld := ⟨0x94, 0x110, 63, 32⟩
/-- R331. -/
def TIME_STAT_WIDE : Fld := ⟨0x94, 0x110, 2, 2⟩
/-- R331. -/
def TIME_STAT_HOLDOVER : Fld := ⟨0x94, 0x110, 1, 1⟩
/-- R331. -/
def TIME_STAT_LOCKED : Fld := ⟨0x94, 0x110, 0, 0⟩
/-- R331. -/
def TIME_OFFSET_PS : Fld := ⟨0x94, 0x118, 31, 0⟩
/-- R331. -/
def TIME_CFG_STEP_NS : Fld := ⟨0x94, 0x120, 47, 32⟩
/-- R331. -/
def TIME_CFG_SYNC_US : Fld := ⟨0x94, 0x120, 31, 16⟩
/-- R331. -/
def TIME_CFG_PDELAY_AVG : Fld := ⟨0x94, 0x120, 15, 0⟩
/-- R350. -/
def FLT_CTL_CORE_HOLD_S : Fld := ⟨0x3, 0x100, 31, 16⟩
/-- R350. -/
def FLT_CTL_SEAL_NOW : Fld := ⟨0x3, 0x100, 1, 1⟩
/-- R350. -/
def FLT_CTL_FENCE_NOW : Fld := ⟨0x3, 0x100, 0, 0⟩
/-- R350. -/
def FLT_STAT_GRACE_RUN : Fld := ⟨0x3, 0x108, 15, 8⟩
/-- R350. -/
def FLT_STAT_RAISED_ANY : Fld := ⟨0x3, 0x108, 1, 1⟩
/-- R350. -/
def FLT_STAT_LOG_WRAP : Fld := ⟨0x3, 0x108, 0, 0⟩
/-- R350. -/
def FLT_SUMMARY_PAGES : Fld := ⟨0x3, 0x110, 63, 0⟩
/-- R350. -/
def FLT_COUNTS_EVENTS : Fld := ⟨0x3, 0x130, 63, 32⟩
/-- R350. -/
def FLT_COUNTS_GRACE_EXP : Fld := ⟨0x3, 0x130, 31, 16⟩
/-- R350. -/
def FLT_COUNTS_FORCED : Fld := ⟨0x3, 0x130, 15, 0⟩
/-- R350. -/
def FLT_ESC_IDX_SOURCE : Fld := ⟨0x4, 0x800, 12, 0⟩
/-- R350. -/
def FLT_ESC_A_WINDOW_MS : Fld := ⟨0x4, 0x808, 63, 32⟩
/-- R350. -/
def FLT_ESC_A_GRACE_US : Fld := ⟨0x4, 0x808, 31, 8⟩
/-- R350. -/
def FLT_ESC_A_N : Fld := ⟨0x4, 0x808, 7, 0⟩
/-- R350. -/
def FLT_ESC_B_COUNT : Fld := ⟨0x4, 0x810, 15, 8⟩
/-- R350. -/
def FLT_ESC_B_RAISED : Fld := ⟨0x4, 0x810, 7, 7⟩
/-- R350. -/
def FLT_ESC_B_EFF_CLASS : Fld := ⟨0x4, 0x810, 2, 0⟩
/-- R350. -/
def FLT_LOG_HEAD_NEXT : Fld := ⟨0x5, 0x100, 7, 0⟩
/-- R350. -/
def FLT_LOG_IDX_INDEX : Fld := ⟨0x5, 0x800, 7, 0⟩
/-- R350. -/
def FLT_LOG_TIME_POD_TIME : Fld := ⟨0x5, 0x808, 63, 0⟩
/-- R350. -/
def FLT_LOG_INFO_ACTION : Fld := ⟨0x5, 0x810, 23, 21⟩
/-- R350. -/
def FLT_LOG_INFO_HANDLED : Fld := ⟨0x5, 0x810, 20, 20⟩
/-- R350. -/
def FLT_LOG_INFO_RAISED : Fld := ⟨0x5, 0x810, 19, 19⟩
/-- R350. -/
def FLT_LOG_INFO_FORCED : Fld := ⟨0x5, 0x810, 18, 18⟩
/-- R350. -/
def FLT_LOG_INFO_CLASS : Fld := ⟨0x5, 0x810, 17, 15⟩
/-- R350. -/
def FLT_LOG_INFO_SOURCE : Fld := ⟨0x5, 0x810, 12, 0⟩
/-- R350. -/
def FLT_ACT_FENCE_TIME_POD_TIME : Fld := ⟨0x6, 0x100, 63, 0⟩
/-- R350. -/
def FLT_ACT_FENCE_COUNT : Fld := ⟨0x6, 0x108, 63, 32⟩
/-- R350. -/
def FLT_ACT_FENCE_FORCED : Fld := ⟨0x6, 0x108, 16, 16⟩
/-- R350. -/
def FLT_ACT_FENCE_PREV_STATE : Fld := ⟨0x6, 0x108, 15, 13⟩
/-- R350. -/
def FLT_ACT_FENCE_SOURCE : Fld := ⟨0x6, 0x108, 12, 0⟩
/-- R350. -/
def FLT_ACT_SEAL_TIME_POD_TIME : Fld := ⟨0x6, 0x110, 63, 0⟩
/-- R350. -/
def FLT_ACT_SEAL_FORCED : Fld := ⟨0x6, 0x118, 16, 16⟩
/-- R350. -/
def FLT_ACT_SEAL_SOURCE : Fld := ⟨0x6, 0x118, 12, 0⟩
/-- R350. -/
def FLT_INJ_TIME_POD_TIME : Fld := ⟨0x7, 0x100, 63, 0⟩
/-- R350. -/
def FLT_INJ_CTL_FIRED : Fld := ⟨0x7, 0x108, 14, 14⟩
/-- R350. -/
def FLT_INJ_CTL_ARM : Fld := ⟨0x7, 0x108, 13, 13⟩
/-- R350. -/
def FLT_INJ_CTL_SOURCE : Fld := ⟨0x7, 0x108, 12, 0⟩
/-- R366. -/
def BOOT_CTL_BOOT_DONE : Fld := ⟨0x2, 0x100, 2, 2⟩
/-- R366. -/
def BOOT_CTL_WARM_RESET : Fld := ⟨0x2, 0x100, 1, 1⟩
/-- R366. -/
def BOOT_STAT_DONE_REFUSE : Fld := ⟨0x2, 0x108, 23, 20⟩
/-- R366. -/
def BOOT_STAT_LAST_KIND : Fld := ⟨0x2, 0x108, 19, 16⟩
/-- R366. -/
def BOOT_STAT_ROM_WAIT : Fld := ⟨0x2, 0x108, 7, 7⟩
/-- R366. -/
def BOOT_STAT_RESET_HELD : Fld := ⟨0x2, 0x108, 6, 6⟩
/-- R366. -/
def BOOT_STAT_MIRROR_DISCARD : Fld := ⟨0x2, 0x108, 4, 4⟩
/-- R366. -/
def BOOT_STAT_BITMAP_KEPT : Fld := ⟨0x2, 0x108, 3, 3⟩
/-- R366. -/
def BOOT_STAT_DRAM_KEPT : Fld := ⟨0x2, 0x108, 2, 2⟩
/-- R366. -/
def BOOT_ID_VAULT_ID : Fld := ⟨0x2, 0x110, 63, 0⟩
/-- R366. -/
def BOOT_CFG_REG_WAIT_MS : Fld := ⟨0x2, 0x118, 31, 16⟩
/-- R366. -/
def BOOT_CFG_WRITE_CAP : Fld := ⟨0x2, 0x118, 15, 0⟩
/-- R366. -/
def BOOT_TIME_JOIN_MS : Fld := ⟨0x2, 0x120, 63, 32⟩
/-- R366. -/
def BOOT_TIME_DRAIN_NS : Fld := ⟨0x2, 0x120, 31, 0⟩
/-- R367. -/
def CLK_STAT_XTAL_OK : Fld := ⟨0x1, 0x100, 15, 15⟩
/-- R367. -/
def CLK_STAT_RC_FALLBACK : Fld := ⟨0x1, 0x100, 14, 14⟩
/-- R367. -/
def CLK_STAT_RING : Fld := ⟨0x1, 0x100, 13, 13⟩
/-- R367. -/
def CLK_STAT_PCIE : Fld := ⟨0x1, 0x100, 12, 12⟩
/-- R367. -/
def CLK_STAT_MGT : Fld := ⟨0x1, 0x100, 11, 11⟩
/-- R367. -/
def CLK_STAT_ARCADE : Fld := ⟨0x1, 0x100, 10, 7⟩
/-- R367. -/
def CLK_STAT_QUAD : Fld := ⟨0x1, 0x100, 6, 3⟩
/-- R367. -/
def CLK_STAT_SERDES_TX : Fld := ⟨0x1, 0x100, 1, 1⟩
/-- R367. -/
def CLK_STAT_CORE : Fld := ⟨0x1, 0x100, 0, 0⟩
/-- R367. -/
def CLK_XTAL_OFFSET_PPB : Fld := ⟨0x1, 0x108, 31, 0⟩
/-- R367. -/
def CLK_LOCK_LOSS_COUNT : Fld := ⟨0x1, 0x110, 63, 0⟩

/-- The default classes of a page's fault sources, by bit (R55, R79, R108, R135, R161, R195, R218, R239, R265, R291, R327,
R349, R365). Pages with no sources have none (R373). -/
def sourceClasses (page : Nat) : List Nat :=
  match page with
  | 0x00 => [2, 1, 2, 1]
  | 0x01 => [3, 3, 2, 2, 1, 2]
  | 0x02 => [2, 1, 1]
  | 0x03 => [0, 1, 3, 4, 3, 1, 3, 1]
  | 0x08 => [0, 0, 0, 2, 2, 2, 0, 2, 1]
  | 0x09 | 0x0A => [1, 2, 2, 2, 2, 1, 2, 1]
  | 0x0B => [2, 2, 1]
  | 0x10 => [2, 1, 3, 0]
  | 0x11 => [0, 0, 1, 3]
  | 0x12 => [2, 1, 1, 3]
  | 0x28 => [2, 1, 2, 2, 2, 2, 1, 2, 2, 3]
  | 0x30 => [2, 2, 2, 1, 0, 1, 1, 2, 1, 2, 2, 2, 0]
  | 0x31 => [3, 3, 1, 3]
  | 0x80 => [1, 2, 2, 2, 2, 2, 3, 1, 1, 1, 1]
  | 0x88 => [1, 1, 1, 2, 0, 1, 1, 0, 2, 1]
  | 0x90 => [2, 2, 2, 2]
  | 0x91 | 0x92 => [1, 1, 1, 1, 2]
  | 0x93 => [1, 1, 2]
  | 0x94 => [1, 1]
  | p =>
    if 0x18 ≤ p ∧ p ≤ 0x1F then [2, 1, 2, 2, 1, 1, 1, 1, 2, 0, 1]
    else if 0x20 ≤ p ∧ p ≤ 0x23 then [1, 2, 0, 3, 2, 2, 3, 1]
    else if 0x38 ≤ p ∧ p ≤ 0x3B then [2, 1]
    else if 0x40 ≤ p ∧ p ≤ 0x5F then [2, 1, 3]
    else if 0x60 ≤ p ∧ p ≤ 0x7F then [1, 1, 1, 0, 1, 2, 1]
    else []

/-- A source number: 32 x page index + bit (R332). -/
def srcNo (page bit : Nat) : Nat := 32 * page + bit

/-- The source is listed (R332). -/
def listedSource (n : Nat) : Bool := decide (n % 32 < (sourceClasses (n / 32)).length)

/-- The default class of a source. -/
def defaultClass (n : Nat) : Nat := (sourceClasses (n / 32)).getD (n % 32) 0

/-- PAGE_ID.BLOCK and PAGE_CAP.INSTANCES of a page (R400). -/
def pageBlock (page : Nat) : Nat × Nat :=
  if 0x03 ≤ page ∧ page ≤ 0x07 then (0x03, 5) else
  if page = 0x09 ∨ page = 0x0A then (0x09, 2) else
  if 0x18 ≤ page ∧ page ≤ 0x1F then (0x18, 8) else
  if 0x20 ≤ page ∧ page ≤ 0x23 then (0x20, 4) else
  if 0x38 ≤ page ∧ page ≤ 0x3B then (0x38, 4) else
  if 0x40 ≤ page ∧ page ≤ 0x5F then (0x40, 32) else
  if 0x60 ≤ page ∧ page ≤ 0x7F then (0x60, 32) else
  if page = 0x80 ∨ page = 0x81 then (0x80, 2) else
  if page = 0x91 ∨ page = 0x92 then (0x91, 2) else (page, 1)

/-- PAGE_CAP.DOMAIN25 (R400). -/
def pageDomain25 (page : Nat) : Bool :=
  page = 0x01 || page = 0x04 || page = 0x06 || page = 0x08 || page = 0x09 || page = 0x0A || page = 0x0B

/-- PAGE_CAP.WINDOW (R400). -/
def pageWindow (page : Nat) : Bool :=
  page = 0x04 || page = 0x05 || page = 0x0B || page = 0x11 || page = 0x12 || page = 0x81 || page = 0x90 || page = 0x93 ||
  (0x18 ≤ page && page ≤ 0x1F) || (0x40 ≤ page && page ≤ 0x5F) || (0x60 ≤ page && page ≤ 0x7F)

end Sys2Proof.Machine
end

