-- ==== Sys2Proof/Machine/Regs.lean ====
section
/-! DEFINITION. The registers: where each lies in State.regs, its reset value, and the one way to read and write a field.
A register of State is kept sparse against its reset value. Key: ((index × 4 + bank) × 256 + page) × 4096 + offset, where bank
0 is shared (and the core's own copies), 1 and 2 are the PCIe and ring copies of R378, 3 what is in force of a register that
takes effect later: the committed Zoning table (R75) and the geometry of an enabled flash channel (R199). -/
namespace Sys2Proof.Machine

/-- The bank of a requester's own copies (R378). -/
def reqBank : Requester → Nat
  | .core => 0
  | .pcie => 1
  | .ring => 2

/-- The key of a register. -/
def rkey (idx bank page off : Nat) : Nat := ((idx * 4 + bank) * 256 + page) * 4096 + off

def keyOff (k : Nat) : Nat := k % 4096
def keyPage (k : Nat) : Nat := k / 4096 % 256
def keyBank (k : Nat) : Nat := k / 1048576 % 4
def keyIdx (k : Nat) : Nat := k / 4194304

/-- The row of a register: the common header below 0x100, the block's registers above. -/
def findRow (page off : Nat) : Option RegRow :=
  if mappedPage page then
    if off < 0x100 then headerRegs.find? (fun r => r.off = off) else (blockRegs page).find? (fun r => r.off = off)
  else none

/-- The reset value a row gives. -/
def rowReset (r : RegRow) : Nat := r.fields.foldl (fun a f => a + f.reset * 2 ^ f.lo) 0

/-- FLT_CLASS at reset: the default classes of the page (R335). -/
def classReset (page : Nat) : Nat := ((sourceClasses page).zipIdx).foldl (fun a e => a + e.1 * 8 ^ e.2) 0

/-- PAGE_ID and PAGE_CAP of a page (R373, R400). -/
def pageId (page : Nat) : Nat := 0x01000000 + (page - (pageBlock page).1) * 0x10000 + (pageBlock page).1
def pageCap (page : Nat) : Nat :=
  (pageBlock page).2 * 256 + b2n (pageDomain25 page) * 128 + b2n (pageWindow page) * 64 + (sourceClasses page).length

/-- FLT_ESC_A at reset (R338, R350): window one day; grace 0 for FENCE_REQ and ISOLATED, 1,000 us for default class 3,
100,000 us otherwise; N = 4 for default class 3. -/
def escReset (src : Nat) : Nat :=
  let n := if defaultClass src = 3 then 4 else 0
  let g := if src = srcNo 3 2 ∨ src = srcNo 3 4 then 0 else if defaultClass src = 3 then 1000 else 100000
  if listedSource src then 86400000 * 2 ^ 32 + g * 256 + n else 0

/-- The open-circuit voltages of R221. -/
def ocvReset : List Nat := [12000, 13600, 14240, 14560, 14760, 14960, 15280, 15640, 16000, 16360, 16760]
/-- MEAS_TS at reset (R221): temperature in [23:16], scale in [15:0]. -/
def tsReset : List Nat :=
  [0xD80000 + 384, 0xEC0000 + 192, 0x000000 + 112, 0x190000 + 64, 0x3C0000 + 48]

/-- Reset values that differ by page or index from their row's. -/
def specialReset (page off idx : Nat) : Option Nat :=
  if off = 0x000 then some (pageId page) else
  if off = 0x008 then some (pageCap page) else
  if off = 0x010 then some (if page = 0x0B then 0x21 else 0x11) else
  if off = 0x038 then some (classReset page) else
  if off = 0x110 ∧ page = 0x02 then some Config.vaultId.toNat else
  if off = 0x808 ∧ 0x18 ≤ page ∧ page ≤ 0x1F then some ((page - 0x18) * 256 + (page - 0x18) * 32) else
  if off = 0x808 ∧ page = 0x0B then some (ocvReset.getD idx 0) else
  if off = 0x818 ∧ page = 0x0B then some (tsReset.getD idx 0) else
  if off = 0x808 ∧ page = 0x04 then some (escReset idx) else
  none

/-- The reset value of the register with key k (R354 and the register tables). -/
def resetWord (k : Nat) : Word :=
  let page := keyPage k
  let off := keyOff k
  match findRow page off with
  | none => 0
  | some r =>
    match specialReset page off (keyIdx k) with
    | some v => BitVec.ofNat 64 v
    | none => BitVec.ofNat 64 (rowReset r)

/-- A register. -/
def getReg (s : State) (k : Nat) : Word := sget (resetWord k) s.regs k

/-- Write a register, keeping the canonical form. -/
def setReg (s : State) (k : Nat) (v : Word) : State := { s with regs := sset (resetWord k) s.regs k v }

/-- The key of a field's register, entry `idx`, bank `bank`. -/
def Fld.key (f : Fld) (idx bank : Nat) : Nat := rkey idx bank f.page f.off

/-- A field of entry idx in bank b. -/
def fldIn (s : State) (f : Fld) (idx bank : Nat) : Nat := bitsOf (getReg s (f.key idx bank)).toNat f.hi f.lo
/-- Write a field of entry idx in bank b. -/
def setFldIn (s : State) (f : Fld) (idx bank v : Nat) : State :=
  setReg s (f.key idx bank) (BitVec.ofNat 64 (withBits (getReg s (f.key idx bank)).toNat f.hi f.lo v))

/-- A field. -/
def fld (s : State) (f : Fld) : Nat := fldIn s f 0 0
/-- Write a field. -/
def setFld (s : State) (f : Fld) (v : Nat) : State := setFldIn s f 0 0 v
/-- A one-bit field as a truth value. -/
def flag (s : State) (f : Fld) : Bool := fld s f != 0
/-- Write a one-bit field. -/
def setFlag (s : State) (f : Fld) (b : Bool) : State := setFld s f (b2n b)
/-- A field of an indexed entry. -/
def fldAt (s : State) (f : Fld) (idx : Nat) : Nat := fldIn s f idx 0
/-- Write a field of an indexed entry. -/
def setFldAt (s : State) (f : Fld) (idx v : Nat) : State := setFldIn s f idx 0 v

/-- The largest value of a field. -/
def Fld.max (f : Fld) : Nat := 2 ^ (f.hi + 1 - f.lo) - 1

/-- Add to a counter that saturates at all ones. -/
def bumpBy (s : State) (f : Fld) (n : Nat) : State := setFld s f (min f.max (fld s f + n))
/-- Count one. -/
def bump (s : State) (f : Fld) : State := bumpBy s f 1

/-- A field of the header of page p. -/
def hdrFld (page off hi lo : Nat) : Fld := ⟨page, off, hi, lo⟩
/-- PAGE_CTL.REMOTE, QUIESCE, ENABLE; PAGE_STAT.CTL_REFUSED, RESET_BUSY, IDLE, CLOCKED (R373). -/
def PAGE_CTL_REMOTE (page : Nat) : Fld := ⟨page, 0x010, 5, 4⟩
def PAGE_CTL_QUIESCE (page : Nat) : Fld := ⟨page, 0x010, 2, 2⟩
def PAGE_CTL_ENABLE (page : Nat) : Fld := ⟨page, 0x010, 0, 0⟩
def PAGE_STAT_CTL_REFUSED (page : Nat) : Fld := ⟨page, 0x018, 3, 3⟩
def PAGE_STAT_RESET_BUSY (page : Nat) : Fld := ⟨page, 0x018, 2, 2⟩
def PAGE_STAT_IDLE (page : Nat) : Fld := ⟨page, 0x018, 1, 1⟩
def PAGE_STAT_CLOCKED (page : Nat) : Fld := ⟨page, 0x018, 0, 0⟩
/-- FLT_STICKY, FLT_MASK, FLT_CLASS of a source; IRQ_PEND and PAGE_LOCK of a page (R373). -/
def FLT_STICKY_SRC (page bit : Nat) : Fld := ⟨page, 0x020, bit, bit⟩
def FLT_MASK_SRC (page bit : Nat) : Fld := ⟨page, 0x030, bit, bit⟩
def FLT_CLASS_SRC (page bit : Nat) : Fld := ⟨page, 0x038, 3 * bit + 2, 3 * bit⟩
def IRQ_PEND_BIT (page bit : Nat) : Fld := ⟨page, 0x048, bit, bit⟩
def IRQ_EN_BIT (page bit : Nat) : Fld := ⟨page, 0x040, bit, bit⟩
def PAGE_LOCK_LOCK (page : Nat) : Fld := ⟨page, 0x050, 0, 0⟩

/-- The page is locked (R374). -/
def locked (s : State) (page : Nat) : Bool := flag s (PAGE_LOCK_LOCK page)

/-- The block's clock runs: registers from 0x100 up respond (R375). -/
def pageRuns (s : State) (page : Nat) : Bool := flag s (PAGE_CTL_ENABLE page)

/-- The block accepts and begins new work: its clock runs and it is not quiesced (R375). -/
def accepts (s : State) (page : Nat) : Bool := pageRuns s page && !flag s (PAGE_CTL_QUIESCE page)

/-- An EVENT bit of a page becomes pending (R377). -/
def pendEvent (s : State) (page bit : Nat) : State := setFlag s (IRQ_PEND_BIT page bit) true

/-- The pages of the map (R382). -/
def allPages : List Nat := (List.range 0x95).filter mappedPage

end Sys2Proof.Machine
end

