-- ==== Sys2Proof/Machine/Ops.lean ====
section
/-! DEFINITION. The named operations every family uses: which parts are powered, the vault state, the pins, what leaves the
vault, free values, the DRAM lines, the sequencer's requests and events, and the ring registry. -/
namespace Sys2Proof.Machine

abbrev Res := Host.Outcome State Fault Refusal

/-- Go on from a next state; a stop stays. -/
def andThen (r : Res) (k : State → Res) : Res :=
  match r with
  | .next s => k s
  | .fault f => .fault f
  | .refused f => .refused f

/-! Vault states. -/

/-- The encoding of PWR_STAT.STATE (R162). -/
def stateCode : VaultState → Nat
  | .off => 0 | .ship => 1 | .boot => 2 | .join => 3 | .serve => 4 | .ride => 5 | .dump => 6 | .alley => 7
  | .restore => 8 | .culdesac => 9 | .fenced => 10 | .sealed => 11

/-- The state a code names. -/
def codeState (n : Nat) : Option VaultState :=
  [VaultState.off, .ship, .boot, .join, .serve, .ride, .dump, .alley, .restore, .culdesac, .fenced, .sealed][n]?

/-- States in which every clock domain is powered (R14). -/
def VaultState.full : VaultState → Bool
  | .boot | .join | .serve | .ride | .dump | .restore | .culdesac => true
  | _ => false

/-- States in which KERB_HOLD is driven while the logic rails are good (R14). -/
def VaultState.holds : VaultState → Bool
  | .join | .serve | .ride | .dump | .alley | .restore | .culdesac => true
  | _ => false

/-- Domain 25 runs: every state but OFF and SHIP with the supply present. -/
def aoUp (s : State) : Bool := s.rst.ao && decide (s.vault ≠ .off) && decide (s.vault ≠ .ship)

/-- The logic rails fell in the state shown (R14). -/
def logicFailed (s : State) : Bool := flag s PWR_STAT_LOGIC_FAIL

/-- Domains 1 to 19 run: a full state with the logic good and its enables risen (R14, R390). -/
def dataUp (s : State) : Bool := s.vault.full && !logicFailed s && !s.rst.raising

/-- Domain 20 runs: as the data path, and in FENCED, and in ALLEY during a rendezvous (R14). -/
def mgtUp (s : State) : Bool :=
  dataUp s || (!logicFailed s && ((decide (s.vault = .fenced) && s.pins.pgMr) || (decide (s.vault = .alley) && s.ring.awake)))

/-- Domains 22 to 24 run: as the data path, and in ALLEY during a rendezvous (R14). -/
def ringUp (s : State) : Bool :=
  dataUp s || (!logicFailed s && decide (s.vault = .alley) && s.ring.awake)

/-! What leaves the vault, and free values. -/

/-- One more output. -/
def emit (s : State) (o : Out) : State := { s with out := s.out ++ [o] }

/-- Draw a fresh free word (log 4, DESIGN CHOICE). -/
def drawWord (s : State) : Word × State := (Config.freeWord s.draws, { s with draws := s.draws + 1 })
/-- Draw a fresh free number (log 4, DESIGN CHOICE). -/
def drawNat (s : State) : Nat × State := (Config.freeNat s.draws, { s with draws := s.draws + 1 })
/-- Draw a fresh free line (log 4, DESIGN CHOICE). -/
def drawLine (s : State) : Line × State := (Config.freeLine s.draws, { s with draws := s.draws + 1 })

/-! DRAM lines. -/

/-- Installed units: 2^24 at DENSITY 0b10, 2^23 at 0b01, none otherwise (R86, R145). The four quadrants carry one DRC_MAP
each; the first is read (R86 requires them equal). -/
def installedUnits (s : State) : Nat :=
  match fld s DRC_MAP_DENSITY with
  | 1 => 2 ^ 23
  | 2 => 2 ^ 24
  | _ => 0

/-- Installed DRAM lines: 256 to the unit (R177). -/
def installedLines (s : State) : Nat := 256 * installedUnits s

/-- Byte at DRAM byte address a; an unlisted byte reads zero (log 3, DESIGN CHOICE). -/
def readByte (s : State) (a : Nat) : BitVec 8 := sget 0 s.dram.cells a

/-- The bytes of a line, low first. -/
def readBytes (s : State) (a : Nat) : Nat → Nat
  | 0 => 0
  | n + 1 => (readByte s a).toNat + 256 * readBytes s (a + 1) n

/-- The content of DRAM line l. -/
def readLine (s : State) (l : Nat) : Line := BitVec.ofNat 512 (readBytes s (64 * l) 64)

/-- Write n bytes of v from byte address a. -/
def putBytes (m : List Host.Cell) (a v : Nat) : Nat → List Host.Cell
  | 0 => m
  | n + 1 => putBytes (sset (0 : BitVec 8) m a (BitVec.ofNat 8 v)) (a + 1) (v / 256) n

/-- Write line l. -/
def writeLine (s : State) (l : Nat) (d : Line) : State :=
  { s with dram := { s.dram with cells := putBytes s.dram.cells (64 * l) d.toNat 64 } }

/-- The line is poisoned (R97). -/
def isPoison (s : State) (l : Nat) : Bool := s.dram.poison.contains l
/-- The line is written poisoned; a queued write-back of it is dropped (R96). -/
def setPoison (s : State) (l : Nat) : State :=
  { s with dram := { s.dram with poison := lins l s.dram.poison, writeBack := s.dram.writeBack.filter (fun e => e.1 ≠ l) } }
def clearPoison (s : State) (l : Nat) : State := { s with dram := { s.dram with poison := ldel l s.dram.poison } }

/-- The unit of a DRAM line (R177). -/
def unitOf (l : Nat) : Nat := l / 256

def isDirty (s : State) (u : Nat) : Bool := s.dram.dirty.get u
/-- A unit that becomes dirty counts for the next H0 poll (R262). -/
def setDirty (s : State) (u : Nat) (v : Bool) : State :=
  { s with dram := { s.dram with dirty := s.dram.dirty.set u v },
           seq := { s.seq with dirtied := if v && !isDirty s u then s.seq.dirtied + 1 else s.seq.dirtied } }
def isRestored (s : State) (u : Nat) : Bool := s.dram.restored.get u
def setRestored (s : State) (u : Nat) (v : Bool) : State :=
  { s with dram := { s.dram with restored := s.dram.restored.set u v } }
def isDiverged (s : State) (u : Nat) : Bool := s.dram.diverged.get u
def setDiverged (s : State) (u : Nat) (v : Bool) : State :=
  { s with dram := { s.dram with diverged := s.dram.diverged.set u v } }

/-- Dirty units (R145). -/
def dirtyUnits (s : State) : Nat := s.dram.dirty.count (installedUnits s)

/-- Every DRAM line is a line the installed devices hold; a command that names another stops (R83, R85). -/
def withLine (s : State) (l : Nat) (k : Res) : Res :=
  if l < installedLines s then k else .fault (.noSuchLine l)

/-- Lines l to l + n - 1 are installed (log 31, DESIGN CHOICE). -/
def withLines (s : State) (l n : Nat) (k : Res) : Res :=
  if l + n ≤ installedLines s then k else .fault (.noSuchLine (max l (installedLines s)))

/-! The sequencer's contexts. -/

def getCtx (s : State) (c : Fin 4) : CtxSt :=
  match c with
  | 0 => s.seq.ctx0 | 1 => s.seq.ctx1 | 2 => s.seq.ctx2 | 3 => s.seq.ctx3

def setCtx (s : State) (c : Fin 4) (x : CtxSt) : State :=
  match c with
  | 0 => { s with seq := { s.seq with ctx0 := x } }
  | 1 => { s with seq := { s.seq with ctx1 := x } }
  | 2 => { s with seq := { s.seq with ctx2 := x } }
  | 3 => { s with seq := { s.seq with ctx3 := x } }

/-- Event numbers of R251, in the table's order. -/
def evDump : Nat := 0
def evReturn : Nat := 1
def evLoss : Nat := 2
def evAbort : Nat := 3
def evPause : Nat := 4
def evResume : Nat := 5
def evLeave : Nat := 6
def evTick : Nat := 7
def evDoorbell : Nat := 8
def evMsgin : Nat := 9

/-- An event is raised for a context and waits for its yield point (R251). -/
def raiseEvent (s : State) (c : Fin 4) (e : Nat) : State :=
  let x := getCtx s c
  setCtx s c { x with events := lins e x.events }

/-- A start request for vector v; a second one merges (R244). -/
def requestRoutine (s : State) (c : Fin 4) (v : Nat) : State :=
  let x := getCtx s c
  setCtx s c { x with pend := lins v x.pend }

/-- The context stops at once: nothing is taken at a yield point and no pending request survives (R244). -/
def CtxSt.stopped (x : CtxSt) : CtxSt :=
  { x with run := 0, pend := [], events := [], irq := none, hook := none, commitAt := none, stopReq := false,
           blocks := 0, desc := 0 }

/-- Every context stops (R244); a speculative copy or checkpoint is abandoned with them (R355). -/
def stopContexts (s : State) : State :=
  let s1 := { s with seq := { s.seq with ctx0 := s.seq.ctx0.stopped, ctx1 := s.seq.ctx1.stopped,
                                         ctx2 := s.seq.ctx2.stopped, ctx3 := s.seq.ctx3.stopped } }
  setFlag (setFlag s1 PWR_STAT_SPEC false) PWR_STAT_CKPT false

/-! The ring. -/

/-- The field of a ring port's page. -/
def portFld (p : RingPort) (f : Fld) : Fld :=
  match p with
  | .east => f
  | .west => f.inst 1

def portSt (s : State) (p : RingPort) : PortSt :=
  match p with
  | .east => s.ring.east
  | .west => s.ring.west

def setPortSt (s : State) (p : RingPort) (x : PortSt) : State :=
  match p with
  | .east => { s with ring := { s.ring with east := x } }
  | .west => { s with ring := { s.ring with west := x } }

def otherPort : RingPort → RingPort
  | .east => .west
  | .west => .east

/-- The port has link (R323). -/
def portLink (s : State) (p : RingPort) : Bool := flag s (portFld p RNE_STAT_LINK)

/-- This vault's identifier (R9). -/
def vaultId (s : State) : Word := getReg s (BOOT_ID_VAULT_ID.key 0 0)

/-- This vault's registry entry (R309, R310). FLAGS: bit 1 PARKED in ALLEY; bit 2 RESYNCED. -/
def ownEntry (s : State) (resynced : Bool) : RegEntry :=
  { vaultId := vaultId s, partnerId := Config.partnerId, g := BitVec.ofNat 64 (fld s PSG_GEN_OWN_G),
    t := BitVec.ofNat 32 (fld s PSG_TAKEOVER_T), state := BitVec.ofNat 8 (stateCode s.vault),
    flags := BitVec.ofNat 8 (2 * b2n (decide (s.vault = .alley)) + 4 * b2n resynced),
    hop := BitVec.ofNat 16 (fld s RNG_STAT_HOP) }

/-- Merge a published entry into a stored one (R310). PROXY is bit 3: `hadOwn` says that an own publication of the vault has
arrived since formation, and a PROXY entry then sets neither STATE nor HOP. -/
def mergeEntry (hadOwn : Bool) (old new : RegEntry) : RegEntry :=
  let proxy := bitAt new.flags.toNat 3
  let fresh := !proxy || !hadOwn
  { vaultId := old.vaultId,
    partnerId := if fresh then new.partnerId else old.partnerId,
    g := if !proxy && bitAt new.flags.toNat 2 then new.g else if old.g.toNat < new.g.toNat then new.g else old.g,
    t := if old.t.toNat < new.t.toNat then new.t else old.t,
    state := if fresh then new.state else old.state,
    flags := if fresh then new.flags else old.flags,
    hop := if fresh then new.hop else old.hop }

/-- The registry with an entry merged in; it holds 4,096 entries (R309). -/
def mergeRegistry (hadOwn : Bool) (l : List RegEntry) (e : RegEntry) : List RegEntry :=
  if l.any (fun x => x.vaultId = e.vaultId) then
    l.map (fun x => if x.vaultId = e.vaultId then mergeEntry hadOwn x e else x)
  else if l.length < 4096 then l ++ [e] else l

def registryFind (s : State) (id : Word) : Option RegEntry := s.ring.registry.find? (fun e => e.vaultId = id)

/-- Merge an entry into this vault's registry; FLAGS bits 7:4 are reserved and ignored (R5, R309). -/
def mergeIntoRegistry (s : State) (e' : RegEntry) : State :=
  let r := s.ring
  let e := { e' with flags := e'.flags &&& 0x0F }
  { s with ring := { r with registry := mergeRegistry (r.ownSince.contains e.vaultId) r.registry e,
                            ownSince := if bitAt e.flags.toNat 3 || r.ownSince.contains e.vaultId then r.ownSince
                                        else r.ownSince ++ [e.vaultId] } }

/-! Ring frames. -/

/-- The header of a frame of this vault (R297). -/
def ownHdr (s : State) (dest : Word) : FrameHdr :=
  { fcsOk := true, etype := BitVec.ofNat 16 (fld s RNG_CTL_ETYPE), wrapped := false, resend := false, hops := 0,
    seq := s.ring.seq, origin := vaultId s, dest := dest, podId := BitVec.ofNat 32 (fld s RNG_CTL_POD_ID),
    incarn := s.ring.incarn }

def portWrapped (s : State) (p : RingPort) : Bool := flag s (portFld p RNE_STAT_WRAPPED)

/-- A frame leaves through port p, where it has link; a module without 1000BASE-LX transmits nothing in ALLEY (R294). -/
def frameOut (s : State) (p : RingPort) (typ : Nat) (f : FrameHdr) (b : RingBody) : State :=
  if portLink s p && !(decide (s.vault = .alley) && (portSt s p).rateErr) then
    bump (emit s (sentFrame p typ f b)) (portFld p RNE_FRAMES_TX)
  else s

/-- A frame that would leave through port p: through the other one, folded, where p is wrapped (R306). -/
def ringOut (s : State) (p : RingPort) (typ : Nat) (f : FrameHdr) (b : RingBody) : State :=
  if portWrapped s p then
    if portWrapped s (otherPort p) then s else frameOut s (otherPort p) typ { f with wrapped := true } b
  else frameOut s p typ f b

/-- The ring block runs, is enabled and accepts work (R375). -/
def ringOn (s : State) : Bool := ringUp s && flag s RNG_CTL_ENABLE && accepts s 0x90

/-- Send a frame of this vault East (R299), with its next SEQ. -/
def ringSend (s : State) (typ : Nat) (dest : Word) (b : RingBody) : State :=
  if flag s RNG_CTL_ENABLE then
    ringOut { s with ring := { s.ring with seq := s.ring.seq + 1 } } .east typ (ownHdr s dest) b
  else s

/-- Send a link-local frame of this vault through port p; a wrapped port still carries it. -/
def linkSend (s : State) (p : RingPort) (typ : Nat) (b : RingBody) : State :=
  if flag s RNG_CTL_ENABLE then
    frameOut { s with ring := { s.ring with seq := s.ring.seq + 1 } } p typ (ownHdr s 0) b
  else s

/-- Publish the vault's own entry: kept in domain 25 and, while the ring block runs, merged into the registry and sent on the
ring (R310). The REG of a fence or a seal leaves through both ports (R341). -/
def publishOn (s : State) (running resynced : Bool) : State :=
  let e := ownEntry s resynced
  let s1 := { s with ring := { s.ring with keptOwn := some e } }
  if running then
    let s2 := mergeIntoRegistry s1 e
    if s2.vault = .fenced ∨ s2.vault = .sealed then linkSend (linkSend s2 .east 0x20 (.reg e)) .west 0x20 (.reg e)
    else ringSend s2 0x20 0 (.reg e)
  else s1

/-- A publication while the state stays (R310). -/
def publish (s : State) : State := publishOn s (ringUp s) false

/-! Pins and the vault state. -/

/-- KERB_HOLD follows the state while the logic is good (R14, R19). -/
def kerbFor (s : State) : Bool := s.vault.holds && !logicFailed s

/-- The enables of R389: those a state clears are lowered, and their PG inputs fall with them (R390, R391); FENCED and SEALED raise
what they power and ALLEY left low. -/
def stateEnables (v : VaultState) (p : Pins) : Pins :=
  let core := v.full
  let mr := v.full || decide (v = .fenced)
  let pcie := v.full || decide (v = .fenced) || decide (v = .sealed)
  { p with enCore := p.enCore && core, enDram := p.enDram && core, enFlash := p.enFlash && core,
           pgCore := p.pgCore && core, pgDram := p.pgDram && core, pgFlash := p.pgFlash && core,
           enMr := (p.enMr && mr) || decide (v = .fenced), pgMr := p.pgMr && mr,
           enPcie := (p.enPcie && pcie) || decide (v = .fenced) || decide (v = .sealed), pgPcie := p.pgPcie && pcie }

/-- BKUP_EN is low in OFF and SHIP and in SERVE while BKUP_ARM is zero, and after a declared loss in FENCED or SEALED; it
is high otherwise (R138). -/
def bkupFor (s : State) : Bool :=
  match s.vault with
  | .off | .ship => false
  | .serve => flag s PWR_CTL_BKUP_ARM
  | .fenced | .sealed => s.pins.bkupEn
  | _ => true

/-- The pins that follow the state. -/
def settlePins (s : State) : State :=
  let p := stateEnables s.vault s.pins
  let off := decide (s.vault = .off) || decide (s.vault = .ship)
  { s with pins := { p with kerbHold := kerbFor s, bkupEn := bkupFor s, pakEnA := p.pakEnA && !off,
                            pakEnB := p.pakEnB && !off, pakLearnA := p.pakLearnA && !off,
                            pakLearnB := p.pakLearnB && !off } }

/-! The packs as the state moves. -/

def getPack (s : State) (p : PackId) : PackSt := match p with | .a => s.packA | .b => s.packB
def setPack (s : State) (p : PackId) (x : PackSt) : State :=
  match p with
  | .a => { s with packA := x }
  | .b => { s with packB := x }

/-- The field of a pack's page. -/
def pakF (p : PackId) (f : Fld) : Fld := match p with | .a => f | .b => f.inst 1

/-- States in which no authentication runs (R233). -/
def VaultState.noAuth : VaultState → Bool
  | .ride | .dump | .alley | .fenced | .sealed | .off | .ship => true
  | _ => false

def setLearnPin (s : State) (p : PackId) (v : Bool) : State :=
  match p with
  | .a => { s with pins := { s.pins with pakLearnA := v } }
  | .b => { s with pins := { s.pins with pakLearnB := v } }

/-- Learning of pack p is abandoned (R231), in phases 1 to 3. -/
def abandonLearn (s : State) (p : PackId) (reason : Nat) : State :=
  if fld s (pakF p PAK_STAT_LEARN) = 0 then s else
    setLearnPin (setFld (setFld (setFld s (pakF p PAK_STAT_LEARN) 0) (pakF p PAK_LEARN_RESULT) 3)
      (pakF p PAK_LEARN_REASON) reason) p false

/-- An attempt of an authentication begins (R233, steps 1 and 2): the identifier is read and a fresh nonce written. -/
def authAttempt (s : State) (p : PackId) (n : Nat) : State :=
  let bus := match p with | .a => 0 | .b => 1
  let (a, s1) := drawWord s
  let (b, s2) := drawWord s1
  let x := getPack s2 p
  let nonce : BitVec 128 := b ++ a
  let s3 := setFld (setPack s2 p { x with attempt := n, nonce := nonce }) (pakF p PAK_STAT_AUTH) 1
  emit (emit s3 (.smbus bus 0x72 0)) (.smbus bus 0x70 nonce.toNat)

/-- An authentication of pack p starts, unless one runs (R233). -/
def authStart (s : State) (p : PackId) : State :=
  let x := getPack s p
  if !x.present || s.vault.noAuth || decide (x.attempt ≠ 0) then s else
    authAttempt (setPack s p { x with authBefore := BitVec.ofNat 2 (fld s (pakF p PAK_STAT_AUTH)), authDue := false }) p 1

/-- A running authentication is abandoned: the pack keeps the status it had before (R233; log 40, DEDUCED). -/
def authAbandon (s : State) (p : PackId) : State :=
  let x := getPack s p
  if x.attempt = 0 then s
  else setFld (setPack s p { x with attempt := 0 }) (pakF p PAK_STAT_AUTH) x.authBefore.toNat

/-- What a change of state does to pack p: learning ends outside SERVE and RESTORE (R231), authentication in the states of
R233; an authentication that is due starts in SERVE and RESTORE. -/
def packFollows (s : State) (p : PackId) : State :=
  let serves := decide (s.vault = .serve) || decide (s.vault = .restore)
  let s1 := if serves then s else abandonLearn s p 3
  let s2 := if s.vault.noAuth then authAbandon s1 p else s1
  if serves && (getPack s2 p).authDue then authStart s2 p else s2

/-- The clocks of stopped domains are not locked (R14, R367). -/
def clocksFollow (s : State) : State :=
  if s.vault.full then s else
    let s1 := setFlag (setFlag (setFld (setFld s CLK_STAT_ARCADE 0) CLK_STAT_QUAD 0) CLK_STAT_SERDES_TX false) CLK_STAT_CORE false
    let s2 := setFlag s1 CLK_STAT_RING false
    let s3 := if s.vault = .fenced then s2 else setFlag s2 CLK_STAT_MGT false
    if s.vault = .fenced ∨ s.vault = .sealed then s3 else setFlag s3 CLK_STAT_PCIE false

/-! The Plaza's inputs (R76). -/

/-- The Plaza cycle in which the next line enters at an input: one line in a cycle. -/
def plazaCycle (inputs : Sparse Nat) (input now : Nat) : Nat := max ((now + cycleUnits - 1) / cycleUnits) (nget inputs input)
/-- In Plaza cycle t input i is connected to intermediate (i + t) mod 32. -/
def plazaInter (input t : Nat) : Nat := (input + t) % 32

/-! The reserve (R399). -/

/-- A Census with a snapshot fills, waits for its cut or copies (R317, R399). -/
def censusActive (s : State) : Bool :=
  s.cen.snap && decide (1 ≤ fld s CEN_STAT_STATE) && decide (fld s CEN_STAT_STATE ≤ 3)

/-- The mode of the Census is active: from the start of its fill, which the CENSUS routine makes as it starts, to the end of its
pass (R317, R399). -/
def censusReserve (s : State) : Bool := censusActive s && s.cen.filled

/-- The reserve in force (R399). -/
def reserveInForce (s : State) : Nat :=
  let a := fld s ADM_CTL_RESERVE
  let b := if s.vault = .ride ∨ flag s PWR_STAT_CKPT then max a (fld s PWR_RIDE_RESERVE) else a
  let c := if flag s PSG_STAT_FWD_ALL then max b (fld s PSG_RESYNC_RESERVE) else b
  let restoring := decide (s.vault = .restore) || (decide (s.vault = .ride) && decide (s.pwr.rideFrom = .restore))
  let d := if restoring then max c (fld s IMG_RST_CFG_RESERVE) else c
  if censusReserve s then max d (fld s CEN_CFG_RESERVE) else d

/-- The reserve in force as it was last noted. -/
def notedReserve (s : State) : Nat :=
  match s.adm.resHist.getLast? with
  | some e => e.2
  | none => s.adm.serviceReserve

/-- A change of the reserve in force is noted; the controllers follow it 66 us later (R399). -/
def noteReserve (s : State) : State :=
  if reserveInForce s = notedReserve s then s
  else { s with adm := { s.adm with resHist := s.adm.resHist ++ [(s.now, reserveInForce s)] } }

/-- The vault takes a transition of R15: the state and PREV_STATE, the PWR event, the pins, BKUP_ARM on an exit from SERVE
(R138), and the publication of R310, for which the ring block still runs at the fence and the seal (R341). -/
def setVault (s : State) (v : VaultState) : State :=
  let old := s.vault
  let s1 := setFld s PWR_STAT_PREV_STATE (stateCode old)
  let s2 := if old = .serve then setFlag s1 PWR_CTL_BKUP_ARM true else s1
  let stays := decide (v = .serve) || decide (v = .restore) || decide (v = .culdesac) || decide (v = .join)
  let r := s2.rst
  let rst : ResetSt := { r with drain := (if stays then r.drain else none), raising := r.raising && decide (v = .boot),
                                fencedReq := r.fencedReq && decide (v = .fenced) }
  let s3 := settlePins { s2 with vault := v, rst := rst }
  publishOn (noteReserve (clocksFollow (packFollows (packFollows (pendEvent s3 8 0) .a) .b))) (ringUp s || ringUp s3) (decide (old = .culdesac) && decide (v = .serve))

/-- SERVE, RESTORE or RIDE: the states that serve requests (R14). -/
def serving (s : State) : Bool :=
  match s.vault with
  | .serve | .ride | .restore => true
  | _ => false

end Sys2Proof.Machine
end

