-- ==== Sys2Proof/Machine/Wire.lean ====
section
/-! DEFINITION. What the links send (R20 to R28, R33, R43, R112 to R115): headers with their CRC, messages as slots, slots packed
into flits, the replay buffer, credit, and the Passage messages. Link 8 is the Passage. -/
namespace Sys2Proof.Machine

/-! Links. -/

/-- The receive and transmit state of a link. -/
def getLink (s : State) (l : Nat) : LinkSt := sget LinkSt.reset s.links l
def setLink (s : State) (l : Nat) (x : LinkSt) : State := { s with links := sset LinkSt.reset s.links l x }

/-- STATE, WIDTH, ENABLE and HALF_OK of link l. -/
def linkState (l : Nat) : Fld := if l < 8 then BLV_STAT_STATE.inst l else PSG_STAT_STATE
def linkWidth (l : Nat) : Fld := if l < 8 then BLV_STAT_WIDTH.inst l else PSG_STAT_WIDTH
def linkEnable (l : Nat) : Fld := if l < 8 then BLV_CTL_ENABLE.inst l else PSG_CTL_ENABLE
def linkHalfOk (l : Nat) : Fld := if l < 8 then BLV_CTL_HALF_OK.inst l else PSG_CTL_HALF_OK

/-- The Passage is up (R136). -/
def psgUp (s : State) : Bool := fld s PSG_STAT_STATE = 2

/-- The Passage is up, or trains at half width after a lane failure: messages wait for it (R22; log 56, DESIGN CHOICE). -/
def psgLive (s : State) : Bool := psgUp s || (decide (fld s PSG_STAT_STATE = 1) && (getLink s 8).keep)

/-! Slots. -/

/-- The CRC of header bits [111:0], low byte in byte 14 (R33). -/
def headerCrc (bits : Nat) : Nat := crc16 (bytesOf bits 14)

/-- The header slot of bits [111:0] with its CRC. -/
def headerSlotOf (bits : Nat) : Slot128 := BitVec.ofNat 128 (bits % 2 ^ 112 + headerCrc (bits % 2 ^ 112) * 2 ^ 112)

/-- A slot with its kind as SLOT_MAP spells it (R23): 0 idle, 1 header, 2 data, 3 control. -/
abbrev KindSlot := Nat × Slot128

/-- Bits [111:0] of a response header (R43). -/
def Response.bits (r : Response) : Nat :=
  r.status.toNat + r.port.toNat * 2 ^ 4 + r.tag.toNat * 2 ^ 14 + r.seq.toNat * 2 ^ 30 + r.epoch.toNat * 2 ^ 50 +
    r.hint.toNat * 2 ^ 52 + b2n r.swapped * 2 ^ 68 + r.slot.toNat * 2 ^ 69 + b2n r.bucketFull * 2 ^ 72

/-- A response as slots (R24, R43). -/
def Response.message (r : Response) : List KindSlot := (1, headerSlotOf r.bits) :: r.data.map (fun d => (2, d))

/-- Slots of a response. -/
def Response.slots (r : Response) : Nat := 1 + r.data.length

/-- Bits [111:0] of a Passage header (R113). -/
def PsgMsg.bits (m : PsgMsg) : Nat :=
  m.typ % 16 + m.win % 2 ^ 12 * 2 ^ 10 + m.count % 64 * 2 ^ 22 + m.line % 2 ^ 32 * 2 ^ 28 + m.arg % 16 * 2 ^ 60 +
    m.mseq % 2 ^ 32 * 2 ^ 64

/-- A Passage message as slots (R113). -/
def PsgMsg.message (m : PsgMsg) : List KindSlot := (1, headerSlotOf m.bits) :: m.data.map (fun d => (2, d))
def PsgMsg.slots (m : PsgMsg) : Nat := 1 + m.data.length

/-- A CREDIT control slot that returns n slots, and a CANCEL_DONE (R28). -/
def creditSlot (n : Nat) : Slot128 := BitVec.ofNat 128 (1 + n % 2 ^ 16 * 2 ^ 16)
def cancelDoneSlot (port : BitVec 10) (tag : BitVec 16) (result : Nat) : Slot128 :=
  BitVec.ofNat 128 (3 + port.toNat * 2 ^ 4 + tag.toNat * 2 ^ 14 + result % 4 * 2 ^ 30)

/-- What waits for transmit credit, as slots. -/
def TxMsg.message : TxMsg → List KindSlot
  | .response r _ => r.message
  | .control d => [(3, d)]
def TxMsg.slots : TxMsg → Nat
  | .response r _ => r.slots
  | .control _ => 1
/-- The port of what waits (R28, R43). -/
def TxMsg.port : TxMsg → Nat
  | .response r _ => r.port.toNat
  | .control d => bitsOf d.toNat 13 4

/-! Flits (R23, R25). -/

/-- SLOT_MAP: slot 0 in bits [1:0]. -/
def slotMapOf : List KindSlot → Nat
  | [] => 0
  | k :: l => k.1 % 4 + 4 * slotMapOf l

/-- FLIT_CRC over bytes 0 to 263 (R23). -/
def flitCrcOf (map hdr : BitVec 32) (slots : List Slot128) : Nat :=
  crc32 (bytesOf map.toNat 4 ++ bytesOf hdr.toNat 4 ++ slots.flatMap (fun d => bytesOf d.toNat 16))

/-- LINK_HDR (R23). -/
def linkHdrOf (ackValid nak : Bool) (ack seq : BitVec 12) : BitVec 32 :=
  BitVec.ofNat 32 (seq.toNat + ack.toNat * 2 ^ 12 + b2n nak * 2 ^ 24 + b2n ackValid * 2 ^ 25)

/-- The flit as it leaves: ACK names the last good flit received, ACK_VALID is zero where none has come since the link came up;
`nak` is the ACK of a NAK (log 32, DEDUCED). -/
def SentFlit.out (f : SentFlit) (x : LinkSt) (nak : Option (BitVec 12)) : TxFlit :=
  let ack := (nak.or x.rxSeq).getD 0
  let hdr := linkHdrOf x.rxSeq.isSome nak.isSome ack f.seq
  ⟨f.slotMap, hdr, f.slots, BitVec.ofNat 32 (flitCrcOf f.slotMap hdr f.slots)⟩

/-- Flits of the replay buffer of a link (R25, R112). -/
def replayDepth (l : Nat) : Nat := if l < 8 then 512 else 1024

/-- The next flit of a link with these slots, the rest idle. -/
def nextFlit (x : LinkSt) (ks : List KindSlot) (resp : Option (Response × Option Nat)) : SentFlit :=
  ⟨x.txSeq, BitVec.ofNat 32 (slotMapOf ks), padTake 0 16 (ks.map (fun k => k.2)), resp⟩

/-- A flit leaves and is kept until acknowledged. The flit beyond the depth of the replay buffer pushes the oldest one out: the far
side had to acknowledge it before (R25; log 56, DESIGN CHOICE). -/
def sendFlit (s : State) (l : Nat) (ks : List KindSlot) (resp : Option (Response × Option Nat)) (nak : Option (BitVec 12)) : State :=
  let x := getLink s l
  let f := nextFlit x ks resp
  let kept := x.sent ++ [f]
  emit (setLink s l { x with sent := kept.drop (kept.length - replayDepth l), txSeq := x.txSeq + 1 }) (.flit l (f.out x nak))

/-- Slots leave sixteen to the flit; the last flit carries the end of the message. A message begins a flit of its own
(log 11, DESIGN CHOICE). -/
def sendSlots : Nat → State → Nat → List KindSlot → Option (Response × Option Nat) → State
  | 0, s, _, _, _ => s
  | n + 1, s, l, ks, resp =>
    if ks.length ≤ 16 then sendFlit s l ks resp none
    else sendSlots n (sendFlit s l (ks.take 16) none none) l (ks.drop 16) resp

def sendMessage (s : State) (l : Nat) (ks : List KindSlot) (resp : Option (Response × Option Nat)) : State :=
  sendSlots (ks.length + 1) s l ks resp

/-! Credit (R27). -/

/-- Slots the far side has granted. -/
def txCredit (s : State) (l : Nat) : Nat := if l < 8 then fld s (BLV_CREDIT_TX_CREDIT.inst l) else s.psg.credit
def setTxCredit (s : State) (l n : Nat) : State :=
  if l < 8 then setFld s (BLV_CREDIT_TX_CREDIT.inst l) n else { s with psg := { s.psg with credit := n } }

/-- Free slots of the receive buffer, and its size. -/
def rxFree (s : State) (l : Nat) : Nat := if l < 8 then fld s (BLV_CREDIT_RX_FREE.inst l) else s.psg.rxFree
def setRxFree (s : State) (l n : Nat) : State :=
  if l < 8 then setFld s (BLV_CREDIT_RX_FREE.inst l) n else { s with psg := { s.psg with rxFree := n } }
def rxSize (l : Nat) : Nat := if l < 8 then 4096 else 8192

/-- Receive slots of a link are free again and owed to the far side; a warm reset's drain stops their return (R27, R355). -/
def freeRx (s : State) (l n : Nat) : State :=
  if s.rst.drain.isSome then s
  else
    let x := getLink s l
    setRxFree (setLink s l { x with owed := x.owed + n }) l (min (rxSize l) (rxFree s l + n))

/-- The slots owed leave in a CREDIT control slot, at most 4,096 in one, once a credit allows it (R27, R28; log 56,
DESIGN CHOICE). -/
def returnCredit (s : State) (l : Nat) : State :=
  let x := getLink s l
  if x.owed = 0 || decide (fld s (linkState l) ≠ 2) || decide (txCredit s l = 0) || s.rst.drain.isSome then s
  else
    let n := min 4096 x.owed
    sendMessage (setTxCredit (setLink s l { x with owed := x.owed - n }) l (txCredit s l - 1)) l [(3, creditSlot n)] none

/-! Passage messages. -/

/-- MIRROR, MIRROR_ACK, OWN_* and NOTICE go ahead of all other Passage traffic (R115). -/
def PsgMsg.urgent (m : PsgMsg) : Bool := [1, 2, 5, 6, 7, 0xD].contains m.typ

/-- A MIRROR and a STREAM share a DRAM line. -/
def PsgMsg.meets (m x : PsgMsg) : Bool :=
  decide (m.typ = 1) && decide (x.typ = 3) && decide (m.line < x.line + x.data.length / 4) &&
    decide (x.line < m.line + m.data.length / 4)

/-- Where a message takes its place among those that wait: an urgent one ahead of the rest, but a MIRROR behind a STREAM of one
of its lines, since both leave in the order in which the DRAM controller served them (R115, R126). -/
def psgInsert (m : PsgMsg) : List PsgMsg → List PsgMsg
  | [] => [m]
  | x :: l =>
    if !m.urgent || x.urgent || (x :: l).any m.meets then x :: psgInsert m l else m :: x :: l

/-- Messages that wait for credit leave in order while credit lasts. -/
def psgFlushN : Nat → State → State
  | 0, s => s
  | n + 1, s =>
    match s.psg.txWait with
    | [] => s
    | m :: rest =>
      if psgUp s && decide (m.slots ≤ s.psg.credit) then
        psgFlushN n (sendMessage { s with psg := { s.psg with txWait := rest, credit := s.psg.credit - m.slots } } 8 m.message none)
      else s

def psgFlush (s : State) : State := psgFlushN s.psg.txWait.length s

/-- Send a Passage message (R113, R114), behind those that wait for credit, the urgent ones first; none is sent while the
Passage is neither up nor about to be again. -/
def psgSend (s : State) (typ mseq arg line count win : Nat) (data : List Slot128) : State :=
  if psgLive s then
    psgFlush { s with psg := { s.psg with txWait := psgInsert ⟨typ, mseq, arg, line, count, win, data⟩ s.psg.txWait } }
  else s

/-- NOTICE (R114): 1 fence, 2 seal, 3 resync request, 4 SERVE entered. -/
def sendNotice (s : State) (arg : Nat) : State := psgSend s 0xD 0 arg 0 0 0 []

end Sys2Proof.Machine
end

