-- ==== Sys2Proof/Machine/CoreOps.lean ====
section
/-! DEFINITION. The code flash as the boot ROM and the resets see it, and the start of the management core (R274 to R290). -/
namespace Sys2Proof.Machine

/-- The sources of the MGT and NVC pages that these operations raise (R291). -/
def srcFwFallback : Nat := srcNo 0x00 0
def srcInterrupted : Nat := srcNo 0x88 5

def allOnes : Word := BitVec.allOnes 64

/-- Word w of the array: erased words read all ones (R275). A dubious word reads a free value (R282, R288). -/
def flashWord (s : State) (w : Nat) : Word := sget allOnes s.mgt.flash w

def setFlashWord (s : State) (w : Nat) (v : Word) : State :=
  { s with mgt := { s.mgt with flash := sset allOnes s.mgt.flash w v } }

/-- Byte a of the array. -/
def flashByte (s : State) (a : Nat) : Nat := (flashWord s (a / 8)).toNat / 256 ^ (a % 8) % 256

def flashBytes (s : State) (a : Nat) : Nat → List Nat
  | 0 => []
  | n + 1 => flashByte s a :: flashBytes s (a + 1) n

/-- The base of a half (R274). -/
def halfBase (h : Bool) : Nat := if h then 0x400000 else 0

/-- The firmware half starts with a good header: MAGIC, LENGTH at most 3,145,664, and the CRC-32C over LENGTH bytes (R276). -/
def headerOk (s : State) (h : Bool) : Bool :=
  let b := halfBase h
  let len := ofBytes (flashBytes s (b + 8) 4)
  decide (ofBytes (flashBytes s b 4) = 0x46574D31) && decide (len ≤ 3145664) &&
    decide (ofBytes (flashBytes s (b + 12) 4) = crc32c (flashBytes s (b + 64) len))

/-- A word or a sector whose operation was cut short or failed has undefined content (R282, R288). -/
def dubiousRange (a n : Nat) (l : List Nat) : List Nat := (List.range n).foldl (fun l i => lins (a + i) l) l

/-- The sectors an operation changes: a program one word, an erase the 512 words of its sector. -/
def opDubious (op : NvcOp) (l : List Nat) : List Nat :=
  if op.cmd = 2 then dubiousRange (op.addr / 4096 * 512) 512 l else
  if op.cmd = 1 ∨ op.cmd = 7 then lins (op.addr / 8) l else l

/-- An operation that failed or was cut short leaves what it was to write undefined (R282, R288): words of undefined content, and in the
option area NEXT, TRIAL or the level as a free value says; a mass erase may have reached either key (log 4, DESIGN CHOICE). -/
def opUndefined (s : State) (op : NvcOp) : State :=
  let m := s.mgt
  let new : BitVec 2 := BitVec.ofNat 2 op.data.toNat
  if op.cmd = 5 then
    let p := drawNat s
    { p.2 with mgt := { m with next := bitAt p.1 0, trial := bitAt p.1 1 } }
  else if op.cmd = 6 then
    let p := drawNat s
    let level := if bitAt p.1 0 then new else m.level
    if op.data.toNat % 4 < m.level.toNat then
      { p.2 with mgt := { m with level := level, dubious := m.flash.foldl (fun l e => lins e.1 l) m.dubious,
                                 keyArea := if bitAt p.1 1 then [] else m.keyArea,
                                 imageSlot := if bitAt p.1 2 then [] else m.imageSlot } }
    else { p.2 with mgt := { m with level := level } }
  else { s with mgt := { m with dubious := opDubious op m.dubious } }

/-- NVC_INTR records a program or erase that R287 ended (R288). -/
def recordIntr (s : State) (op : NvcOp) : State × List Nat :=
  let s0 := opUndefined s op
  if op.cmd = 1 ∨ op.cmd = 2 ∨ op.cmd = 7 then
    (setFlag (setFlag (setFld s0 NVC_INTR_ADDR op.addr) NVC_INTR_SECTOR (op.cmd = 2)) NVC_INTR_VALID true, [srcInterrupted])
  else (s0, [])

/-- The end of a command: RESULT and the NVC event (R281, R377). -/
def nvcResult (s : State) (r : Nat) : State :=
  pendEvent (setFld (setFlag s NVC_STAT_BUSY false) NVC_STAT_RESULT r) 0x88 0

/-- Every operation that runs, and a suspended erase, ends INTERRUPTED at a reset or core restart (R287). -/
def nvcInterrupt (s : State) : State × List Nat :=
  let p := match s.mgt.op with
    | none => (s, [])
    | some op => recordIntr (nvcResult { s with mgt := { s.mgt with op := none } } 11) op
  match p.1.mgt.suspended with
  | none => p
  | some op =>
    let s1 := setFlag { p.1 with mgt := { p.1.mgt with suspended := none } } NVC_STAT_SUSPENDED false
    let q := recordIntr (nvcResult s1 11) op
    (q.1, p.2 ++ q.2)

/-- The unlock is released, and the count of wrong sequences and the lockout clear (R280, R354). -/
def nvcRelease (s : State) : State :=
  let s1 := { s with mgt := { s.mgt with keyStep := none, keyFails := 0 } }
  setFlag (setFlag (setFld s1 NVC_CTL_OWNER 0) NVC_STAT_UNLOCKED false) NVC_STAT_KEY_LOCKOUT false

/-- WS_MIN of the clock and supply mode in force: 4 at 400 MHz, 0 at 32 MHz during an Alley rendezvous (R279). -/
def wsMin (s : State) : Nat := if s.vault = .alley then 0 else 4

/-- Half h counts as the running half (R277, R362). -/
def nameHalf (s : State) (h trial : Bool) : State :=
  let s1 := setFlag (setFlag (setFlag s MGT_STAT_HALF h) MGT_STAT_TRIAL trial) BOOT_STAT_ROM_WAIT false
  { s1 with mgt := { s1.mgt with trialRun := trial } }

/-- The boot ROM starts half h: the hart goes to the half's entry (R276, R277). -/
def runHalf (s : State) (h trial : Bool) : State :=
  let s1 := nameHalf s h trial
  let entry := halfBase h + ofBytes (flashBytes s (halfBase h + 16) 4)
  { s1 with mgt := { s1.mgt with hart := { s1.mgt.hart with pc := BitVec.ofNat 32 (entry / 2 * 2), running := true } } }

/-- The core falls back to half h: NEXT reverts to it (R277, step 4). -/
def fallback (s : State) (h : Bool) : State × List Nat :=
  let s1 := setFlag { s with mgt := { s.mgt with next := h } } MGT_STAT_FALLBACK true
  (runHalf s1 h false, [srcFwFallback])

/-- A core start through the boot ROM with MGT_STAT.CAUSE `cause` (R277, R352, R362). The halves of the core's own held
stores and latches are lost with its execution. Answers the sources it raises. -/
def coreStart (s : State) (cause : Nat) : State × List Nat :=
  let p := nvcInterrupt s
  let s1 := nvcRelease (setFld p.1 MGT_STAT_CAUSE cause)
  let s2 := { s1 with mgt := { s1.mgt with hart := HartSt.reset, halfCore := HalfSt.none_, irqTaken := false } }
  let nx := s2.mgt.next
  if headerOk s2 nx then (runHalf s2 nx s2.mgt.trial, p.2)
  else if headerOk s2 (!nx) then
    let q := fallback s2 (!nx)
    (q.1, p.2 ++ q.2)
  else (setFlag (nameHalf s2 nx false) BOOT_STAT_ROM_WAIT true, p.2)

end Sys2Proof.Machine
end

