-- ==== Sys2Proof/Machine/Faults.lean ====
section
/-! DEFINITION. The fault collector (R332 to R345): events, the log, escalation, grace timers and the class actions. -/
namespace Sys2Proof.Machine

/-- The collector's own sources (R349). -/
def srcEscalated : Nat := srcNo 3 0
def srcCoreRestart : Nat := srcNo 3 1
def srcFenceReq : Nat := srcNo 3 2
def srcSealReq : Nat := srcNo 3 3
def srcIsolated : Nat := srcNo 3 4
def srcFltCfgErr : Nat := srcNo 3 7

/-- FLT_CLASS of a source (R335). -/
def classOf (s : State) (src : Nat) : Nat := fld s (FLT_CLASS_SRC (src / 32) (src % 32))

/-- The source is raised (R338). -/
def isRaised (s : State) (src : Nat) : Bool := fldAt s FLT_ESC_B_RAISED src != 0

/-- The effective class: FLT_CLASS plus one if raised, never more than 4 (R337). -/
def effClass (s : State) (src : Nat) : Nat := min 4 (classOf s src + b2n (isRaised s src))

/-- The mask has no effect on a source of effective class 4 (R334). -/
def isMasked (s : State) (src : Nat) : Bool :=
  flag s (FLT_MASK_SRC (src / 32) (src % 32)) && decide (effClass s src ≠ 4)

/-- The collector's clock, in ns. -/
def nowNs (s : State) : Nat := s.now / nsUnits

/-- Count an event (R338). Answers whether the source becomes raised. -/
def countEvent (s : State) (src : Nat) : State × Bool :=
  let n := fldAt s FLT_ESC_A_N src
  if n = 0 then (s, false) else
    let c := fldAt s FLT_ESC_B_COUNT src
    let start := nget s.flt.first src
    let passed := decide (start = 0) || decide (start - 1 + fldAt s FLT_ESC_A_WINDOW_MS src * 1000000 ≤ nowNs s)
    let c' := if c = 0 ∨ passed then 1 else c + 1
    let s1 := if c = 0 ∨ passed then { s with flt := { s.flt with first := nset s.flt.first src (nowNs s + 1) } } else s
    if n ≤ c' then
      (setFldAt (setFldAt s1 FLT_ESC_B_COUNT src 0) FLT_ESC_B_RAISED src 1, !isRaised s src)
    else (setFldAt s1 FLT_ESC_B_COUNT src c', false)

/-- Write one log entry; answers its index (R333, R350). -/
def logEvent (s : State) (e : LogRec) : State × Nat :=
  let i := fld s FLT_LOG_HEAD_NEXT
  let s1 := if s.flt.unread.contains i then setFlag s FLT_STAT_LOG_WRAP true else s
  let s2 := { s1 with flt := { s1.flt with log := sput i e s1.flt.log, logCount := s1.flt.logCount + 1,
                                            unread := lins i s1.flt.unread } }
  (setFld s2 FLT_LOG_HEAD_NEXT ((i + 1) % 256), i)

/-- Change log entry i. -/
def logUpdate (s : State) (i : Nat) (f : LogRec → LogRec) : State :=
  { s with flt := { s.flt with log := s.flt.log.map (fun e => if e.1 = i then (e.1, f e.2) else e) } }

/-- Everything accepted and not yet answered receives no response, and the queues outside the DRAM array are gone (R13,
R341, R355). -/
def dropWork (s : State) : State :=
  { s with adm := { s.adm with flights := [], items := [], plaza := [], served := [] },
           psg := { s.psg with mirrorQ := [], fwd := [], fetches := [], fetchWait := [], recheck := [], watch := [],
                               handshake := none, moving := false } }

/-- Every Boulevard link and the Passage go to electrical idle (R21). -/
def linksIdle (s : State) : State :=
  let s1 := (List.range 8).foldl (fun x l => setFld (setFld x (BLV_STAT_STATE.inst l) 4) (BLV_STAT_WIDTH.inst l) 0) s
  let s2 := { s1 with psg := { s1.psg with txWait := [], held := [], rxFree := 8192 } }
  setFld (setFld s2 PSG_STAT_STATE 4) PSG_STAT_WIDTH 0

/-- No dump, copy, restore or hold runs any more: the vault has stopped (R341). -/
def haltPower (s : State) : State :=
  let s1 := { s with pwr := { s.pwr with abortSeen := false, committed := false, ended := none, ckWait := false } }
  let s2 := setFlag (setFlag (setFlag s1 IMG_RST_STAT_ACTIVE false) IMG_RST_STAT_HOLD false) IMG_RST_STAT_JOIN_WAITING false
  setFld s2 PWR_DUMP_STAT_PHASE 0

/-- What a fence and a seal stop: links idle after the notice on the Passage, contexts, dumps, accepted work (R341). -/
def stopVault (s : State) (notice : Nat) : State :=
  haltPower (dropWork (linksIdle (stopContexts (sendNotice s notice))))

/-- The source ABORTED of the CEN page (R327). -/
def srcCenAborted : Nat := srcNo 0x93 0

/-- CEN_STAT.RESULT is written, with its event (R377). -/
def cenResult (s : State) (r : Nat) : State := pendEvent (setFld s CEN_STAT_RESULT r) 0x93 0

/-- The pass of a Census ends ABORTED (R321); the epoch still flips at T where T is to come. The event is raised by the
caller. -/
def censusAbort (s : State) : State :=
  if censusActive s then
    let s1 := { s with cen := { s.cen with snap := false, filled := false } }
    noteReserve (setFld (cenResult s1 4) CEN_STAT_STATE (if s.cen.armed.isSome then 2 else 0))
  else s

/-- FENCED (R341): the action record, then the stop. No transition from OFF, SHIP or SEALED, and none from FENCED to
itself (R15; log 49, DEDUCED); once the logic has failed the state stays (R14). -/
def fenceVault (s : State) (src : Nat) (forced : Bool) : State :=
  if logicFailed s then s else
  match s.vault with
  | .off | .ship | .sealed | .fenced => s
  | _ =>
    let s1 := setFld s FLT_ACT_FENCE_TIME_POD_TIME (podNs s)
    let s2 := setFld s1 FLT_ACT_FENCE_COUNT (fld s1 FLT_ACT_FENCE_COUNT + 1)
    let s3 := setFld (setFlag s2 FLT_ACT_FENCE_FORCED forced) FLT_ACT_FENCE_PREV_STATE (stateCode s.vault % 8)
    setVault (stopVault (setFld s3 FLT_ACT_FENCE_SOURCE src) 1) .fenced

/-- SEALED (R343): the action record, then the stop; domain 20 loses its power (R389). Once the logic has failed the state stays
(R14). -/
def sealVault (s : State) (src : Nat) (forced : Bool) : State :=
  if logicFailed s then s else
  match s.vault with
  | .off | .ship | .sealed => s
  | _ =>
    let s1 := setFld s FLT_ACT_SEAL_TIME_POD_TIME (podNs s)
    let s2 := setFld (setFlag s1 FLT_ACT_SEAL_FORCED forced) FLT_ACT_SEAL_SOURCE src
    let s3 := setVault (stopVault s2 2) .sealed
    { s3 with flt := { s3.flt with grace := [], held := [] } }

/-- The class 2 action (R337): the MSI-X message, and a core restart unless one by this rule lies within CORE_HOLD_S; in
SEALED the message only. `more` raises a further source. -/
def degrade (more : State → Nat → State) (s : State) (src : Nat) : State × Nat :=
  let s1 := emit s (.msix src)
  let held := decide (s.mgt.lastRestart ≠ 0) &&
    decide (nowNs s ≤ s.mgt.lastRestart - 1 + fld s FLT_CTL_CORE_HOLD_S * 1000000000)
  if held || !mgtUp s then (s1, 0) else
    let p := coreStart { s1 with mgt := { s1.mgt with lastRestart := nowNs s + 1 } } 1
    ((p.2 ++ [srcCoreRestart]).foldl more (emit p.1 .coreRestarted), 1)

/-- A fence (class 3) or a seal (class 4) is a transition from this state (R14, R15). -/
def stops (s : State) (cls : Nat) : Bool :=
  !logicFailed s && (match s.vault with
    | .off | .ship | .sealed => false
    | .fenced => decide (cls = 4)
    | _ => true)

/-- The action of a class, and its code in the log (R337, R350); 0 where no action is taken. -/
def classAction (more : State → Nat → State) (s : State) (src : Nat) (forced : Bool) (cls : Nat) : State × Nat :=
  let stop := fun (t : State) => if censusActive s && decide (t.vault ≠ s.vault) then more (censusAbort t) srcCenAborted else t
  if cls = 4 then (stop (sealVault s src forced), if stops s 4 then 3 else 0) else
  if cls = 3 then (stop (fenceVault s src forced), if stops s 3 then 2 else 0) else
  if cls = 2 then degrade more s src else (s, 0)

/-- Take the action of a class for the event logged at entry i, and record it there. -/
def actAt (more : State → Nat → State) (s : State) (src : Nat) (forced : Bool) (cls i : Nat) : State :=
  let p := classAction more s src forced cls
  logUpdate p.1 i (fun e => { e with action := p.2 })

/-- A grace timer of the source runs. -/
def graceRuns (s : State) (src : Nat) : Bool := s.flt.grace.any (fun g => g.1 = src)

/-- One event through the collector (R333 to R340). The fuel bounds the chain of events an event itself causes: an
ESCALATED or CORE_RESTART event behind it. -/
def raiseN : Nat → State → Nat → Bool → State
  | 0, s, _, _ => s
  | fuel + 1, s, src, forced =>
    let more := fun (x : State) (y : Nat) => raiseN fuel x y false
    if !listedSource src || !aoUp s then s else
    let page := src / 32
    let s1 := setFlag s (FLT_STICKY_SRC page (src % 32)) true
    let s2 := bump s1 FLT_COUNTS_EVENTS
    let s3 := if forced then bump s2 FLT_COUNTS_FORCED else s2
    if isMasked s src then
      if s.vault = .alley ∧ !mgtUp s then { s3 with flt := { s3.flt with held := s3.flt.held ++ [(src, forced)] } }
      else if !mgtUp s then s3
      else (logEvent s3 ⟨BitVec.ofNat 64 (podNs s), src, effClass s src, forced, isRaised s src, false, 4⟩).1
    else
      let p := countEvent s3 src
      let s4 := setFlag p.1 (IRQ_PEND_BIT page 63) true
      let cls := effClass s4 src
      let s5 := if p.2 then more s4 srcEscalated else s4
      let rec_ : LogRec := ⟨BitVec.ofNat 64 (podNs s), src, cls, forced, isRaised s4 src, false, 0⟩
      match s.vault with
      | .alley =>
        if cls ≤ 2 then
          if mgtUp s then (logEvent s5 { rec_ with action := 5 }).1
          else { s5 with flt := { s5.flt with held := s5.flt.held ++ [(src, forced)] } }
        else
          let q := logEvent s5 rec_
          actAt more q.1 src forced cls q.2
      | .sealed => if cls = 2 then (degrade more s5 src).1 else s5
      | _ =>
        let q := if mgtUp s then logEvent s5 rec_ else (s5, 256)
        if cls = 4 then actAt more q.1 src forced cls q.2
        else if cls ≤ 1 then q.1
        else if graceRuns q.1 src then q.1
        else if fldAt q.1 FLT_ESC_A_GRACE_US src = 0 then actAt more q.1 src forced cls q.2
        else { q.1 with flt := { q.1.flt with grace := q.1.flt.grace ++ [(src, q.2, forced)] } }

/-- An event of a source (R333). -/
def raise (s : State) (src : Nat) : State := raiseN 8 s src false
/-- A forced event (R333). -/
def raiseForced (s : State) (src : Nat) : State := raiseN 8 s src true
/-- The events of a list of sources, in order. -/
def raiseAll (s : State) (l : List Nat) : State := l.foldl raise s

/-- A core restart that is no class 2 action (R278). -/
def coreRestart (s : State) (cause : Nat) : State :=
  let p := coreStart s cause
  raiseAll (emit p.1 .coreRestarted) p.2

/-- The grace timer of the source stops: its event is handled (R339). -/
def handleGrace (s : State) (src : Nat) : State :=
  let mine := s.flt.grace.filter (fun g => g.1 = src)
  let s1 := mine.foldl (fun x g => logUpdate x g.2.1 (fun e => { e with handled := true })) s
  { s1 with flt := { s1.flt with grace := s1.flt.grace.filter (fun g => g.1 ≠ src) } }

/-- A write of ones clears sticky bits, and handles the events whose grace runs (R339). -/
def clearSticky (s : State) (page v : Nat) : State :=
  (List.range (sourceClasses page).length).foldl
    (fun x b => if bitAt v b then handleGrace (setFlag x (FLT_STICKY_SRC page b) false) (srcNo page b) else x) s

/-- Expiry of a source's grace timer (R339): the action of the effective class at that moment; below 2 none
(log 49, DEDUCED). -/
def graceExpire (s : State) (src : Nat) : State :=
  match s.flt.grace.find? (fun g => g.1 = src) with
  | none => s
  | some g =>
    let s1 := { s with flt := { s.flt with grace := s.flt.grace.filter (fun x => x.1 ≠ src) } }
    let cls := effClass s1 src
    if cls < 2 then s1
    else actAt raise (if cls = 2 ∨ stops s1 cls then bump s1 FLT_COUNTS_GRACE_EXP else s1) src g.2.2 cls g.2.1

/-- Events held in ALLEY are logged at the next rendezvous wake (R340). -/
def logHeld (s : State) : State :=
  let s1 := s.flt.held.foldl (fun x h =>
    (logEvent x ⟨BitVec.ofNat 64 (podNs s), h.1, effClass s h.1, h.2, isRaised s h.1, false, 5⟩).1) s
  { s1 with flt := { s1.flt with held := [] } }

/-- A write to FLT_CLASS: 5, 6 or 7 in the field of a source of the page refuses it whole (R335, R373). -/
def writeClass (s : State) (page v : Nat) : State :=
  if (List.range (sourceClasses page).length).any (fun b => decide (4 < bitsOf v (3 * b + 2) (3 * b))) then raise s srcFltCfgErr
  else setReg s (rkey 0 0 page 0x038) (BitVec.ofNat 64 (v % 8 ^ (sourceClasses page).length))

/-- One forced event for each bit written as one (R333). -/
def forceSources (s : State) (page v : Nat) : State :=
  (List.range (sourceClasses page).length).foldl (fun x b => if bitAt v b then raiseForced x (srcNo page b) else x) s

end Sys2Proof.Machine
end

