-- ==== Sys2Proof/Machine/Access.lean ====
section
/-! DEFINITION. Who can reach a register page (R369 to R375, R378, R380): the requesters, the availability groups, the rights of
the ring, and the copies a requester has of its own. -/
namespace Sys2Proof.Machine

/-- The requester can access pages at all: the core with domain 20, PCIe with domain 21 (asleep in ALLEY), the ring with
domains 22 to 24 (R14, R371). -/
def requesterUp (s : State) (q : Requester) : Bool :=
  match q with
  | .core => mgtUp s
  | .pcie => aoUp s && !logicFailed s && !s.rst.raising && decide (s.vault ≠ .alley)
  | .ring => ringUp s

/-- The availability group of a page: 0 is A, 1 B, 2 C, 3 D (R382). -/
def pageGroup (page : Nat) : Nat :=
  if page = 0x01 ∨ page = 0x04 ∨ page = 0x06 ∨ (0x08 ≤ page ∧ page ≤ 0x0B) then 0 else
  if page ≤ 0x07 ∨ page = 0x88 then 1 else
  if 0x90 ≤ page ∧ page ≤ 0x94 then 2 else 3

/-- The page is reachable in the state (R371). -/
def groupUp (s : State) (page : Nat) : Bool :=
  match pageGroup page with
  | 0 => aoUp s
  | 1 => mgtUp s
  | 2 => ringUp s
  | _ => dataUp s

/-- The requester reaches the page (R370, R371). -/
def reachable (s : State) (q : Requester) (page : Nat) : Bool :=
  mappedPage page && requesterUp s q && groupUp s page

/-- The ring may read and write (R380). -/
def ringReads (s : State) (page : Nat) : Bool :=
  decide (fld s (PAGE_CTL_REMOTE page) = 1) || decide (fld s (PAGE_CTL_REMOTE page) = 2)
def ringWrites (s : State) (page : Nat) : Bool := decide (fld s (PAGE_CTL_REMOTE page) = 2)

/-- A write of the requester to a block register of the page takes effect: reachable, not SEALED, with rights, clocked. -/
def canWrite (s : State) (q : Requester) (page : Nat) : Bool :=
  reachable s q page && decide (s.vault ≠ .sealed) && (decide (q ≠ .ring) || ringWrites s page) && pageRuns s page

/-- A write to the header of the page takes effect. -/
def canWriteHdr (s : State) (q : Requester) (page : Nat) : Bool :=
  reachable s q page && decide (s.vault ≠ .sealed) && (decide (q ≠ .ring) || ringWrites s page)

/-- The requester's own index field (R378). -/
def indexOf (s : State) (q : Requester) (f : Fld) : Nat := fldIn s f 0 (reqBank q)

def getHalf (s : State) : Requester → HalfSt
  | .core => s.mgt.halfCore
  | .pcie => s.mgt.halfPcie
  | .ring => s.mgt.halfRing
def setHalf (s : State) (q : Requester) (h : HalfSt) : State :=
  match q with
  | .core => { s with mgt := { s.mgt with halfCore := h } }
  | .pcie => { s with mgt := { s.mgt with halfPcie := h } }
  | .ring => { s with mgt := { s.mgt with halfRing := h } }

/-- A held low half is dropped by the requester's next store of another kind (R270). -/
def dropHalf (s : State) (q : Requester) : State := setHalf s q { getHalf s q with held := none }

/-- A command write that a guard lets through. It is a store of the requester, whether it takes effect or not. -/
def guarded (s : State) (q : Requester) (page : Nat) (s' : State) : State :=
  dropHalf (if canWrite s q page then s' else s) q

/-- The same for a write to the header, which is reachable while the block's clock is stopped (R375). -/
def guardedHdr (s : State) (q : Requester) (page : Nat) (s' : State) : State :=
  dropHalf (if canWriteHdr s q page then s' else s) q

/-- The same for a write to an index register that writes nothing else: from the ring it needs read rights only (R380). -/
def guardedIdx (s : State) (q : Requester) (page : Nat) (s' : State) : State :=
  dropHalf (if reachable s q page && decide (s.vault ≠ .sealed) && (decide (q ≠ .ring) || ringReads s page) && pageRuns s page
    then s' else s) q

/-- The bits of v in the writable fields of register off of the page, over its present value (R5, R6): RW, and RWL while the
page is not locked. -/
def mergeRw (s : State) (page off v : Nat) (old : Word) : Word :=
  match findRow page off with
  | none => old
  | some r => BitVec.ofNat 64 (r.fields.foldl (fun a f =>
      if f.acc = .rw ∨ (f.acc = .rwl ∧ !locked s page) then withBits a f.hi f.lo (bitsOf v f.hi f.lo) else a) old.toNat)

/-- Write the writable fields of a register. -/
def writeRw (s : State) (page off idx bank : Nat) (v : Word) : State :=
  let k := rkey idx bank page off
  setReg s k (mergeRw s page off v.toNat (getReg s k))

end Sys2Proof.Machine
end

