-- ==== Sys2Proof/Machine/Aes.lean ====
section
/-! DEFINITION. The ciphers and sums of the Junction: the two fields GF(2^8), AES-256 as FIPS 197 gives it, its XTS mode as IEEE 1619
gives it (R175), AES-128-CMAC (R233), the key wrap of RFC 3394 (R290), and the arithmetic of P and Q (R171). Byte strings are lists of numbers below
256, first byte first. The rules name these standards and do not repeat them (log 8, PRESUMED). -/
namespace Sys2Proof.Machine

/-! The fields. -/

/-- A product in GF(2^8) with the reduction polynomial `poly`. -/
def gfMul (poly a b : Nat) : Nat :=
  ((List.range 8).foldl (fun (x : Nat × Nat) i =>
    (if bitAt b i then x.1 ^^^ x.2 else x.1, if 128 ≤ x.2 then (x.2 * 2) ^^^ poly else x.2 * 2)) (0, a)).1

/-- A product in the field of Q: reduction polynomial 0x11D (R171). -/
def qMul (a b : Nat) : Nat := gfMul 0x11D a b

/-- The i-th power of g = 0x02 (R171). -/
def qPow (i : Nat) : Nat := (List.range i).foldl (fun a _ => qMul 2 a) 1

/-- The inverse of a byte: its 254th power. -/
def qInv (a : Nat) : Nat := (List.range 254).foldl (fun x _ => qMul a x) 1

/-- Every byte of an n-byte string doubled in that field, all at once. -/
def qDouble (n x : Nat) : Nat :=
  let ones := (256 ^ n - 1) / 255
  ((x * 2) &&& (ones * 254)) ^^^ (((x / 128) &&& ones) * 0x1D)

/-- Every byte of an n-byte string multiplied by c. -/
def qScale (n c x : Nat) : Nat :=
  ((List.range 8).foldl (fun (a : Nat × Nat) i => (if bitAt c i then a.1 ^^^ a.2 else a.1, qDouble n a.2)) (0, x)).1

/-! AES, with keys of 32 bytes and of 16. -/

/-- The substitution table, sixteen bytes to a row, byte 0 leftmost. -/
def sboxRows : List Nat :=
  [0x637c777bf26b6fc53001672bfed7ab76, 0xca82c97dfa5947f0add4a2af9ca472c0,
   0xb7fd9326363ff7cc34a5e5f171d83115, 0x04c723c31896059a071280e2eb27b275,
   0x09832c1a1b6e5aa0523bd6b329e32f84, 0x53d100ed20fcb15b6acbbe394a4c58cf,
   0xd0efaafb434d338545f9027f503c9fa8, 0x51a3408f929d38f5bcb6da2110fff3d2,
   0xcd0c13ec5f974417c4a77e3d645d1973, 0x60814fdc222a908846eeb814de5e0bdb,
   0xe0323a0a4906245cc2d3ac629195e479, 0xe7c8376d8dd54ea96c56f4ea657aae08,
   0xba78252e1ca6b4c6e8dd741f4bbd8b8a, 0x703eb5664803f60e613557b986c11d9e,
   0xe1f8981169d98e949b1e87e9ce5528df, 0x8ca1890dbfe6426841992d0fb054bb16]

/-- The inverse table. -/
def invSboxRows : List Nat :=
  [0x52096ad53036a538bf40a39e81f3d7fb, 0x7ce339829b2fff87348e4344c4dee9cb,
   0x547b9432a6c2233dee4c950b42fac34e, 0x082ea16628d924b2765ba2496d8bd125,
   0x72f8f66486689816d4a45ccc5d65b692, 0x6c704850fdedb9da5e154657a78d9d84,
   0x90d8ab008cbcd30af7e45805b8b34506, 0xd02c1e8fca3f0f02c1afbd0301138a6b,
   0x3a9111414f67dcea97f2cfcef0b4e673, 0x96ac7422e7ad3585e2f937e81c75df6e,
   0x47f11a711d29c5896fb7620eaa18be1b, 0xfc563e4bc6d279209adbc0fe78cd5af4,
   0x1fdda8338807c731b11210592780ec5f, 0x60517fa919b54a0d2de57a9f93c99cef,
   0xa0e03b4dae2af5b0c8ebbb3c83539961, 0x172b047eba77d626e169146355210c7d]

/-- Byte x of a table. -/
def tableByte (rows : List Nat) (x : Nat) : Nat := rows.getD (x / 16) 0 / 256 ^ (15 - x % 16) % 256

def subByte (x : Nat) : Nat := tableByte sboxRows x
def invSubByte (x : Nat) : Nat := tableByte invSboxRows x

/-- Byte-wise sum of two strings. -/
def xorBytes (a b : List Nat) : List Nat := List.zipWith (fun x y => x ^^^ y) a b

/-- ShiftRows: byte r + 4c comes from column c + r for k = 1; its inverse, from column c - r, is k = 3. -/
def shiftRows (k : Nat) (l : List Nat) : List Nat := (List.range 16).map (fun i => l.getD ((i + 4 * k * (i % 4)) % 16) 0)

/-- MixColumns with the coefficients of its polynomial. -/
def mixColumns (coef l : List Nat) : List Nat :=
  (List.range 16).map (fun i => (List.range 4).foldl (fun a k =>
    a ^^^ gfMul 0x11B (l.getD (4 * (i / 4) + (i + k) % 4) 0) (coef.getD k 0)) 0)

/-- The i-th round constant: 2 to the i in the field of AES. -/
def roundConst (i : Nat) : Nat := (List.range i).foldl (fun a _ => gfMul 0x11B 2 a) 1

/-- One word of the key schedule of an n-word key before the others, which stand newest first: word i from words i - 1 and i - n. -/
def keyWord (n : Nat) (ws : List (List Nat)) (i : Nat) : List (List Nat) :=
  let t := ws.getD 0 []
  let u := if i % n = 0 then
      xorBytes ((t.drop 1 ++ t.take 1).map subByte) [roundConst (i / n - 1), 0, 0, 0]
    else if n = 8 ∧ i % 8 = 4 then t.map subByte else t
  xorBytes (ws.getD (n - 1) []) u :: ws

/-- The n + 7 round keys of a key of n words of four bytes. -/
def roundKeysOf (n : Nat) (key : List Nat) : List (List Nat) :=
  let ws := (List.range (3 * n + 28)).foldl (fun ws i => keyWord n ws (i + n)) (chunks 4 n key).reverse
  chunks 16 (n + 7) ws.reverse.flatten

/-- The fifteen round keys of a 32-byte key. -/
def roundKeys (key : List Nat) : List (List Nat) := roundKeysOf 8 key

/-- One block encrypted under the round keys. -/
def aesEncrypt (rk : List (List Nat)) (b : List Nat) : List Nat :=
  let mid := (List.range (rk.length - 2)).foldl (fun x r =>
    xorBytes (mixColumns [2, 3, 1, 1] (shiftRows 1 (x.map subByte))) (rk.getD (r + 1) [])) (xorBytes b (rk.getD 0 []))
  xorBytes (shiftRows 1 (mid.map subByte)) (rk.getLastD [])

/-- One block decrypted under the round keys. -/
def aesDecrypt (rk : List (List Nat)) (b : List Nat) : List Nat :=
  let mid := (List.range (rk.length - 2)).foldl (fun x r =>
    mixColumns [14, 11, 13, 9] (xorBytes ((shiftRows 3 x).map invSubByte) (rk.getD (rk.length - 2 - r) [])))
    (xorBytes b (rk.getLastD []))
  xorBytes ((shiftRows 3 mid).map invSubByte) (rk.getD 0 [])

/-! XTS (R175). -/

/-- The tweak multiplied by alpha. -/
def mulAlpha (t : Nat) : Nat := if 2 ^ 127 ≤ t then (t * 2 - 2 ^ 128) ^^^ 0x87 else t * 2

/-- Consecutive blocks, as numbers whose low byte is the first, under one cipher and a running tweak. -/
def xtsBlocks (f : List Nat → List Nat) : Nat → List Nat → List Nat
  | _, [] => []
  | t, b :: l => (ofBytes (f (bytesOf (b ^^^ t) 16)) ^^^ t) :: xtsBlocks f (mulAlpha t) l

/-- The first half of an image key encrypts data, the second the tweak (R175, R176). -/
def dataKey (k : ImageKey) : List Nat := bytesOf k.toNat 32
def tweakKey (k : ImageKey) : List Nat := bytesOf (k.toNat / 2 ^ 256) 32

/-- The tweak of payload block j: the encrypted tweak value, TSEQ in bytes 0 to 7 and UNIT in bytes 8 to 11, times alpha^j
(R175). -/
def tweakAt (k : ImageKey) (tseq unit j : Nat) : Nat :=
  (List.range j).foldl (fun t _ => mulAlpha t)
    (ofBytes (aesEncrypt (roundKeys (tweakKey k)) (bytesOf (tseq % 2 ^ 64 + unit % 2 ^ 32 * 2 ^ 64) 16)))

/-- Lines of a payload from line i on, under a block cipher of the data key. -/
def xtsLines (f : List (List Nat) → List Nat → List Nat) (k : ImageKey) (tseq unit i : Nat) (ls : List Line) : List Line :=
  (chunks 4 ls.length (xtsBlocks (f (roundKeys (dataKey k))) (tweakAt k tseq unit (4 * i)) (ls.flatMap (unpackLine 128)))).map
    (packLine 128)

/-- A payload encrypted (R175). -/
def xtsEncrypt (k : ImageKey) (tseq unit : Nat) (ls : List Line) : List Line := xtsLines aesEncrypt k tseq unit 0 ls
/-- Lines of a payload from line i on decrypted (R175). -/
def xtsDecrypt (k : ImageKey) (tseq unit i : Nat) (ls : List Line) : List Line := xtsLines aesDecrypt k tseq unit i ls

/-- The check value of a key: the low 8 bytes of the encryption of the zero block under its first half (R176). -/
def keyCheck (k : ImageKey) : Word := BitVec.ofNat 64 (ofBytes ((aesEncrypt (roundKeys (dataKey k)) (List.replicate 16 0)).take 8))

/-! AES-128-CMAC of RFC 4493 (R233). -/

/-- A block doubled, as a number whose high byte is the first. -/
def cmacDouble (n : Nat) : Nat := if 2 ^ 127 ≤ n then (n * 2 - 2 ^ 128) ^^^ 0x87 else n * 2

/-- The CMAC of a byte string under a 16-byte key. -/
def cmac (key msg : List Nat) : List Nat :=
  let rk := roundKeysOf 4 key
  let big := fun (b : List Nat) => ofBytes b.reverse
  let k1 := cmacDouble (big (aesEncrypt rk (List.replicate 16 0)))
  let whole := decide (msg.length % 16 = 0) && decide (msg ≠ [])
  let n := if whole then msg.length / 16 else msg.length / 16 + 1
  let head := chunks 16 (n - 1) msg
  let tail := msg.drop (16 * (n - 1))
  let last := if whole then tail else tail ++ 0x80 :: List.replicate (15 - tail.length) 0
  let sub := (bytesOf (if whole then k1 else cmacDouble k1) 16).reverse
  (head ++ [xorBytes last sub]).foldl (fun x b => aesEncrypt rk (xorBytes x b)) (List.replicate 16 0)

/-- The answer a pack owes to a nonce (R233, step 4): the CMAC of N ‖ ID ‖ 0x01 under the key derived from the root key and ID. -/
def packAnswer (root id nonce : List Nat) : List Nat :=
  cmac (cmac root ([0x4D, 0x42, 0x54, 0x31] ++ id)) (nonce ++ id ++ [1])

/-! The key wrap of RFC 3394 (R290). -/

/-- A number as eight bytes, high first. -/
def bigBytes (n : Nat) : List Nat := (bytesOf n 8).reverse

/-- Step t of the wrap, under the round keys: the word that stands first is enciphered and put last. -/
def wrapStep (rk : List (List Nat)) (x : List Nat × List (List Nat)) (t : Nat) : List Nat × List (List Nat) :=
  let b := aesEncrypt rk (x.1 ++ x.2.headD [])
  (xorBytes (b.take 8) (bigBytes t), x.2.drop 1 ++ [b.drop 8])

/-- Step t of the unwrap, steps counted down. -/
def unwrapStep (rk : List (List Nat)) (x : List Nat × List (List Nat)) (t : Nat) : List Nat × List (List Nat) :=
  let b := aesDecrypt rk (xorBytes x.1 (bigBytes t) ++ x.2.getLastD [])
  (b.take 8, b.drop 8 :: x.2.dropLast)

/-- The integrity value of RFC 3394. -/
def wrapIv : List Nat := List.replicate 8 0xA6

/-- A 64-byte key wrapped: nine words of eight bytes. -/
def wrapKey (dev : BitVec 256) (k : ImageKey) : List (List Nat) :=
  let r := ((List.range 48).map (fun i => i + 1)).foldl (wrapStep (roundKeys (bytesOf dev.toNat 32)))
    (wrapIv, chunks 8 8 (bytesOf k.toNat 64))
  r.1 :: r.2

/-- The key that nine words hold; none where they do not unwrap. -/
def unwrapWords (dev : BitVec 256) (ws : List (List Nat)) : Option ImageKey :=
  let r := ((List.range 48).map (fun i => 48 - i)).foldl (unwrapStep (roundKeys (bytesOf dev.toNat 32))) (ws.headD [], ws.drop 1)
  if ws.length = 9 ∧ r.1 = wrapIv then some (BitVec.ofNat 512 (ofBytes r.2.flatten)) else none

end Sys2Proof.Machine
end

