-- ==== Sys2Proof/Machine/Pages.lean ====
section
/-! DEFINITION. How the image lies on flash: page headers and their check (R172, R173), ledger and directory entries (R178, R179), records
(R180), refusal log and wear pages (R173), and the parity of a stripe (R171). -/
namespace Sys2Proof.Machine

/-! Payloads: 256 lines of numbers of one width. -/

/-- The payload that numbers of w bits make, low first; the rest is zero. -/
def packPage (w : Nat) (l : List Nat) : List Line := padTake 0 256 ((chunks (512 / w) 256 l).map (packLine w))

/-- The numbers of w bits of a payload. -/
def unpackPage (w : Nat) (ls : List Line) : List Nat := ls.flatMap (unpackLine w)

/-- A number laid out from fields of (first byte, value). -/
def layFields (l : List (Nat × Nat)) : Nat := l.foldr (fun e a => e.2 * 256 ^ e.1 + a) 0

/-! Page headers (R172). -/

/-- Bytes 0 to 91 of the header of a page at a stripe address and member. -/
def PageHeader.fields (h : PageHeader) (stripe member : Nat) : Nat :=
  layFields [(0, 0x4C4D5531), (4, h.typ % 256), (5, h.layout % 256), (6, member % 8), (7, b2n h.enc + 2 * b2n h.intent),
    (8, h.wseq % 2 ^ 64), (16, h.tseq % 2 ^ 64), (24, h.gen % 2 ^ 64), (32, h.unit % 2 ^ 32), (36, stripe % 2 ^ 32),
    (40, Config.vaultId.toNat), (48, h.poison.toNat)]

/-- The 96 bytes: the fields with their CRC-32C. -/
def PageHeader.bits (h : PageHeader) (stripe member : Nat) : BitVec 768 :=
  BitVec.ofNat 768 (layFields [(0, h.fields stripe member), (92, crc32c (bytesOf (h.fields stripe member) 92))])

/-- A header read is valid (R173): MAGIC, CRC, VAULT_ID, and the stripe address it was read from. -/
def headerValid (b : BitVec 768) (stripe : BitVec 32) : Bool :=
  decide (bitsOf b.toNat 31 0 = 0x4C4D5531) && decide (bitsOf b.toNat 767 736 = crc32c (bytesOf b.toNat 92)) &&
    decide (bitsOf b.toNat 383 320 = Config.vaultId.toNat) && decide (bitsOf b.toNat 319 288 = stripe.toNat)

/-- The fields of a header read. -/
def headerOf (b : BitVec 768) : PageHeader :=
  let n := b.toNat
  { typ := bitsOf n 39 32, layout := bitsOf n 47 40, enc := bitAt n 56, intent := bitAt n 57, wseq := bitsOf n 127 64,
    tseq := bitsOf n 191 128, gen := bitsOf n 255 192, unit := bitsOf n 287 256, poison := BitVec.ofNat 256 (bitsOf n 639 384) }

/-- What parity covers of a page (R171). -/
def FlashPage.bits (p : FlashPage) : PageBits :=
  match p.body with
  | .page h l => ⟨h.bits p.stripe.toNat p.member.val, l⟩
  | .parity b => b

/-- The header of a page that has one. -/
def FlashPage.header (p : FlashPage) : Option PageHeader :=
  match p.body with
  | .page h _ => some h
  | .parity _ => none

/-- A page of type t of unit, ledger page or side entry u. -/
def FlashPage.holds (p : FlashPage) (t u : Nat) : Bool :=
  match p.body with
  | .page h _ => decide (h.typ = t) && decide (h.unit = u)
  | .parity _ => false

/-! Parity (R171). -/

def PageBits.zero : PageBits := ⟨0, List.replicate 256 0⟩

/-- The byte-wise sum of two pages. -/
def PageBits.add (a b : PageBits) : PageBits := ⟨a.hdr ^^^ b.hdr, List.zipWith (fun x y => x ^^^ y) a.payload b.payload⟩

/-- A page with every byte multiplied by c in the field of Q. -/
def PageBits.scale (c : Nat) (a : PageBits) : PageBits :=
  ⟨BitVec.ofNat 768 (qScale 96 c a.hdr.toNat), a.payload.map (fun d => BitVec.ofNat 512 (qScale 64 c d.toNat))⟩

/-- Page and die of a stripe address (R169). -/
def pageNo (stripe : BitVec 32) : Nat := bitsOf stripe.toNat 11 0
def dieNo (stripe : BitVec 32) : Nat := bitsOf stripe.toNat 29 26
def groupNo (stripe : BitVec 32) : Nat := bitsOf stripe.toNat 31 30
/-- Group block of a stripe address: its bits [31:12] (R169). -/
def groupBlock (stripe : BitVec 32) : Nat := stripe.toNat / 4096

/-- P, and in a 6+2 stripe Q, among the healthy members: healthy index (p + d) mod h, and (p + d + 1) mod h. -/
def parityMember (stripe : BitVec 32) (ms : List (Fin 8)) (k : Nat) : Option (Fin 8) :=
  ms[(pageNo stripe + dieNo stripe + k) % ms.length]?

/-- The members that hold data, in order of their data indices; `q` for a stripe with a Q page. -/
def dataSlots (stripe : BitVec 32) (q : Bool) (ms : List (Fin 8)) : List (Fin 8) :=
  ms.filter (fun m => decide (some m ≠ parityMember stripe ms 0) && !(q && decide (some m = parityMember stripe ms 1)))

/-- P of data pages: their sum. Q: the sum with page i multiplied by g^i. -/
def sumP (ds : List (Nat × PageBits)) : PageBits := ds.foldl (fun a d => a.add d.2) PageBits.zero
def sumQ (ds : List (Nat × PageBits)) : PageBits := ds.foldl (fun a d => a.add (d.2.scale (qPow d.1))) PageBits.zero

/-- Data page i of a stripe from what can be read: the data pages by index, P and Q, and the index of the one other data page that
cannot be read either. None where that is too little. -/
def solvePage (i : Nat) (ds : List (Nat × PageBits)) (p q : Option PageBits) (other : Option Nat) : Option PageBits :=
  match other, p, q with
  | none, some p, _ => some (p.add (sumP ds))
  | none, none, some q => some ((q.add (sumQ ds)).scale (qInv (qPow i)))
  | some j, some p, some q =>
    let dp := p.add (sumP ds)
    let dq := q.add (sumQ ds)
    some (((dp.scale (qPow j)).add dq).scale (qInv (qPow i ^^^ qPow j)))
  | _, _, _ => none

/-! Ledger and directory entries (R178, R179). -/

def LedgerEntry.zero : LedgerEntry :=
  { written := false, mirrored := false, lost := false, diverged := false, stripeA := 0, memberA := 0, stripeB := 0,
    memberB := 0, genLo := 0 }

/-- The 16 bytes of a ledger entry. -/
def LedgerEntry.bits (e : LedgerEntry) : Nat :=
  layFields [(0, e.stripeA.toNat), (4, e.memberA.val), (5, e.memberB.val),
    (6, b2n e.written + 2 * b2n e.mirrored + 4 * b2n e.lost + 8 * b2n e.diverged), (8, e.stripeB.toNat), (12, e.genLo.toNat)]

/-- The entry that 16 bytes give; reserved bits are not looked at. -/
def ledgerEntryOf (n : Nat) : LedgerEntry :=
  { written := bitAt n 48, mirrored := bitAt n 49, lost := bitAt n 50, diverged := bitAt n 51, stripeA := BitVec.ofNat 32 n,
    memberA := Fin.ofNat 8 (bitsOf n 34 32), stripeB := BitVec.ofNat 32 (bitsOf n 95 64),
    memberB := Fin.ofNat 8 (bitsOf n 42 40), genLo := BitVec.ofNat 32 (bitsOf n 127 96) }

/-- The 8 bytes of a directory entry. -/
def DirEntry.bits (e : DirEntry) : Nat := layFields [(0, e.stripe.toNat), (4, e.member.val + 128 * b2n e.valid)]

/-- The entry that 8 bytes give. -/
def dirEntryOf (n : Nat) : DirEntry := ⟨BitVec.ofNat 32 n, Fin.ofNat 8 (bitsOf n 34 32), bitAt n 39⟩

/-- The place of copy A and of copy B of an entry. -/
def LedgerEntry.placeA (e : LedgerEntry) : DirEntry := ⟨e.stripeA, e.memberA, true⟩
def LedgerEntry.placeB (e : LedgerEntry) : DirEntry := ⟨e.stripeB, e.memberB, true⟩

/-- The 32 bytes of a refusal log entry (R156), and the entry they give; APPLY has no result yet. -/
def LogEntry.bits (e : LogEntry) : Nat := e.hdr.toNat + 2 ^ 128 * e.slot.toNat
def logEntryOf (n : Nat) : LogEntry := ⟨BitVec.ofNat 128 n, BitVec.ofNat 128 (n / 2 ^ 128), 0⟩

/-! Records (R180). -/

def Record.isGen (r : Record) : Bool := decide (r.kind = 0x10) || decide (r.kind = 0x11)

/-- Bytes 0 to 251 of an open or commit record. -/
def Record.fields (r : Record) : Nat :=
  layFields ([(0, r.gen % 2 ^ 64), (8, r.t.toNat), (12, b2n r.intent + 2 * b2n r.degraded + 4 * b2n r.checkpoint),
    (16, Config.vaultId.toNat), (24, r.podTime.toNat), (32, r.wseqFirst % 2 ^ 64), (40, r.wseqLast % 2 ^ 64)] ++
    r.dirs.zipIdx.map (fun d => (48 + 8 * d.2, d.1.bits)) ++
    [(112, r.sideDir.bits), (120, r.logEntries % 2 ^ 32), (124, r.lostUnits % 2 ^ 32), (128, r.divergedUnits % 2 ^ 32),
      (132, r.unitsWritten % 2 ^ 32), (136, r.keyCheck.toNat), (144, r.zoneCrc.toNat), (148, r.prevGen % 2 ^ 64)])

/-- The payload of a record page: the 256-byte layout with its CRC-32C, or the stripe addresses, unused ones all ones. -/
def Record.payload (r : Record) : List Line :=
  if r.isGen then packPage 512 ((List.range 4).map (fun i =>
    layFields [(0, r.fields), (252, crc32c (bytesOf r.fields 252))] / 2 ^ (512 * i)))
  else packPage 32 (padTake (2 ^ 32 - 1) 4096 (r.stripes.map (fun s => s.toNat)))

/-- The stripe address of page n of channel c's anchor region, with `pages` pages to a block (R164, R173). -/
def anchorStripe (pages c n : Nat) : BitVec 32 := BitVec.ofNat 32 (c % 4 * 2 ^ 30 + n / pages * 4096 + n % pages)

/-- A record page as its 16,480 bytes: STRIPE is the anchor page's, MEMBER zero, no payload encrypted (R173, R175). -/
def AnchorPage.bits (a : AnchorPage) (pages : Nat) : PageBits :=
  let h : PageHeader := { typ := a.record.kind, layout := 0, enc := false, intent := a.record.intent, wseq := a.wseq, tseq := a.wseq,
                          gen := a.record.gen, unit := 0, poison := 0 }
  ⟨h.bits (anchorStripe pages a.chan a.at_).toNat 0, a.record.payload⟩

end Sys2Proof.Machine
end

