-- ==== Sys2Proof/Machine/Windows.lean ====
section
/-! DEFINITION. The committed Zoning windows (R8, R75, R81): bank 3 of the register keys, entry = window. -/
namespace Sys2Proof.Machine

/-- A window as one whole entry. -/
structure Window where
  idx : Nat
  perm : Nat
  tenantAny : Bool
  tenant : Nat
  base : Nat
  valid : Bool
  keyW : Nat
  owner : Nat
  layout : Nat
  cls : Nat
  limit : Nat
  dbase : Nat
  cmask : Nat
  deriving DecidableEq, Repr

/-- The bank of the committed table. -/
def winBank : Nat := 3

/-- The entry that four words give. -/
def windowOfWords (w a b c d : Nat) : Window :=
  { idx := w, perm := bitsOf a 58 53, tenantAny := bitAt a 52, tenant := bitsOf a 51 36, base := bitsOf a 35 0,
    valid := bitAt b 63, keyW := bitsOf b 43 41, owner := bitsOf b 40 40, layout := bitsOf b 39 38, cls := bitsOf b 37 36,
    limit := bitsOf b 35 0, dbase := bitsOf c 31 0, cmask := d }

/-- The four words of window w. -/
def windowWord (s : State) (w off : Nat) : Word := getReg s (rkey w winBank 0x11 off)

/-- Window w. -/
def windowOf (s : State) (w : Nat) : Window :=
  windowOfWords w (windowWord s w 0x808).toNat (windowWord s w 0x810).toNat (windowWord s w 0x818).toNat
    (windowWord s w 0x820).toNat

/-- Write window w as one whole. -/
def setWindow (s : State) (w : Nat) (a b c d : Word) : State :=
  setReg (setReg (setReg (setReg s (rkey w winBank 0x11 0x808) a) (rkey w winBank 0x11 0x810) b)
    (rkey w winBank 0x11 0x818) c) (rkey w winBank 0x11 0x820) d

/-- The valid windows, lowest first: only a window whose ZON_WIN_B was written can be valid. -/
def validWindows (s : State) : List Nat :=
  s.regs.filterMap (fun e =>
    if keyBank e.1 = winBank ∧ keyPage e.1 = 0x11 ∧ keyOff e.1 = 0x810 ∧ bitAt e.2.toNat 63 ∧ keyIdx e.1 < 4096
    then some (keyIdx e.1) else none)

/-- Lines in a window. -/
def Window.lines (w : Window) : Nat := w.limit + 1 - w.base

/-- The valid window that holds DRAM line l; DRAM ranges of valid windows do not overlap (R75). -/
def dramWindow (s : State) (l : Nat) : Option Window :=
  ((validWindows s).map (windowOf s)).find? (fun w => decide (w.dbase ≤ l) && decide (l < w.dbase + w.lines))

/-- This vault's side (R8). -/
def side (s : State) : Nat := fld s ZON_CTL_SIDE

/-- The vault owns the window. -/
def owns (s : State) (w : Window) : Bool := decide (w.owner = side s)

/-- The layout of a unit: that of the window of its first DRAM line; 7+1 outside every window (R170). -/
def unitLayout (s : State) (u : Nat) : Nat :=
  match dramWindow s (256 * u) with
  | some w => w.layout
  | none => 0

/-- OWNER in the committed table. -/
def winOwnerFld : Fld := ⟨0x11, 0x810, 40, 40⟩

/-- OWNER of window w set to side v. -/
def setOwner (s : State) (w v : Nat) : State := setFldIn s winOwnerFld w winBank v

end Sys2Proof.Machine
end

