-- ==== Sys2Proof/Machine/ImageOps.lean ====
section
/-! DEFINITION. The flash image (R163 to R193): units and their copies, group blocks and stripes, programs, ledger and directory pages,
records on the anchors, generations, losses. -/
namespace Sys2Proof.Machine

/-- The sources of the IMG page (R195, R218). -/
def srcImg (b : Nat) : Nat := srcNo 0x30 b
def srcDegraded : Nat := srcImg 0
def srcLost : Nat := srcImg 1
def srcAnchorMoved : Nat := srcImg 3
def srcOpenAbandoned : Nat := srcImg 4
def srcFch (c b : Nat) : Nat := srcNo (0x60 + c) b

/-! Units in DRAM. -/

/-- The 256 lines of unit u. -/
def unitLines (s : State) (u : Nat) : List Line := (List.range 256).map (fun i => readLine s (256 * u + i))

/-- The poisoned lines of unit u, by index. -/
def unitPoison (s : State) (u : Nat) : List Nat :=
  (s.dram.poison.filter (fun l => unitOf l = u)).map (fun l => l - 256 * u)

/-- Bit j set for poisoned line j (R172). -/
def poisonBits (l : List Nat) : BitVec 256 := BitVec.ofNat 256 (l.foldl (fun a j => a + 2 ^ j) 0)

/-! Ledgers (R178, R182). -/

/-- The newest ledger entry of a unit: the open generation's, that of the generation the commit engine closes, the newest committed
one's (R182). -/
def newestEntry (s : State) (u : Nat) : LedgerEntry :=
  match s.img.opened.find? (fun e => e.1 = u) with
  | some e => e.2
  | none => match s.img.closing.bind (fun c => c.ledger.find? (fun e => e.1 = u)) with
    | some e => e.2
    | none => sget LedgerEntry.zero s.img.committed u

/-- Write an entry of the open ledger: its ledger page has a changed entry (R183). Every entry is kept, since a zero entry there
supersedes a committed one. -/
def setOpened (s : State) (u : Nat) (e : LedgerEntry) : State :=
  { s with img := { s.img with opened := sput u e s.img.opened, spans := lins (u / 1024) s.img.spans } }

/-- Merge changed entries over a ledger; zero entries leave the list. -/
def mergeLedger (changed base : Sparse LedgerEntry) : Sparse LedgerEntry :=
  changed.foldl (fun m e => sset LedgerEntry.zero m e.1 e.2) base

/-- The newest ledger: every entry that is not zero. -/
def ledgerNow (s : State) : Sparse LedgerEntry :=
  mergeLedger s.img.opened (mergeLedger ((s.img.closing.map (fun c => c.ledger)).getD []) s.img.committed)

/-- Units with LOST set in the newest ledger. -/
def lostUnits (s : State) : List Nat := ((ledgerNow s).filter (fun e => e.2.lost)).map (fun e => e.1)

/-! Channels and groups (R168 to R170, R188). -/

/-- The channel of a stripe member: g + 4 × m (R169). -/
def channelOf (stripe : BitVec 32) (m : Fin 8) : Nat := groupNo stripe + 4 * m.val

/-- Bit c of IMG_STAT.FAILED. -/
def chFailed (s : State) (c : Nat) : Bool := bitAt (fld s IMG_STAT_FAILED) c

/-- Failed channels of group g (R170). -/
def groupFailed (s : State) (g : Nat) : Nat := ((List.range 8).filter (fun m => chFailed s (g + 4 * m))).length

/-- Group g is closed to writes (R170). -/
def groupClosed (s : State) (g : Nat) : Bool := decide (3 ≤ groupFailed s g)

/-- IMG_RATE with the channels failed (R170, R184, R188): each group gives 2,400 MB/s for each of 7 - f data members, and
none once it is closed. -/
def imageRate (s : State) : Nat :=
  (List.range 4).foldl (fun a g => let f := groupFailed s g; a + (if f < 3 then 2400 * (7 - f) else 0)) 0

/-- IMG_STAT.DEGRADED, CLOSED and IMG_RATE follow IMG_STAT.FAILED (R170, R196). -/
def settleGroups (s : State) : State :=
  let deg := (List.range 4).foldl (fun a g => a + (if 0 < groupFailed s g then 2 ^ g else 0)) 0
  let clo := (List.range 4).foldl (fun a g => a + (if groupClosed s g then 2 ^ g else 0)) 0
  setFld (setFld (setFld s IMG_STAT_DEGRADED deg) IMG_STAT_CLOSED clo) IMG_RATE_MBPS (imageRate s)

/-! Pages and what they give (R166, R171, R190). -/

/-- The page at a place. -/
def pageAt (s : State) (d : DirEntry) : Option FlashPage :=
  s.img.pages.find? (fun p => decide (p.stripe = d.stripe) && decide (p.member = d.member))

/-- The page cannot be read: it went bad, or its channel has failed. -/
def pageLost (s : State) (p : FlashPage) : Bool := p.bad || chFailed s (channelOf p.stripe p.member)

/-- The pages of a stripe. -/
def stripePages (s : State) (stripe : BitVec 32) : List FlashPage := s.img.pages.filter (fun p => p.stripe = stripe)

/-- The members of a stripe as it was opened: those with a page (R171). -/
def stripeMembers (s : State) (stripe : BitVec 32) : List (Fin 8) :=
  (List.finRange 8).filter (fun m => (stripePages s stripe).any (fun p => p.member = m))

/-- The stripe has no parity yet. -/
def stripeOpen (s : State) (stripe : BitVec 32) : Bool := s.img.openStripes.any (fun o => o.stripe = stripe)

/-- The stripe has a Q page (R170). -/
def stripeQ (s : State) (stripe : BitVec 32) : Bool :=
  decide (2 ≤ ((stripePages s stripe).filter (fun p => p.header.isNone)).length)

/-- The page at member m of a stripe where it can be read. -/
def readable (s : State) (stripe : BitVec 32) (m : Fin 8) : Option FlashPage :=
  (stripePages s stripe).find? (fun p => decide (p.member = m) && !pageLost s p)

/-- A data member that cannot be read, from the others (R171, R190). -/
def rebuildPage (s : State) (p : FlashPage) : Option PageBits :=
  if stripeOpen s p.stripe then none else
    let ms := stripeMembers s p.stripe
    let q := stripeQ s p.stripe
    let slots := (dataSlots p.stripe q ms).zipIdx
    let have_ := slots.filterMap (fun e => (readable s p.stripe e.1).map (fun x => (e.2, x.bits)))
    let gone := (slots.filter (fun e => (readable s p.stripe e.1).isNone && decide (e.1 ≠ p.member))).map (fun e => e.2)
    let par := fun (k : Nat) => ((parityMember p.stripe ms k).bind (readable s p.stripe)).map FlashPage.bits
    match slots.find? (fun e => e.1 = p.member), gone with
    | some e, [] => solvePage e.2 have_ (par 0) (if q then par 1 else none) none
    | some e, [j] => solvePage e.2 have_ (par 0) (if q then par 1 else none) (some j)
    | _, _ => none

/-- The header and payload of a page, read or reconstructed. -/
def pageRead (s : State) (p : FlashPage) : Option (PageHeader × List Line) :=
  if pageLost s p then (rebuildPage s p).map (fun b => (headerOf b.hdr, b.payload))
  else match p.body with
    | .page h l => some (h, l)
    | .parity _ => none

/-- The page's content can be had (R190). -/
def pageHad (s : State) (p : FlashPage) : Bool := (pageRead s p).isSome

/-- The copies of a unit that an entry names: A, and B of a mirrored unit. -/
def copiesOf (s : State) (e : LedgerEntry) : List FlashPage :=
  (if e.mirrored then [e.placeA, e.placeB] else [e.placeA]).filterMap (pageAt s)

/-- The copy of an entry that gives the unit back, and whether the other copy or parity had to (R190). -/
def copyOf (s : State) (e : LedgerEntry) : Option (FlashPage × Bool) :=
  match (copiesOf s e).find? (fun p => !pageLost s p) with
  | some p => some (p, decide (p.stripe ≠ e.stripeA ∨ p.member ≠ e.memberA))
  | none => ((copiesOf s e).find? (pageHad s)).map (fun p => (p, true))

/-- A payload decrypted under the image key (R175); none without a key. -/
def plainLines (s : State) (h : PageHeader) (ls : List Line) : Option (List Line) :=
  if h.enc then s.img.key.map (fun k => xtsDecrypt k h.tseq h.unit 0 ls) else some ls

/-- The decrypted payload of the page at a place. -/
def plainAt (s : State) (d : DirEntry) : Option (List Line) :=
  ((pageAt s d).bind (pageRead s)).bind (fun r => plainLines s r.1 r.2)

/-! Geometry and the erased pool (R164, R169, R186, R192, R193). -/

/-- A geometry field of channel c in force: FCH_GEOM as the last ENABLE of the channel found it (R199), kept in bank 3. -/
def geom (s : State) (c : Nat) (f : Fld) : Nat := fldIn s (f.inst c) 0 3

/-- Pages of a block. -/
def blockPages (s : State) : Nat := max 1 (geom s 0 FCH_GEOM_PAGES)
/-- Blocks of a die, and its spares (R164). -/
def dieBlocks (s : State) : Nat := geom s 0 FCH_GEOM_BLOCKS
def dieSpares (s : State) (c : Nat) : Nat := (geom s c FCH_GEOM_BLOCKS + 99) / 100
/-- The dies fitted. -/
def diesFitted (s : State) (c : Nat) : List Nat := (List.range 16).filter (fun d => bitAt (geom s c FCH_GEOM_DIE_EN) d)

/-- Usable group blocks: in every group one for each block of a channel that is neither reserved nor a spare (R164, R169). -/
def groupBlocks (s : State) : Nat := 4 * ((diesFitted s 0).length * (dieBlocks s - dieSpares s 0) - 66)

/-- Space of a group block in MiB: its blocks on eight channels, with pages of 16 KiB (R164, R169). -/
def groupBlockMib (s : State) : Nat := 8 * geom s 0 FCH_GEOM_PAGES / 64

/-- Installed units whose first line lies in a window of a layout (R170). -/
def unitsOfLayout (s : State) (lay : Nat) : Nat :=
  ((validWindows s).map (windowOf s)).foldl (fun a w =>
    if w.layout = lay then a + ((min (installedLines s) (w.dbase + w.lines) + 255) / 256 - (w.dbase + 255) / 256) else a) 0

/-- IMG_CAP.NEED (R196): the pages of a full dump with every unit in its layout and no channel failed, with its ledger, directory and
side pages, in MiB (log 42, DEDUCED). -/
def needMib (s : State) : Nat :=
  let u1 := unitsOfLayout s 1
  let u2 := unitsOfLayout s 2
  let stripes := (installedUnits s - u1 - u2 + 6) / 7 + (u1 + 5) / 6 + 2 * ((u2 + 6) / 7) +
    ((installedUnits s + 1023) / 1024 + 8 + 32 + 17 + 5) / 6
  (8 * stripes + 63) / 64

/-- IMG_CAP follows the pool and the layouts in force; POOL_LOW as the erased space falls below NEED (R192, R196). NEED counts from the
scan on. -/
def settleCap (s : State) : State :=
  let low := decide (fld s IMG_CAP_ERASED < fld s IMG_CAP_NEED)
  let gone := (s.img.held ++ s.img.retired.filter (fun b => !s.img.held.contains b)).length
  let s1 := setFld s IMG_CAP_ERASED (min (2 ^ 32 - 1) ((groupBlocks s - gone) * groupBlockMib s))
  let s2 := if flag s1 IMG_STAT_READY then setFld s1 IMG_CAP_NEED (min (2 ^ 32 - 1) (needMib s1)) else s1
  if !low && decide (fld s2 IMG_CAP_ERASED < fld s2 IMG_CAP_NEED) then raise s2 (srcImg 2) else s2

/-- IMG_WEAR follows the erase counts (R193). -/
def settleWear (s : State) : State :=
  let l := s.img.erases.map (fun e => e.2)
  let low := if l.length < groupBlocks s then 0 else l.foldl min 65535
  setFld (setFld s IMG_WEAR_MAX (min 65535 (l.foldl max 0))) IMG_WEAR_MIN (min 65535 low)

/-! What goes to the devices (R163, R164, R167). -/

/-- Where block b of a die lies now (R167); at most n remaps follow one another. -/
def remapped (m : List (Nat × Nat × Nat × Nat)) (c die : Nat) : Nat → Nat → Nat
  | 0, b => b
  | n + 1, b =>
    match m.find? (fun e => decide (e.1 = c) && decide (e.2.1 = die) && decide (e.2.2.1 = b)) with
    | some e => remapped m c die n e.2.2.2
    | none => b

/-- A read, program or erase goes to a device, behind FCH_SLC.PREFIX where that is not zero (R164). -/
def toDevice (s : State) (c : Nat) (cmd : FlashCmd) : State :=
  let pre := geom s c FCH_SLC_PREFIX
  emit (if pre = 0 then s else emit s (.flash c (.slcPrefix pre))) (.flash c cmd)

/-- The die and the block in which block gb of a group lies on channel c, after its remaps. -/
def physical (s : State) (c gb : Nat) : Nat × Nat :=
  let die := bitsOf gb 17 14
  (die, remapped s.img.remap c die s.img.remap.length (gb % 2 ^ 14))

/-- A page of a stripe is programmed; a failed channel takes no command. -/
def sendProgram (s : State) (stripe : BitVec 32) (m : Fin 8) : State :=
  let c := channelOf stripe m
  let b := physical s c (groupBlock stripe)
  if chFailed s c then s else toDevice s c (.program b.1 b.2 (pageNo stripe))

/-- A page of a stripe is read. -/
def sendRead (s : State) (stripe : BitVec 32) (m : Fin 8) : State :=
  let c := channelOf stripe m
  let b := physical s c (groupBlock stripe)
  toDevice s c (.read b.1 b.2 (pageNo stripe))

/-- A group block is erased on its eight channels (R169); each erase stands open until it is reported done (R167). -/
def eraseGroup (s : State) (gb : Nat) : State :=
  let cs := ((List.range 8).map (fun m => gb / 2 ^ 18 + 4 * m)).filter (fun c => !chFailed s c)
  let s1 := cs.foldl (fun x c => let b := physical x c gb; toDevice x c (.erase b.1 b.2)) s
  let i := s1.img
  settleWear { s1 with img := { i with pages := i.pages.filter (fun p => groupBlock p.stripe ≠ gb),
                                        erasing := i.erasing.filter (fun e => e.1 ≠ gb) ++ cs.map (fun c => (gb, c)),
                                        erases := nset i.erases gb (nget i.erases gb + 1) } }

/-- A group block joins the erased pool (R186, R192). -/
def eraseBlock (s : State) (gb : Nat) : State :=
  let s1 := eraseGroup s gb
  settleCap { s1 with img := { s1.img with held := if s1.img.retired.contains gb then s1.img.held else ldel gb s1.img.held,
                                            openBlocks := sdel s1.img.openBlocks gb } }

/-- The erased group blocks of group g: usable blocks that have not left the pool (R164, R169). -/
def poolBlocks (s : State) (g : Nat) : List Nat :=
  (diesFitted s 0).flatMap (fun d => (List.range (dieBlocks s - dieSpares s 0)).filterMap (fun b =>
    let gb := g * 2 ^ 18 + d * 2 ^ 14 + b
    if (d = 0 ∧ b < 66) ∨ s.img.held.contains gb ∨ s.img.retired.contains gb then none else some gb))

/-- Those with the lowest erase count (R193). -/
def leastErased (s : State) (l : List Nat) : List Nat :=
  let low := (l.map (nget s.img.erases)).foldl min (nget s.img.erases (l.headD 0))
  l.filter (fun b => nget s.img.erases b = low)

/-- One of several that the rules do not tell apart: free (log 9, DESIGN CHOICE). -/
def pickOne {α : Type} (s : State) : List α → Option (α × State)
  | [] => none
  | [x] => some (x, s)
  | l => let p := drawNat s; (l[p.1 % l.length]?).map (fun x => (x, p.2))

/-- A pool block fails its blank check: an erase of it has not ended, or its first or last page holds something (R186). -/
def notBlank (s : State) (gb : Nat) : Bool :=
  s.img.erasing.any (fun e => e.1 = gb) ||
    s.img.pages.any (fun p => decide (groupBlock p.stripe = gb) && (decide (pageNo p.stripe = 0) || decide (pageNo p.stripe + 1 = blockPages s)))

/-- A pool block is opened: it leaves the pool, erased again if its blank check fails (R186, R193). -/
def openBlock (s : State) (gb : Nat) : State :=
  let s1 := if notBlank s gb then eraseGroup s gb else s
  settleCap { s1 with img := { s1.img with held := lins gb s1.img.held, openBlocks := sput gb 0 s1.img.openBlocks } }

/-! Stripes (R169 to R171, R187). -/

/-- The next page of an open group block as a stripe. -/
def nextInBlock (s : State) (gb n : Nat) : BitVec 32 × State :=
  let blocks := if blockPages s ≤ n + 1 then sdel s.img.openBlocks gb else sput gb (n + 1) s.img.openBlocks
  (BitVec.ofNat 32 (gb * 4096 + n), { s with img := { s.img with openBlocks := blocks } })

/-- The next stripe of group g: in its open group block, page by page, else in the least erased block of the pool (R193; log 9,
DESIGN CHOICE). -/
def nextStripe (s : State) (g : Nat) : Option (BitVec 32 × State) :=
  match s.img.openBlocks.find? (fun e => e.1 / 2 ^ 18 = g) with
  | some e => some (nextInBlock s e.1 e.2)
  | none => (pickOne s (leastErased s (poolBlocks s g))).map (fun b => nextInBlock (openBlock b.2 b.1) b.1 0)

/-- Groups that take a new stripe: not closed, and not the one to avoid (R170). -/
def openGroups (s : State) (avoid : Option Nat) : List Nat :=
  (List.range 4).filter (fun g => !groupClosed s g && decide (avoid ≠ some g))

/-- The healthy members of group g (R171). -/
def healthyMembers (s : State) (g : Nat) : List (Fin 8) := (List.finRange 8).filter (fun m => !chFailed s (g + 4 * m.val))

/-- A stripe with nothing in it. -/
def newStripe (s : State) (st : BitVec 32) (ctx layout : Nat) : OpenStripe :=
  { stripe := st, layout := layout, ctx := ctx, members := healthyMembers s (groupNo st), filled := 0, units := [], spans := [],
    p := PageBits.zero, q := PageBits.zero }

/-- A stripe is opened (R171). In intent-log mode it is the next that the last intent record names (R187); in which group is free
otherwise (log 9, DESIGN CHOICE). -/
def openStripe (s : State) (ctx layout : Nat) (avoid : Option Nat) : Option (OpenStripe × State) :=
  let mk := fun (st : BitVec 32) => newStripe s st ctx layout
  if flag s IMG_STAT_MODE then
    (s.img.batch.find? (fun st => (openGroups s avoid).contains (groupNo st))).map (fun st =>
      (mk st, { s with img := { s.img with batch := s.img.batch.filter (fun x => x ≠ st) } }))
  else
    (pickOne s (openGroups s avoid)).bind (fun g => (nextStripe g.2 g.1).map (fun r => (mk r.1, r.2)))

/-- The stripe the next data page of a context and layout goes into: an open one, else a new one. -/
def stripeFor (s : State) (ctx layout : Nat) (avoid : Option Nat) : Option (OpenStripe × State) :=
  match s.img.openStripes.find? (fun o => decide (o.ctx = ctx) && decide (o.layout = layout) &&
      (openGroups s avoid).contains (groupNo o.stripe)) with
  | some o => some (o, s)
  | none => openStripe s ctx layout avoid

/-- The data members of an open stripe, in order (R171). -/
def OpenStripe.slots (o : OpenStripe) : List (Fin 8) := dataSlots o.stripe (decide (o.layout = 1)) o.members

/-! Programs (R167, R172, R174). -/

/-- Take the next write sequence number (R172). -/
def takeWseq (s : State) : Nat × State :=
  let w := fld s IMG_WSEQ_NEXT
  (w, setFld s IMG_WSEQ_NEXT (w + 1))

/-- The Junction uses n slots of 64 bytes (R174, R197). -/
def junction (s : State) (n : Nat) : State := bumpBy s JCT_SLOTS_COUNT n

/-- A page stands programmed; the Junction carried n slots for it (log 42, DEDUCED). -/
def programmed (s : State) (stripe : BitVec 32) (m : Fin 8) (b : PageBody) (n : Nat) : State :=
  let s1 := junction (sendProgram s stripe m) n
  { s1 with img := { s1.img with pages := s1.img.pages ++ [{ stripe := stripe, member := m, body := b, bad := false }],
                                  programs := s1.img.programs + 1 } }

/-- A page with a header is programmed as the next data member, and added into the accumulators (R171, R174). -/
def putData (s : State) (o : OpenStripe) (h : PageHeader) (ls : List Line) : OpenStripe × State :=
  match o.slots[o.filled]? with
  | none => (o, s)
  | some m =>
    let b : PageBits := ⟨h.bits o.stripe.toNat m.val, ls⟩
    ({ o with filled := o.filled + 1, p := o.p.add b, q := o.q.add (b.scale (qPow o.filled)),
              units := if h.typ = 1 then o.units ++ [h.unit] else o.units,
              spans := if h.typ = 2 then o.spans ++ [h.unit] else o.spans },
      programmed s o.stripe m (.page h ls) 256)

/-- The parity of a stripe is written: P, and Q in a 6+2 stripe (R171). A parity page has no header of its own and takes no WSEQ
(log 9, DEDUCED). -/
def putParity (s : State) (o : OpenStripe) : State :=
  let one := fun (x : State) (k : Nat) (b : PageBits) => match parityMember o.stripe o.members k with
    | some m => programmed x o.stripe m (.parity b) 258
    | none => x
  let s1 := one s 0 o.p
  if o.layout = 1 then one s1 1 o.q else s1

/-- An open stripe after a page of it: kept, or closed with its parity once its data members are written (R171). -/
def settleStripe (s : State) (o : OpenStripe) : State :=
  let rest := s.img.openStripes.filter (fun x => x.stripe ≠ o.stripe)
  if o.slots.length ≤ o.filled then putParity { s with img := { s.img with openStripes := rest } } o
  else { s with img := { s.img with openStripes := rest ++ [o] } }

/-- What a page to be written holds: its type, layout and unit; TSEQ and payload as they are where the payload is a ciphertext that
moves (R174), else a plaintext to encrypt or leave; and the group to avoid. -/
structure PageWrite where
  typ : Nat
  layout : Nat
  unit : Nat
  tseq : Option Nat
  enc : Bool
  poison : BitVec 256
  lines : List Line
  avoid : Option Nat
  deriving DecidableEq, Repr

/-- The header of a page written now, with a WSEQ (R172). -/
def headerNow (s : State) (w : PageWrite) (wseq : Nat) : PageHeader :=
  { typ := w.typ, layout := w.layout, enc := w.enc, intent := flag s IMG_STAT_MODE, wseq := wseq, tseq := w.tseq.getD wseq,
    gen := fld s IMG_GEN_OPEN_G, unit := w.unit, poison := w.poison }

/-- The payload as it is written: encrypted under its TSEQ and UNIT (R175). -/
def payloadOf (s : State) (w : PageWrite) (wseq : Nat) : List Line :=
  match w.tseq, s.img.key with
  | none, some k => if w.enc then xtsEncrypt k wseq w.unit w.lines else w.lines
  | _, _ => w.lines

/-- Program a page of the open generation for a context; where it went. None where no stripe can take it. -/
def programPage (s : State) (ctx : Nat) (w : PageWrite) : Option (DirEntry × State) :=
  (stripeFor s ctx w.layout w.avoid).bind (fun r =>
    let (q, s1) := takeWseq r.2
    (r.1.slots[r.1.filled]?).map (fun m =>
      let d := putData s1 r.1 (headerNow s1 w q) (payloadOf s1 w q)
      (⟨r.1.stripe, m, true⟩, settleStripe d.2 d.1)))

/-- A padding page of a stripe (R171, R173). -/
def padPage (s : State) (o : OpenStripe) : OpenStripe × State :=
  let (q, s1) := takeWseq s
  let w : PageWrite := { typ := 6, layout := o.layout, unit := 0, tseq := none, enc := false, poison := 0,
                         lines := List.replicate 256 0, avoid := none }
  putData s1 o (headerNow s1 w q) w.lines

/-- A stripe still open at a close is filled with padding, then parity (R171). -/
def fillStripe (s : State) (o : OpenStripe) : State :=
  let r := (List.range (o.slots.length - o.filled)).foldl (fun x _ => padPage x.2 x.1) (o, s)
  settleStripe r.2 r.1

/-- Every open stripe is filled (R183, step 2). -/
def fillStripes (s : State) : State := s.img.openStripes.foldl fillStripe s

/-! Copies of units (R170, R178, R182). -/

/-- Write a unit's content as its copy in the open generation: two copies, in different groups, when its window is mirrored hot. -/
def writeCopy (s : State) (ctx u : Nat) (tseq : Option Nat) (lines : List Line) (poison : BitVec 256) : Option State :=
  let lay := unitLayout s u
  let w : PageWrite := { typ := 1, layout := lay, unit := u, tseq := tseq, enc := true, poison := poison, lines := lines,
                         avoid := none }
  (programPage s ctx w).map (fun a =>
    let second := if lay ≠ 2 then none else
      ((pageAt a.2 a.1).bind (fun p => match p.body with
        | .page h l => some (h.tseq, l)
        | .parity _ => none)).bind (fun c =>
          programPage a.2 ctx { w with layout := 3, tseq := some c.1, lines := c.2, avoid := some (groupNo a.1.stripe) })
    let s2 := (second.map (fun b => b.2)).getD a.2
    let b := (second.map (fun b => b.1)).getD DirEntry.none_
    let e := newestEntry s u
    setOpened s2 u { written := true, mirrored := second.isSome, lost := tseq.isSome && e.lost,
                     diverged := if tseq.isSome then e.diverged else isDiverged s u, stripeA := a.1.stripe, memberA := a.1.member,
                     stripeB := b.stripe, memberB := b.member, genLo := BitVec.ofNat 32 (fld s IMG_GEN_OPEN_G) })

/-! Ledger, directory and side pages (R173, R179, R183). -/

/-- A page in a 6+2 stripe, encrypted. -/
def metaWrite (typ unit : Nat) (lines : List Line) : PageWrite :=
  { typ := typ, layout := 1, unit := unit, tseq := none, enc := true, poison := 0, lines := lines, avoid := none }

/-- Change the open directory. -/
def setOpenDir (s : State) (f : GenDir → GenDir) : State := { s with img := { s.img with openDir := f s.img.openDir } }

/-- One ledger page is written: a full snapshot of its span, found from the open directory (R179). -/
def writeLedgerPage (s : State) (ctx k : Nat) : State :=
  let es := (List.range 1024).map (fun i => (newestEntry s (1024 * k + i)).bits)
  match programPage s ctx (metaWrite 2 k (packPage 128 es)) with
  | none => s
  | some (d, s1) =>
    setOpenDir { s1 with img := { s1.img with spans := ldel k s1.img.spans } } (fun g => { g with dir := sput k d g.dir })

/-- The ledger pages whose span the copy has passed at unit u are written behind it (R183, step 1). -/
def passSpans (s : State) (ctx u : Nat) : State :=
  (s.img.spans.filter (fun k => decide (1024 * k + 1023 ≤ u))).foldl (fun x k => writeLedgerPage x ctx k) s

/-- One page of the side directory's entries is written (R173). -/
def writeSidePage (s : State) (ctx typ i : Nat) (lines : List Line) : State :=
  match programPage s ctx (metaWrite typ i lines) with
  | none => s
  | some (d, s1) => setOpenDir s1 (fun g => { g with side := sput i d g.side })

/-- The refusal log pages of a dump: entries 0 to 31, 512 log entries to a page. -/
def writeLogPages (s : State) (ctx : Nat) : State :=
  (chunks 512 32 s.pwr.log).zipIdx.foldl (fun x c => writeSidePage x ctx 4 c.2 (packPage 256 (c.1.map LogEntry.bits))) s

/-- The group blocks of the geometry in group-block order: ascending stripe address (R173; log 9, DEDUCED). -/
def blockOrder (s : State) : List Nat :=
  (List.range 4).flatMap (fun g => (diesFitted s 0).flatMap (fun d =>
    (List.range (dieBlocks s)).map (fun b => g * 2 ^ 18 + d * 2 ^ 14 + b)))

/-- The wear pages: entries 32 to 47, 8,192 erase counts of 16 bits to a page. -/
def writeWearPages (s : State) (ctx : Nat) : State :=
  (chunks 8192 16 (blockOrder s)).zipIdx.foldl (fun x c =>
    writeSidePage x ctx 7 (32 + c.2) (packPage 16 (c.1.map (fun b => min 65535 (nget x.img.erases b))))) s

/-- The side directory page. -/
def writeSideDir (s : State) (ctx : Nat) : State :=
  let es := (List.range 48).map (fun i => (sget DirEntry.none_ s.img.openDir.side i).bits)
  match programPage s ctx (metaWrite 5 0 (packPage 64 es)) with
  | none => s
  | some (d, s1) => setOpenDir s1 (fun g => { g with sideDir := d })

/-- A directory entry as it stands: entries beyond the installed units are invalid (R179). -/
def dirEntry (s : State) (k : Nat) : DirEntry :=
  if k < installedUnits s / 1024 then sget DirEntry.none_ s.img.openDir.dir k else DirEntry.none_

/-- Directory page j of eight. -/
def writeDirPage (s : State) (ctx j : Nat) : State :=
  let es := (List.range 2048).map (fun i => (dirEntry s (2048 * j + i)).bits)
  match programPage s ctx (metaWrite 3 0 (packPage 64 es)) with
  | none => s
  | some (d, s1) => setOpenDir s1 (fun g => { g with dirPages := padTake DirEntry.none_ 8 ((g.dirPages.take j) ++ [d]) })

/-- All eight directory pages (R183, step 4). -/
def writeDirPages (s : State) (ctx : Nat) : State :=
  (List.range 8).foldl (fun x j => writeDirPage x ctx j) s

/-! Records and the anchors (R180, R181, R182). -/

/-- Anchor pages that read back: not bad, on a healthy channel. -/
def goodAnchors (s : State) : List AnchorPage := s.img.anchors.filter (fun a => !a.bad && !chFailed s a.chan)

/-- Records of a kind that read valid on some anchor region. -/
def recordsOf (s : State) (kind : Nat) : List Record :=
  ((goodAnchors s).filter (fun a => a.record.kind = kind)).map (fun a => a.record)

/-- The highest GEN in any valid record on any anchor region (R182). -/
def highestGen (s : State) : Nat := (goodAnchors s).foldl (fun a p => max a p.record.gen) 0

/-- Committed generations: those with a commit record that reads back (R182). -/
def committedGens (s : State) : List Nat := (recordsOf s 0x11).map (fun r => r.gen)

/-- The newest committed generation, and the next lower one; 0 is none. -/
def newestGen (s : State) : Nat := (committedGens s).foldl max 0
def previousGen (s : State) : Nat := ((committedGens s).filter (fun g => g ≠ newestGen s)).foldl max 0

/-- The commit record of a generation. -/
def commitOf (s : State) (g : Nat) : Option Record := (recordsOf s 0x11).find? (fun r => r.gen = g)

/-- Blocks of channel c's anchor region that are skipped: they hold the commit record of the newest or the previous generation
(R181). -/
def keptBlocks (s : State) (c : Nat) : List Nat :=
  ((goodAnchors s).filter (fun a => decide (a.chan = c) && decide (a.record.kind = 0x11) &&
    (decide (a.record.gen = newestGen s) || decide (a.record.gen = previousGen s)))).map (fun a => a.at_ / blockPages s)

/-- The next free page of channel c's anchor region: block by block, wrapping; a block is erased just before it is used (R181). -/
def anchorPage (s : State) (c : Nat) : Nat × State :=
  let k := blockPages s
  let n := nget s.img.anchorNext c
  if n % k ≠ 0 then (n, s) else
    let b := ((List.range 64).map (fun i => (n / k + i) % 64)).find? (fun b => !(keptBlocks s c).contains b)
    let at_ := b.getD (n / k % 64)
    let s1 := toDevice s c (.erase 0 at_)
    (at_ * k, { s1 with img := { s1.img with anchors := s1.img.anchors.filter (fun a => !(decide (a.chan = c) && decide (a.at_ / k = at_))) } })

/-- A record is programmed at the next free anchor page of channel c; a page that fails its read-back stands bad. -/
def programRecord (s : State) (c : Nat) (r : Record) (good : Bool) : State :=
  if chFailed s c then s else
    let (n, s1) := anchorPage s c
    let (q, s2) := takeWseq s1
    let s3 := junction (toDevice s2 c (.program 0 (n / blockPages s) (n % blockPages s))) 256
    { s3 with img := { s3.img with anchors := s3.img.anchors ++ [{ chan := c, at_ := n, wseq := q, record := r, bad := !good }],
                                    anchorNext := nset s3.img.anchorNext c ((n + 1) % (64 * blockPages s)),
                                    programs := s3.img.programs + 1 } }

/-- A record goes to both anchor copies (R181). -/
def writeRecord (s : State) (r : Record) : State :=
  let s1 := programRecord s (fld s IMG_ANCHOR_CH1) r true
  programRecord s1 (fld s1 IMG_ANCHOR_CH2) r true

/-- CRC-32C of the 4,096 window entries (R180). -/
def zoneCrc (s : State) : Nat :=
  let one := fun w => [0x808, 0x810, 0x818, 0x820].flatMap (fun o => bytesOf (windowWord s w o).toNat 8)
  ((List.range 4096).foldl (fun c w => (one w).foldl (crcDownByte 0x82F63B78) c) 0xFFFFFFFF) ^^^ 0xFFFFFFFF

/-- A record of kind `kind` written now: zero in bytes 40 to 147 (R180). -/
def blankRecord (s : State) (kind gen : Nat) : Record :=
  { kind := kind, gen := gen, t := BitVec.ofNat 32 (fld s PSG_TAKEOVER_T), intent := flag s IMG_STAT_MODE,
    degraded := decide (fld s IMG_STAT_DEGRADED ≠ 0), checkpoint := false, podTime := BitVec.ofNat 64 (podNs s),
    wseqFirst := fld s IMG_WSEQ_NEXT, wseqLast := 0, dirs := List.replicate 8 DirEntry.none_, sideDir := DirEntry.none_,
    logEntries := 0, lostUnits := 0, divergedUnits := 0, unitsWritten := 0, keyCheck := 0, zoneCrc := 0, prevGen := newestGen s,
    stripes := [] }

/-- The directory a generation opens with: that of the one before, its pages not yet written. -/
def GenDir.next (g : GenDir) : GenDir := { g with side := [], dirPages := [], sideDir := DirEntry.none_ }

/-- The open record of the next generation, on both anchor copies (R148, R180, R182). -/
def writeOpenRecord (s : State) : State :=
  let g := highestGen s + 1
  setFld (writeRecord s (blankRecord s 0x10 g)) IMG_GEN_OPEN_G g

/-- The commit record of the generation that closes (R180). -/
def commitRecord (s : State) (c : Closing) : Record :=
  let b := blankRecord s 0x11 c.gen
  let first := ((recordsOf s 0x10).find? (fun r => r.gen = c.gen)).map (fun r => r.wseqFirst)
  { b with checkpoint := !c.dump, wseqFirst := first.getD 0, wseqLast := fld s IMG_WSEQ_NEXT - 1,
           dirs := padTake DirEntry.none_ 8 c.dirs.dirPages, sideDir := c.dirs.sideDir, logEntries := c.log.length,
           lostUnits := c.lost, divergedUnits := c.diverged, unitsWritten := c.units,
           keyCheck := (s.img.key.map keyCheck).getD 0, zoneCrc := BitVec.ofNat 32 (zoneCrc s) }

/-- The open generation is handed to the commit engine; what is written from now on belongs to the next one (R147, R183, R255). -/
def closeGeneration (s : State) (dump : Bool) : State :=
  let g := fld s IMG_GEN_OPEN_G
  let now := ledgerNow s
  let c : Closing :=
    { gen := g, dump := dump, ledger := s.img.opened, dirs := s.img.openDir, log := if dump then s.pwr.log else [],
      lost := (lostUnits s).length, diverged := (now.filter (fun e => e.2.diverged)).length,
      units := (s.img.opened.filter (fun e => e.2.written && decide (e.2.genLo = BitVec.ofNat 32 g))).length }
  { s with img := { s.img with closing := some c, closed := 0, opened := [], openDir := s.img.openDir.next } }

/-- GEN on the Passage (R114): bytes 0 to 7 G, bytes 8 to 11 T. -/
def sendGen (s : State) : State :=
  psgSend s 0xE 0 0 0 0 0 [BitVec.ofNat 128 (fld s PSG_GEN_OWN_G + fld s PSG_TAKEOVER_T * 2 ^ 64)]

/-- GEN of a commit (R130), or when the Passage is next up (R151). -/
def commitGen (s : State) : State :=
  if psgUp s then sendGen s else { s with psg := { s.psg with genDue := true } }

/-- The closing generation stands committed: the ledgers, the directories and the generation registers move on, and the commit is
published to the ring and to the partner (R130, R150, R182, R310). -/
def generationCommitted (s : State) (c : Closing) : State :=
  let i := s.img
  let s1 := { s with img := { i with previous := i.committed, prevDir := i.commDir, committed := mergeLedger c.ledger i.committed,
                                      commDir := c.dirs, log := c.log, closing := none } }
  let lost := (lostUnits s1).length
  let o := if c.dump then 0 else fld s IMG_GEN_OPEN_G
  let s2 := setFld (setFld (setFld s1 IMG_GEN_PREV_G (fld s IMG_GEN_COMMIT_G)) IMG_GEN_COMMIT_G c.gen) IMG_GEN_OPEN_G o
  let s3 := bump (setFld (setFld s2 PSG_GEN_OWN_G c.gen) IMG_LOST_UNITS lost) IMG_COUNTS_COMMITS
  let moved := (s3.img.relocating.filter (fun u => !isDirty s3 u)).length
  let s4 := bumpBy { s3 with img := { s3.img with relocating := s3.img.relocating.filter (fun u => isDirty s3 u) } }
    IMG_COUNTS_RELOCATED moved
  commitGen <| publish { s4 with pwr := { s4.pwr with lastCommit := if c.dump then s4.pwr.lastCommit else s4.pod + 1,
                                                                lastGen := s4.pod + 1 } }

/-! Losses and rebuild (R189, R190). -/

/-- Mark a unit LOST in the open ledger (R190). -/
def markLost (s : State) (u : Nat) : State :=
  if (newestEntry s u).lost then s else
    let s1 := setOpened s u { newestEntry s u with lost := true }
    raise (setFld s1 IMG_LOST_UNITS (lostUnits s1).length) srcLost

/-- A stripe has a member on a failed channel. -/
def stripeHurt (s : State) (stripe : BitVec 32) : Bool :=
  (stripePages s stripe).any (fun p => chFailed s (channelOf p.stripe p.member))

/-- Units whose newest copy lies in a stripe with a member on a failed channel (R189). -/
def hurtUnits (s : State) : List Nat :=
  ((ledgerNow s).filter (fun e => e.2.written && (stripeHurt s e.2.stripeA || (e.2.mirrored && stripeHurt s e.2.stripeB)))).map
    (fun e => e.1)

/-- Ledger pages of that kind (R189). -/
def hurtSpans (s : State) : List Nat :=
  (s.img.openDir.dir.filter (fun e => e.2.valid && stripeHurt s e.2.stripe)).map (fun e => e.1)

/-- Ledger pages to be written again. -/
def respan (s : State) (ks : List Nat) : State :=
  { s with img := { s.img with spans := ks.foldl (fun l k => lins k l) s.img.spans } }

/-- Mark units dirty: in RESTORE those not yet restored are promoted and marked once restored (R189, R190). -/
def markForCopy (s : State) (us : List Nat) : State :=
  us.foldl (fun x u =>
    if x.vault = .restore ∧ !isRestored x u then
      { x with img := { x.img with dirtyOnRestore := lins u x.img.dirtyOnRestore },
               pwr := { x.pwr with demand := if x.pwr.demand.contains u ∨ 4096 ≤ x.pwr.demand.length then x.pwr.demand
                                              else x.pwr.demand ++ [u] } }
    else setDirty x u true) s

/-- A unit of a rebuild has been copied: REBUILD_LEFT follows (R189, R196). -/
def rebuilt (s : State) (u : Nat) : State :=
  if s.img.rebuilding.contains u then
    let l := ldel u s.img.rebuilding
    setFld { s with img := { s.img with rebuilding := l } } IMG_WORK_REBUILD_LEFT l.length
  else s

end Sys2Proof.Machine
end

