-- ==== Sys2Proof/Machine/Nmo.lean ====
section
/-! DEFINITION. Near-memory and bucket operations on line contents (R38 to R41). -/
namespace Sys2Proof.Machine

/-- Opcodes (R36). -/
def opRD : Nat := 0x01
def opWR : Nat := 0x02
def opWRD : Nat := 0x03
def opADD64 : Nat := 0x08
def opADDPAIR : Nat := 0x09
def opCAS64 : Nat := 0x0A
def opCAS128 : Nat := 0x0B
def opEXM : Nat := 0x10
def opEXI : Nat := 0x11
def opEXD : Nat := 0x12
def opFENCE : Nat := 0x1F

/-- Only the owner executes these (R36, R116). -/
def ownerOnly (opc : Nat) : Bool := [opWRD, opCAS64, opCAS128, opEXI, opEXD].contains opc
/-- Opcodes that write (R356). -/
def writeType (opc : Nat) : Bool := [opWR, opWRD, opADD64, opADDPAIR, opCAS64, opCAS128, opEXI, opEXD].contains opc
/-- Word and quarter operations. -/
def wordType (opc : Nat) : Bool := [opADD64, opADDPAIR, opCAS64, opCAS128].contains opc
/-- Bucket operations. -/
def bucketType (opc : Nat) : Bool := [opEXM, opEXI, opEXD].contains opc

/-- Request data slots (R36). -/
def reqSlots (opc n : Nat) : Nat :=
  if opc = opWR ∨ opc = opWRD then 4 * n else
  if opc = opADD64 ∨ opc = opADDPAIR ∨ opc = opCAS64 then 1 else
  if opc = opCAS128 ∨ opc = opEXM ∨ opc = opEXI ∨ opc = opEXD then 2 else 0

/-- Response data slots with OK (R36). -/
def respSlots (opc n : Nat) : Nat :=
  if opc = opRD then 4 * n else
  if opc = opADD64 ∨ opc = opADDPAIR ∨ opc = opCAS64 ∨ opc = opCAS128 then 1 else
  if opc = opEXM then 2 else 0

/-- Bits [hi:lo] of a line replaced, as a window of w bits at bit position lo. -/
def Line.put (l : Line) (lo w v : Nat) : Line :=
  BitVec.ofNat 512 (l.toNat % 2 ^ lo + (v % 2 ^ w) * 2 ^ lo + l.toNat / 2 ^ (lo + w) * 2 ^ (lo + w))

/-- A window of w bits of a line at bit position lo. -/
def Line.get (l : Line) (lo w : Nat) : Nat := l.toNat / 2 ^ lo % 2 ^ w

/-- The outcome of an operation on a line. -/
structure WordResult where
  line : Line
  old : Slot128
  swapped : Bool
  deriving DecidableEq, Repr

/-- ADD64 on word `sub` (R38). -/
def add64Line (l : Line) (sub : Nat) (d : Slot128) : WordResult :=
  let old := Line.get l (64 * sub) 64
  ⟨Line.put l (64 * sub) 64 (old + d.toNat % 2 ^ 64), BitVec.ofNat 128 old, false⟩

/-- ADDPAIR on quarter `sub`: packet count in [39:0], byte count in [127:40], each wraps alone (R38). -/
def addpairLine (l : Line) (sub : Nat) (d : Slot128) : WordResult :=
  let old := Line.get l (128 * sub) 128
  let pk := (old % 2 ^ 40 + d.toNat % 2 ^ 40) % 2 ^ 40
  let by_ := (old / 2 ^ 40 + d.toNat / 2 ^ 40) % 2 ^ 88
  ⟨Line.put l (128 * sub) 128 (pk + by_ * 2 ^ 40), BitVec.ofNat 128 old, false⟩

/-- CAS64 on word `sub`: bytes 0 to 7 compared, bytes 8 to 15 written (R38). -/
def cas64Line (l : Line) (sub : Nat) (d : Slot128) : WordResult :=
  let old := Line.get l (64 * sub) 64
  if old = d.toNat % 2 ^ 64 then ⟨Line.put l (64 * sub) 64 (d.toNat / 2 ^ 64), BitVec.ofNat 128 old, true⟩
  else ⟨l, BitVec.ofNat 128 old, false⟩

/-- CAS128 on quarter `sub`: the first slot compared, the second written (R38). -/
def cas128Line (l : Line) (sub : Nat) (d e : Slot128) : WordResult :=
  let old := Line.get l (128 * sub) 128
  if old = d.toNat then ⟨Line.put l (128 * sub) 128 e.toNat, BitVec.ofNat 128 old, true⟩
  else ⟨l, BitVec.ofNat 128 old, false⟩

/-- The word or quarter operation of an opcode. -/
def wordOp (opc : Nat) (l : Line) (sub : Nat) (data : List Slot128) : WordResult :=
  let d := data.getD 0 0
  if opc = opADD64 then add64Line l sub d else
  if opc = opADDPAIR then addpairLine l sub d else
  if opc = opCAS64 then cas64Line l sub d else cas128Line l sub d (data.getD 1 0)

/-- A bucket: 256 bytes, eight entries of 32 bytes (R39). -/
abbrev Bucket := BitVec 2048

/-- Entry k of a bucket. -/
def Bucket.entry (b : Bucket) (k : Nat) : Nat := b.toNat / 2 ^ (256 * k) % 2 ^ 256

/-- The bucket with entry k at v. -/
def Bucket.setEntry (b : Bucket) (k v : Nat) : Bucket :=
  BitVec.ofNat 2048 (b.toNat % 2 ^ (256 * k) + (v % 2 ^ 256) * 2 ^ (256 * k) +
    b.toNat / 2 ^ (256 * (k + 1)) * 2 ^ (256 * (k + 1)))

/-- VALID of an entry image, and its key of w bytes. -/
def entryValid (e : Nat) : Bool := e % 2 = 1
def entryKey (w e : Nat) : Nat := e / 2 ^ 32 % 2 ^ (8 * w)

/-- Slots whose valid entry carries the key (R40). -/
def bucketHits (b : Bucket) (w image : Nat) : List Nat :=
  (List.range 8).filter (fun k => entryValid (b.entry k) && decide (entryKey w (b.entry k) = entryKey w image))

/-- Invalid slots. -/
def bucketFree (b : Bucket) : List Nat := (List.range 8).filter (fun k => !entryValid (b.entry k))

/-- The outcome of a bucket operation: status, slot, BUCKET_FULL, whether several entries matched, the bucket after it, the
line of the bucket the owner forwards (R116), whether that line was written, and the response data. -/
structure BucketResult where
  status : Nat
  slot : Nat
  full : Bool
  dup : Bool
  bucket : Bucket
  fwd : Nat
  wrote : Bool
  data : List Slot128
  deriving DecidableEq, Repr

/-- The entry image EXI stores: VALID at one, byte 0 bits 7:1 and bytes 1 to 3 zero (R40). -/
def storedEntry (image : Nat) : Nat := image / 2 ^ 32 * 2 ^ 32 + 1

/-- EXM, EXI and EXD on a bucket with keys of w bytes (R40, R41). -/
def bucketOp (opc : Nat) (b : Bucket) (w image : Nat) : BucketResult :=
  let hits := bucketHits b w image
  let dup := decide (1 < hits.length)
  let none_ : BucketResult := ⟨8, 0, false, false, b, 0, false, []⟩
  match hits with
  | k :: _ =>
    if opc = opEXM then
      ⟨0, k, false, dup, b, k / 2, false,
       [BitVec.ofNat 128 (b.entry k), BitVec.ofNat 128 (b.entry k / 2 ^ 128)]⟩
    else if opc = opEXI then ⟨9, k, false, dup, b, k / 2, false, []⟩
    else ⟨0, k, false, dup, b.setEntry k (b.entry k - 1), k / 2, true, []⟩
  | [] =>
    if opc = opEXI then
      match bucketFree b with
      | k :: _ => ⟨0, k, false, false, b.setEntry k (storedEntry image), k / 2, true, []⟩
      | [] => { none_ with full := true }
    else none_

end Sys2Proof.Machine
end

