-- ==== Sys2Proof/Machine/Respond.lean ====
section
/-! DEFINITION. Links, ports and what is sent on them (R23 to R31, R43, R50 to R59): transmit credit, refusals, responses, the
order in which they leave. Link 8 is the Passage. -/
namespace Sys2Proof.Machine

/-- Sources of the BLV page of link l (R55). -/
def srcBlv (l b : Nat) : Nat := srcNo (0x18 + l) b

/-- BLV_STAT.STATE of link l is up (R56). -/
def linkIsUp (s : State) (l : Nat) : Bool := decide (fld s (BLV_STAT_STATE.inst l) = 2)

/-- A field of port p, on the page of its home link p / 128 at index p mod 128 (R29). -/
def portFldOf (s : State) (f : Fld) (p : Nat) : Nat := fldAt s (f.inst (p / 128)) (p % 128)
def setPortFldOf (s : State) (f : Fld) (p v : Nat) : State := setFldAt s (f.inst (p / 128)) (p % 128) v

/-- Ports whose configuration differs from reset: every enabled port is one of them. -/
def listedPorts (s : State) : List Nat :=
  s.regs.filterMap (fun e =>
    if keyBank e.1 = 0 ∧ keyOff e.1 = 0x808 ∧ 0x18 ≤ keyPage e.1 ∧ keyPage e.1 ≤ 0x1F ∧ keyIdx e.1 < 128
    then some (128 * (keyPage e.1 - 0x18) + keyIdx e.1) else none)

/-- The enabled ports. -/
def enabledPorts (s : State) : List Nat := (listedPorts s).filter (fun p => portFldOf s BLV_PORT_CFG_ENABLE p != 0)

/-- A response leaves after its bound: it is counted (R54, R59). -/
def countLate (s : State) (l : Nat) : State := raise (bump s (BLV_LATE_COUNT.inst l)) (srcBlv l 10)

/-- The bound a response still has: none once it is counted late, which happens once to a response (log 56, DEDUCED). -/
def boundLeft (s : State) (b : Option Nat) : Option Nat := b.filter (fun t => decide (s.now ≤ t))
/-- The response leaves late now. -/
def lateNow (s : State) (b : Option Nat) : Bool := b.any (fun t => decide (t < s.now))

/-- Send what waits on a link: its slots use transmit credit, and its flits are kept until acknowledged (R25, R27). -/
def sendNow (s : State) (l : Nat) (m : TxMsg) : State :=
  sendMessage (setTxCredit s l (txCredit s l - m.slots)) l m.message
    (match m with
      | .response r b => some (r, boundLeft s b)
      | .control _ => none)

/-- The link can take the message now: up, nothing waits ahead, and credit for its slots (R27). -/
def canSend (s : State) (l : Nat) (m : TxMsg) : Bool :=
  linkIsUp s l && (getLink s l).backlog.isEmpty && decide (m.slots ≤ fld s (BLV_CREDIT_TX_CREDIT.inst l))

/-- The message waits for transmit credit. -/
def queueMsg (s : State) (l : Nat) (m : TxMsg) : State :=
  let x := getLink s l
  setLink s l { x with backlog := x.backlog ++ [m] }

/-- Send a message now, or keep it until the link has credit. -/
def sendOrQueue (s : State) (l : Nat) (m : TxMsg) : State := if canSend s l m then sendNow s l m else queueMsg s l m

/-- Send a refusal, or keep it until the link has credit. Its time is that of R61, which no register counts. -/
def sendRefusal (s : State) (l : Nat) (r : Response) : State := sendOrQueue s l (.response r none)

/-- The bound of what waits; a control slot has none. -/
def TxMsg.bound : TxMsg → Option Nat
  | .response _ b => b
  | .control _ => none

/-- Messages that waited for credit leave in order; a late response is counted. -/
def flushN : Nat → State → Nat → State
  | 0, s, _ => s
  | n + 1, s, l =>
    let x := getLink s l
    match x.backlog with
    | [] => s
    | m :: rest =>
      if linkIsUp s l && decide (m.slots ≤ fld s (BLV_CREDIT_TX_CREDIT.inst l)) then
        let s1 := sendNow (setLink s l { x with backlog := rest }) l m
        flushN n (if lateNow s m.bound then countLate s1 l else s1) l
      else s

def flushBacklog (s : State) (l : Nat) : State := flushN (getLink s l).backlog.length s l

/-- The response of a refusal: EPOCH and SEQ zero (R43). -/
def refusal (port : BitVec 10) (tag : BitVec 16) (status hint : Nat) : Response :=
  { port := port, tag := tag, status := BitVec.ofNat 4 status, hint := BitVec.ofNat 16 hint, epoch := 0, seq := 0,
    slot := 0, swapped := false, bucketFull := false, data := [] }

/-- The slots of a line, low first. -/
def lineSlots (l : Line) : List Slot128 := (List.range 4).map (fun k => BitVec.ofNat 128 (l.toNat / 2 ^ (128 * k)))
/-- The line of four slots. -/
def slotsLine (d : List Slot128) : Line :=
  BitVec.ofNat 512 ((List.range 4).foldl (fun a k => a + (d.getD k 0).toNat * 2 ^ (128 * k)) 0)

/-- The response of an accepted request that has executed. One that is not OK carries no data (R43). -/
def responseOf (f : Flight) : Response :=
  { port := f.hdr.port, tag := f.hdr.tag, status := f.status, hint := 0, epoch := f.epoch, seq := f.seq, slot := f.slot,
    swapped := f.swapped, bucketFull := f.full,
    data := if f.status ≠ 0 then [] else
      if f.opc = opRD then (List.range f.n).flatMap (fun k => lineSlots (sget 0 f.lines k)) else f.result }

/-- The time after which the response is late: the deadline (R58); of a FENCE 40 ns after the later of the latest earlier
deadline and its arrival (R62). -/
def Flight.bound (f : Flight) : Nat :=
  if f.opc = opFENCE then max f.deadline f.arrival + 40 * nsUnits else f.deadline

/-- The flight may answer: its work is done, no acknowledgement is awaited (R116), and a FENCE has no earlier request of its
port ahead (R51). -/
def ready (ahead : List Flight) (f : Flight) : Bool :=
  decide (f.left = 0) && f.ack.isNone &&
    (decide (f.opc ≠ opFENCE) || !ahead.any (fun g => g.hdr.port = f.hdr.port))

/-- The flights in acceptance order, each sent if it may answer and its link can take the response: the state, those that
stay, and the links of late responses. -/
def respondFold : State → List Flight → List Flight → List Nat → State × List Flight × List Nat
  | s, ahead, [], late => (s, ahead, late)
  | s, ahead, f :: rest, late =>
    let l := portFldOf s BLV_PORT_CFG_LINK f.hdr.port.toNat
    if ready ahead f && canSend s l (.response (responseOf f) (some f.bound)) then
      respondFold (sendNow s l (.response (responseOf f) (some f.bound))) ahead rest (if f.bound < s.now then late ++ [l] else late)
    else respondFold s (ahead ++ [f]) rest late

/-- Every response that can leave leaves; a late one is counted (R54, R59). -/
def settle (s : State) : State :=
  if s.rst.drain.isSome then s else
  let p := respondFold s [] s.adm.flights []
  let s1 := { p.1 with adm := { p.1.adm with flights := p.2.1 } }
  p.2.2.foldl countLate s1

/-- The flight with a tag; a tag names one request in the whole vault (R30). -/
def flightOf (s : State) (tag : BitVec 16) : Option Flight := s.adm.flights.find? (fun f => f.hdr.tag = tag)

/-- Change the flight with a tag. -/
def updFlight (s : State) (tag : BitVec 16) (g : Flight → Flight) : State :=
  { s with adm := { s.adm with flights := s.adm.flights.map (fun f => if f.hdr.tag = tag then g f else f) } }

/-- Requests of a port in flight, FENCE excluded (R62). -/
def portInflight (s : State) (p : Nat) : Nat :=
  (s.adm.flights.filter (fun f => decide (f.hdr.port.toNat = p) && decide (f.opc ≠ opFENCE))).length

/-- Requests of a pool in flight (R72). A FENCE has no tenant. -/
def poolInflight (s : State) (p : Nat) : Nat :=
  (s.adm.flights.filter (fun f => decide (f.pool = p) && decide (f.opc ≠ opFENCE))).length

/-! Links going down and coming up. -/

/-- The message under assembly on a link is dropped (R24, R52, R53). Its data slots that still arrive belong to no message and
count as orphans: the spec does not say whether they do (log 56, DESIGN CHOICE). -/
def dropPartial (s : State) (l : Nat) : State :=
  let x := getLink s l
  if x.hdr.isSome then
    returnCredit (freeRx (setLink s l { x with hdr := none, need := 0, data := [] }) l (1 + x.data.length)) l
  else s

/-- Send a message on a link or keep it there; a response that leaves late is counted (R54). -/
def sendAgain (s : State) (l : Nat) (m : TxMsg) : State :=
  let s1 := sendOrQueue s l m
  if canSend s l m && lateNow s m.bound then countLate s1 l else s1

/-- The response of port p that a flit in the replay buffer ends. -/
def SentFlit.ofPort (f : SentFlit) (p : Nat) : Option TxMsg :=
  match f.resp with
  | some (r, b) => if r.port.toNat = p then some (.response r b) else none
  | none => none

/-- A port moves between links: unacknowledged responses of the old link are sent again on the new one (R53). What waits for
credit moves with its port. -/
def movePort (s : State) (p from_ onto : Nat) : State :=
  let x := getLink s from_
  let again := x.sent.filterMap (fun f => f.ofPort p) ++ x.backlog.filter (fun m => m.port = p)
  let s0 := setLink s from_ { x with sent := x.sent.map (fun f => if (f.ofPort p).isSome then { f with resp := none } else f),
                                     backlog := x.backlog.filter (fun m => m.port ≠ p) }
  let s1 := if x.hdr.any (fun h => bitsOf h.toNat 14 5 = p) then dropPartial s0 from_ else s0
  again.foldl (fun y m => sendAgain y onto m) s1

/-- The ports of a failed link move to their standby link if it is up (R53). -/
def failover (s : State) (l : Nat) : State :=
  (enabledPorts s).foldl (fun x p =>
    if portFldOf x BLV_PORT_CFG_LINK p = l then
      let b := portFldOf x BLV_PORT_CFG_STANDBY p
      if linkIsUp x b then
        movePort (setPortFldOf (setPortFldOf x BLV_PORT_CFG_LINK p b) BLV_PORT_CFG_STANDBY p l) p l b
      else setPortFldOf x BLV_PORT_STAT_STRANDED p 1
    else x) s

/-- Receive assembly of a link starts afresh. -/
def LinkSt.cleared (x : LinkSt) : LinkSt :=
  { x with hdr := none, need := 0, data := [], rxSeq := none, rxBad := [], txFails := 0, nakAck := none, fast := false, keep := false }

/-- Boulevard link l starts to train: receive assembly and credits start afresh (R21, R27); `fast` is a fast retrain. -/
def startTraining (s : State) (l : Nat) (fast : Bool) : State :=
  let s1 := setLink s l { (getLink s l).cleared with owed := 0, fast := fast }
  setFld (setFld (setFld s1 (BLV_STAT_STATE.inst l) 1) (BLV_CREDIT_TX_CREDIT.inst l) 0) (BLV_CREDIT_RX_FREE.inst l) 4096

/-- Boulevard link l is declared down (R26): LINK_DOWN, failover, and a fast retrain where AUTO_RETRAIN is one. -/
def blvLinkDown (s : State) (l : Nat) : State :=
  let s1 := setLink s l (getLink s l).cleared
  let s2 := setFld (setFld s1 (BLV_STAT_STATE.inst l) 3) (BLV_STAT_WIDTH.inst l) 0
  let s3 := settle (failover s2 l)
  raise (if flag s3 (BLV_CTL_AUTO_RETRAIN.inst l) then startTraining s3 l true else s3) (srcBlv l 0)

/-- LINK_HDR.ACK from the far side: the flits up to it are covered (R25). -/
def ackFlits (s : State) (l : Nat) (ack : BitVec 12) : State :=
  let x := getLink s l
  setLink s l { x with sent := x.sent.filter (fun f => !decide ((ack - f.seq).toNat < 2048)) }

end Sys2Proof.Machine
end

