-- ==== Sys2Proof/Machine/PowerOps.lean ====
section
/-! DEFINITION. Power watch (R137 to R162, R200 to R203, R399): the reserve in force, the energy proof, checkpoints, and the
entries to RIDE, DUMP, ALLEY, SERVE and RESTORE. -/
namespace Sys2Proof.Machine

/-- The sources of the PWR page (R161). -/
def srcPwr (b : Nat) : Nat := srcNo 8 b
def srcMainLoss : Nat := srcPwr 0
def srcDump : Nat := srcPwr 1
def srcAbandoned : Nat := srcPwr 2
def srcUnproven : Nat := srcPwr 3
def srcNoReserve : Nat := srcPwr 4
def srcLogOvf : Nat := srcPwr 5
def srcAbortIgnored : Nat := srcPwr 6
def srcSenseErr : Nat := srcPwr 7
def srcPwrCfgErr : Nat := srcPwr 8

/-- The main rail is qualified present (R162). -/
def mainPresent (s : State) : Bool := flag s PWR_STAT_MAIN

/-! Checkpoints. -/

/-- A checkpoint runs, or its routine is requested. -/
def ckptRuns (s : State) : Bool := flag s PWR_STAT_CKPT

/-- Start a checkpoint unless one runs (R145, R147): SERVE or RESTORE only. -/
def startCheckpoint (s : State) : State :=
  if (s.vault = .serve ∨ s.vault = .restore) ∧ !ckptRuns s then
    let s1 := setFlag (requestRoutine s 0 2) PWR_STAT_CKPT true
    let s2 := setFld (setFld s1 PWR_DUMP_STAT_PHASE 2) PWR_DUMP_STAT_UNITS_WRITTEN 0
    noteReserve { s2 with pwr := { s2.pwr with ckWait := false, committed := false } }
  else s

/-- A rebuild goes on (R189): the units whose newest copy lies in a stripe with a member on a failed channel are marked, and
such ledger pages for rewriting, and the next of its two checkpoints starts, with no regard to CK_MIN (log 42, DEDUCED). -/
def rebuildOn (s : State) : State :=
  if s.img.rebuildLeft = 0 ∨ !(s.vault = .serve ∨ s.vault = .restore) then s
  else if s.img.rebuildLeft = 1 then startCheckpoint s
  else
    let us := hurtUnits s
    let s1 := respan (markForCopy s us) (hurtSpans s)
    startCheckpoint (setFld { s1 with img := { s1.img with rebuilding := us } } IMG_WORK_REBUILD_LEFT us.length)

/-- CK_MIN has passed since the last checkpoint (R193). -/
def ckMinPassed (s : State) : Bool :=
  decide (s.pwr.lastCommit = 0) || decide (s.pwr.lastCommit - 1 + fld s IMG_GC_CK_MIN * 1000000000 * nsUnits ≤ s.pod)

/-- A checkpoint held to CK_MIN (R193): firmware, reshaping and relocation requests that come sooner wait. -/
def requestCheckpoint (s : State) : State :=
  if (s.vault = .serve ∨ s.vault = .restore) ∧ !ckptRuns s then
    if ckMinPassed s then startCheckpoint s else { s with pwr := { s.pwr with ckWait := true } }
  else s

/-! The energy proof. -/

/-- Board test: SERVE with BKUP_ARM zero (R138). -/
def boardTest (s : State) : Bool := decide (s.vault = .serve) && !flag s PWR_CTL_BKUP_ARM

/-- e_use of R145, in mJ. -/
def eUse (s : State) : Nat := if boardTest s then 0 else fld s PWR_E_NEED_E_USE

/-- E_FIX + MARGIN in nJ. -/
def eFixNj (s : State) : Nat := (fld s PWR_ENERGY_E_FIX + fld s PWR_MARGIN_MARGIN) * 1000000
/-- P_RIDE × WINDOW in nJ: W times us is uJ. -/
def eRideNj (s : State) : Nat := fld s PWR_ENERGY_P_RIDE * fld s PWR_RIDE_WINDOW * 1000

/-- PROVEN of R145. -/
def provenNow (s : State) : Bool :=
  decide (eFixNj s + eRideNj s + installedUnits s * fld s PWR_ENERGY_E_UNIT ≤ eUse s * 1000000)

/-- The energy a dump of the dirty units needs, in nJ: the commitment threshold of R145. -/
def needNj (s : State) : Nat := eFixNj s + dirtyUnits s * fld s PWR_ENERGY_E_UNIT

/-- d_max of R145. With E_UNIT zero the spec states no quotient: a free value (log 4, DESIGN CHOICE). -/
def dMax (s : State) : Int × State :=
  let e := fld s PWR_ENERGY_E_UNIT
  let rest : Int := (eUse s * 1000000 : Nat) - (eFixNj s + eRideNj s : Nat)
  if e = 0 then let p := drawNat s; ((p.1 : Int), p.2) else (Int.fdiv rest e, s)

/-- SERVE or RESTORE, the states UNPROVEN watches (R145). -/
def watched (s : State) : Bool := decide (s.vault = .serve) || decide (s.vault = .restore)

/-- UNPROVEN at each onset of its condition (R145). -/
def watchUnproven (s : State) : State :=
  let c := watched s && !flag s PWR_STAT_PROVEN
  let s1 := { s with pwr := { s.pwr with unproven := c } }
  if c && !s.pwr.unproven then raise s1 srcUnproven else s1

/-- Entry to a state: the transition, then the conditions that name the state (R145), and the end of a Census on entry to RIDE
or DUMP (R321). -/
def enter (s : State) (v : VaultState) : State :=
  let s1 := watchUnproven (setVault s v)
  if (v = .ride ∨ v = .dump) ∧ censusActive s1 then raiseEvent (raise (censusAbort s1) srcCenAborted) 3 evLeave else s1

/-! The Passage going idle, and the dump. -/

/-- The units a request's DRAM lines lie in (R207). -/
def flightUnits (f : Flight) : List Nat :=
  let a := unitOf f.dline
  let b := unitOf (f.dline + f.n - 1)
  if a = b then [a] else [a, b]

/-- A WRD of this vault that the partner has not acknowledged. -/
def Flight.unacked (f : Flight) : Bool := decide (f.opc = opWRD) && (decide (0 < f.left) || f.ack.isSome)

/-- Requests that wait for an acknowledgement when the Passage goes idle or down (R125, R155): each waits no longer and its
unit is marked, but a WRD. A WRD waits for the catch-up, in which its lines are sent anew, or, once the vault dumps, receives no
response, and its units are marked. -/
def releaseOwnerWaits (s : State) (dump : Bool) : State :=
  let waits := s.adm.flights.filter (fun f => f.ack.isSome || (dump && f.unacked))
  let s1 := (waits.flatMap flightUnits).foldl (fun x u => setDiverged x u true) s
  let kept := if dump then s1.adm.flights.filter (fun f => !f.unacked) else s1.adm.flights
  let freed := kept.map (fun f =>
    if f.opc = opWRD then { f with ack := f.ack.map (fun _ => 2 ^ 32) } else { f with ack := none })
  settle { s1 with adm := { s1.adm with flights := freed }, psg := { s1.psg with fwd := [] } }

/-- The partner is known not to be on the ring as a running vault: departed, without power or stopped (R14, R307;
log 27, DEDUCED). -/
def partnerGone (s : State) : Bool :=
  s.psg.partnerDeparted ||
    (match s.psg.partner with | some .off | some .ship | some .fenced | some .sealed => true | _ => false)

/-- The partner has left the service of the square (R124, R154). -/
def partnerAway (s : State) : Bool :=
  partnerGone s || (match s.psg.partner with | some .dump | some .alley | some .boot => true | _ => false)

/-- Solo operation is due (R124, R125): the vault serves, the Passage is not there, and the partner may still be: neither gone nor
dumping, and its windows not taken over (log 27, DEDUCED). -/
def soloDue (s : State) : Bool :=
  (decide (s.vault = .serve) || decide (s.vault = .restore)) && !psgLive s && !flag s PSG_STAT_SOLO && !s.psg.alone &&
    !partnerGone s && !(match s.psg.partner with | some .dump | some .alley => true | _ => false)

/-- Solo operation begins where it is due. -/
def startSolo (s : State) : State :=
  if soloDue s then releaseOwnerWaits (raise (setFlag s PSG_STAT_SOLO true) (srcNo 0x28 3)) false else s

/-- RIDE → DUMP (R150, steps 1 and 2): the Passage goes idle, the ring announcement is the publication of the transition,
and the DUMP routine is due on context 0. -/
def enterDump (s : State) : State :=
  let s1 := releaseOwnerWaits s true
  let s2 := setFld (setFld (enter s1 .dump) PSG_STAT_STATE 4) PSG_STAT_WIDTH 0
  let s3 := bump (setFld (setFld s2 PWR_DUMP_STAT_ABORT_RESULT 0) PWR_DUMP_STAT_UNITS_WRITTEN 0) PWR_COUNTS_DUMPS
  let s4 := setFld (setFld (setFlag s3 PWR_LOG_OVF false) PWR_LOG_ENTRIES 0) PWR_DUMP_STAT_PHASE 3
  let s5 := { s4 with pwr := { s4.pwr with committed := false, ended := none, abortSeen := false, log := [],
                                            joinWaited := false, dumpStart := s4.pod },
                      psg := { s4.psg with genSeen := false, genSent := false } }
  let s6 := raiseEvent (raiseEvent (raiseEvent (raiseEvent s5 0 evDump) 1 evLeave) 2 evLeave) 3 evLeave
  raise s6 srcDump

/-- The proof of R145, at every update of the estimator: PROVEN, D_MAX and E_NEED, the events at their onsets, the commitment
in RIDE and the checkpoint while unproven. A waiting checkpoint starts once CK_MIN has passed (R193). -/
def evalProof (s : State) : State :=
  let (d, s0) := dMax s
  let s1 := setFlag s0 PWR_STAT_PROVEN (provenNow s0)
  let s2 := setFld (setFld s1 PWR_PROOF_D_MAX (min (2 ^ 25 - 1) d.toNat)) PWR_E_NEED_E_NEED
    (min (2 ^ 32 - 1) (Config.roundReg ((needNj s1 : Rat) / 1000000)))
  let neg := decide (d < 0)
  let s3 := { s2 with pwr := { s2.pwr with noReserve := neg } }
  let s4 := if neg && !s.pwr.noReserve then raise s3 srcNoReserve else s3
  let s5 := watchUnproven s4
  if logicFailed s5 then s5
  else if s5.vault = .ride ∧ eUse s5 * 1000000 ≤ needNj s5 then enterDump s5
  else if watched s5 && !flag s5 PWR_STAT_PROVEN && !boardTest s5 &&
      decide (d - (fld s5 PWR_MARGIN_CK_SLACK : Int) < (dirtyUnits s5 : Int)) then startCheckpoint s5
  else if s5.pwr.ckWait && ckMinPassed s5 then startCheckpoint s5
  else s5

/-! Entries to the other states. -/

/-- SERVE or RESTORE → RIDE (R142). A checkpoint that runs gets LOSS, context 1 pauses (R251). -/
def enterRide (s : State) : State :=
  let s1 := bump { (enter { s with pwr := { s.pwr with rideFrom := s.vault } } .ride) with
                   pwr := { s.pwr with rideFrom := s.vault, unproven := false } } PWR_COUNTS_RIDES
  let s2 := raiseEvent s1 1 evPause
  if flag s2 PWR_STAT_CKPT then raiseEvent s2 0 evLoss else s2

/-- The dirty bitmap on entry to SERVE: every bit set after a reset that lost it with current DRAM, and on the first entry
after FORMAT (R177). -/
def settleBitmap (s : State) : State :=
  if s.img.fresh || s.pwr.bitmapLost then
    { s with dram := { s.dram with dirty := Bitmap.all true }, img := { s.img with fresh := false },
             seq := { s.seq with dirtied := s.seq.dirtied + (installedUnits s - dirtyUnits s) },
             pwr := { s.pwr with bitmapLost := false } }
  else s

/-- The source enters forward-all (R132, step 2); STREAM of every valid window is due 66 us later. -/
def beginForwardAll (s : State) : State :=
  let caught := s.adm.flights.map (fun f => if writeType f.opc then { f with fwd := max 1 f.fwd } else f)
  noteReserve (setFlag { s with adm := { s.adm with flights := caught },
                                psg := { s.psg with fwdEnded := [], servedNotice := false, source := true, resyncAsked := false } }
    PSG_STAT_FWD_ALL true)

/-- A resync that a returning partner asked for begins once this vault is in SERVE (R205). -/
def answerResync (s : State) : State := if s.vault = .serve ∧ s.psg.resyncAsked then beginForwardAll s else s

/-- NOTICE SERVE entered goes to the partner on every entry to SERVE or RESTORE from JOIN, CULDESAC or DUMP (R132, R203,
R205). -/
def enterServing (s : State) (v : VaultState) : State :=
  let s1 := enter s v
  startSolo (rebuildOn (answerResync (sendNotice (if v = .serve then settleBitmap s1 else s1) 4)))

/-- Every installed unit is restored. -/
def allRestored (s : State) : Bool := decide (installedUnits s ≤ s.dram.restored.count (installedUnits s))

/-- A restore ends: DURATION is written, ACTIVE reads zero. -/
def restoreEnds (s : State) : State :=
  let ms := (s.pod - s.pwr.restoreStart) / (1000 * usUnits)
  setFlag (setFld s IMG_RST_TIME_DURATION (min (2 ^ 32 - 1) ms)) IMG_RST_STAT_ACTIVE false

/-- RESTORE → SERVE once every unit is restored (R15, R214, R217): the restore ends, and what waits for SERVE begins. -/
def finishRestore (s : State) : State :=
  if s.vault = .restore ∧ allRestored s then answerResync (settleBitmap (enter (restoreEnds s) .serve)) else s

/-- What ALLEY leaves without power (R150, step 10; R200): the DRAM content, everything accepted, the restore. -/
def loseDram (s : State) : State :=
  let s1 := dropWork s
  { s1 with dram := { DramSt.reset with diverged := s.dram.diverged },
            pwr := { s1.pwr with demand := [], bitmapLost := false } }

/-- → ALLEY (R150, R153): links idle, contexts stopped, a held warm reset discarded (R16). -/
def enterAlley (s : State) : State :=
  let s1 := haltPower (linksIdle (stopContexts s))
  let s2 := if flag s1 BOOT_STAT_RESET_HELD then setFlag (setFlag s1 BOOT_STAT_RESET_HELD false) PWR_STAT_RESET_DISCARD true
    else s1
  let s3 := enter { (loseDram s2) with rst := { s2.rst with raising := false } } .alley
  { s3 with ring := { s3.ring with awake := false, relayed := [], east := { s3.ring.east with rdvDone := false, lastRdv := s3.now },
                                   west := { s3.ring.west with rdvDone := false, lastRdv := s3.now } } }

/-- A dump or its abandonment ends: DURATION, and the hold of R201 while the main rail is present. -/
def dumpEnds (s : State) (completed : Bool) : State :=
  let us := (s.pod - s.pwr.dumpStart) / usUnits
  let s1 := setFld (setFld s PWR_DUMP_TIME_DURATION (min (2 ^ 32 - 1) us)) PWR_DUMP_STAT_PHASE 8
  let s2 := { s1 with pwr := { s1.pwr with ended := some completed, abortSeen := false } }
  setFlag s2 IMG_RST_STAT_HOLD true

/-- The dump resumes at step 6 of R150 with the units still dirty (R160, R201). -/
def resumeDump (s : State) : State :=
  let s1 := setFlag (setFld (requestRoutine s 0 0) PWR_DUMP_STAT_PHASE 4) IMG_RST_STAT_HOLD false
  { (setFlag s1 IMG_RST_STAT_JOIN_WAITING false) with
    pwr := { s1.pwr with ended := none, committed := false, joinWaited := false } }

/-- The dump is abandoned at a unit boundary (R159). With the rail lost again meanwhile it resumes (R160). -/
def abandonDump (s : State) : State :=
  let s1 := bump (setFld s PWR_DUMP_STAT_ABORT_RESULT 1) PWR_COUNTS_ABANDONS
  let s2 := raise (dumpEnds s1 false) srcAbandoned
  if s2.vault = .dump ∧ !mainPresent s2 then resumeDump s2 else s2

/-- The second commit record copy of a dump stands (R150, steps 9 and 10; R152; R201). -/
def completeDump (s : State) : State :=
  if mainPresent s then dumpEnds s true else enterAlley (setFlag (dumpEnds s true) IMG_RST_STAT_HOLD false)

/-- An abort reaches the sequencer (R159): before the commit point it is an ABORT event for the DUMP routine; after it the
dump completes. -/
def seeAbort (s : State) : State :=
  if s.vault ≠ .dump ∨ flag s IMG_RST_STAT_HOLD then s
  else if s.pwr.committed then setFld s PWR_DUMP_STAT_ABORT_RESULT 2
  else raiseEvent { s with pwr := { s.pwr with abortSeen := true } } 0 evAbort

/-- The registry's T of the square: the larger of its two entries (R310). -/
def registryT (s : State) : Nat :=
  let of_ := fun (id : Word) => ((registryFind s id).map (fun e => e.t.toNat)).getD 0
  max (of_ (vaultId s)) (of_ Config.partnerId)

/-- The takeover count read for the square, from the partner's GEN or the registry (R201). -/
def squareT (s : State) : Nat := max (fld s PSG_TAKEOVER_PARTNER_T) (registryT s)

/-- OWNER of window w becomes side v (R121, R124). A snapshot window that moves after T makes the Census PARTIAL (R321). -/
def moveOwner (s : State) (w v : Nat) : State :=
  let x := windowOf s w
  if x.owner = v then s else
    let s1 := setOwner s w v
    let cut := censusActive s && s.cen.armed.isNone && x.valid && decide (x.cls = 1) && (fldAt s CEN_WIN_EN w != 0)
    if cut then { s1 with cen := { s1.cen with partial_ := true } } else s1

/-- OWNER becomes this vault's side in every window (R124). -/
def ownAll (s : State) : State := (List.range 4096).foldl (fun x w => moveOwner x w (side s)) s

/-- Takeover (R124): every window, the count, its publication; the mirror queue drains as ordinary traffic. A WRD that
waits for its acknowledgement waits no longer (R125), and solo operation and its waits end with the partner's claim
(log 27, DEDUCED). -/
def takeover (s : State) : State :=
  let s1 := ownAll s
  let s2 := setFlag (setFld s1 PSG_TAKEOVER_T (fld s1 PSG_TAKEOVER_T + 1)) PSG_STAT_SOLO false
  let s3 := { s2 with adm := { s2.adm with flights := s2.adm.flights.map (fun f => { f with ack := none }) },
                      psg := { s2.psg with fwd := [], handshake := none, moving := false, holdUnowned := false,
                                           holdAll := false, needEnd := false, markDual := false, alone := true } }
  settle (raise (publish s3) (srcNo 0x28 4))

end Sys2Proof.Machine
end

