-- ==== Sys2Proof/Machine/DramOps.lean ====
section
/-! DEFINITION. DRAM lines and the work on them (R83 to R97, R116 to R118, R177, R319): the address map, reads through ECC,
writes and all that follows a write, the forwarding of lines, and the service of booked items. -/
namespace Sys2Proof.Machine

/-- Sources of the DRC page of quadrant q and of the PHY page of subchannel n (R108). -/
def srcDrc (q b : Nat) : Nat := srcNo (0x20 + q) b
def srcDrp (n b : Nat) : Nat := srcNo (0x40 + n) b
/-- Sources of the PSG page (R135). -/
def srcPsg (b : Nat) : Nat := srcNo 0x28 b
def srcMsgErr : Nat := srcPsg 2

/-! The address map (R85). -/

/-- The subchannel of DRAM line l. -/
def subOf (s : State) (l : Nat) : Nat :=
  if bitAt (fld s DRC_MAP_XOR_MODE) 1 then bitsOf l 10 6 ^^^ bitsOf l 23 19 else bitsOf l 10 6

/-- The bank of DRAM line l, {BG, BA}. -/
def bankOf (s : State) (l : Nat) : Nat :=
  if bitAt (fld s DRC_MAP_XOR_MODE) 0 then bitsOf l 14 11 ^^^ bitsOf l 18 15 else bitsOf l 14 11

/-- The row of DRAM line l. -/
def rowOf (s : State) (l : Nat) : Nat := if fld s DRC_MAP_DENSITY = 1 then bitsOf l 30 15 else bitsOf l 31 15

/-- Key of a bank. -/
def bankKey (sub bank : Nat) : Nat := 16 * sub + bank

/-! Timing sets (R89 to R91, R101). -/

/-- The active timing set of quadrant q: 0 A, 1 B. -/
def activeSet (s : State) (q : Nat) : Nat := fld s (DRC_STAT_ACTIVE_SET.inst q)

/-- tREFI of a set in normal rate, in 1/48 ns: tCK is 15/48 ns in set A and 20/48 ns in set B. -/
def trefiOf (s : State) (q set : Nat) : Nat :=
  if set = 0 then fld s (DRC_TSETA1_TREFI.inst q) * 15 else fld s (DRC_TSETB1_TREFI.inst q) * 20

/-- The interval in force, and the shorter of the old and the new from an announcement on (R91). -/
def trefi (s : State) (q : Nat) : Nat :=
  trefiOf s q (activeSet s q) / (if flag s (DRC_STAT_RATE2X.inst q) then 2 else 1)
def trefiShort (s : State) (q : Nat) : Nat :=
  trefiOf s q (activeSet s q) / (if flag s (DRC_STAT_RATE2X.inst q) || flag s (DRC_STAT_RATE_PEND.inst q) then 2 else 1)

/-! The controller's rows, counts and budgets (R77, R87 to R94). -/

/-- Reduce the actual RAA counts of banks by n. -/
def lowerRaa (s : State) (sub : Nat) (banks : List Nat) (n : Nat) : State :=
  let low := fun (m : Sparse Nat) (b : Nat) => nset m (bankKey sub b) (nget m (bankKey sub b) - n)
  { s with dram := { s.dram with raa := banks.foldl low s.dram.raa } }

/-- A bank's open row is closed early: it is to be opened again before the next booked hit to it (R88). -/
def closeBank (s : State) (k : Nat) : State :=
  let r := nget s.dram.row k
  if r = 0 then s else
    { s with dram := { s.dram with row := nset s.dram.row k 0, rowAt := nset s.dram.rowAt k 0, early := nset s.dram.early k r } }

/-- Close the open rows of banks early. -/
def closeRows (s : State) (sub : Nat) (banks : List Nat) : State := banks.foldl (fun x b => closeBank x (bankKey sub b)) s

/-- The rows of a subchannel that have been open for the longest tRAS (R88). -/
def closeAged (s : State) (sub : Nat) : State :=
  closeRows s sub ((List.range 16).filter (fun b =>
    decide (nget s.dram.rowAt (bankKey sub b) ≠ 0) && decide (nget s.dram.rowAt (bankKey sub b) + Config.trasMax ≤ s.now)))

/-- The banks a same-bank refresh management command acts on: that index in every bank group (R92). -/
def sameBank (b : Nat) : List Nat := [b % 4, b % 4 + 4, b % 4 + 8, b % 4 + 12]

/-- A refresh management command on bank b. -/
def issueRfm (s : State) (sub b : Nat) : State :=
  closeRows (lowerRaa s sub (sameBank b) (fld s ADM_REF_RAA_RFM_DEC)) sub (sameBank b)

/-- One activation of a bank; at RFM_TH + RAA_RFM_DEC an RFM is issued at once (R93). -/
def activate (s : State) (sub b : Nat) : State :=
  let n := nget s.dram.raa (bankKey sub b) + 1
  let s1 := { s with dram := { s.dram with raa := nset s.dram.raa (bankKey sub b) n } }
  if fld s ADM_REF_RFM_TH + fld s ADM_REF_RAA_RFM_DEC ≤ n then issueRfm (raise s1 (srcDrc (sub / 8) 4)) sub b else s1

/-- Plaza cycles of a subchannel's service in 1 us, and those housekeeping may take: 96 ns (R77, R94). -/
def windowCycles : Nat := usUnits / cycleUnits
def hkCycles : Nat := 96 * nsUnits / cycleUnits

/-- The 1 us window of the present moment: what was used in an earlier one no longer counts (log 57, DESIGN CHOICE). -/
def rollWindow (s : State) : State :=
  if s.dram.window = s.now / usUnits then s
  else { s with dram := { s.dram with window := s.now / usUnits, intUsed := [], hkUsed := [] } }

/-- The reserve has room for c cycles more of internal traffic on a subchannel in this window (R77). -/
def reserveRoom (s : State) (sub c : Nat) : Bool :=
  decide ((nget s.dram.intUsed sub + c) * 256 ≤ s.adm.serviceReserve * windowCycles)

/-- Housekeeping has room, of its own share and of the reserve (R94). -/
def hkRoom (s : State) (sub c : Nat) : Bool := reserveRoom s sub c && decide (nget s.dram.hkUsed sub + c ≤ hkCycles)

/-- Internal traffic takes c cycles, housekeeping among it where `hk` (R77, R94). -/
def takeService (s : State) (sub c : Nat) (hk : Bool) : State :=
  { s with dram := { s.dram with
      intUsed := nset s.dram.intUsed sub (nget s.dram.intUsed sub + c),
      hkUsed := if hk then nset s.dram.hkUsed sub (nget s.dram.hkUsed sub + c) else s.dram.hkUsed } }

/-- C_ACT of the active timing set: of set B from DRC_TSETB_COST (R102). -/
def actCost (s : State) (q : Nat) : Nat :=
  if activeSet s q = 0 then fld s ADM_DRAM_C_ACT else fld s (DRC_TSETB_COST_C_ACT.inst q)
/-- C_BUS, and C_WSHARE behind a write, of the active set. -/
def lineCost (s : State) (q : Nat) (write : Bool) : Nat :=
  if activeSet s q = 0 then fld s ADM_DRAM_C_BUS + (if write then fld s ADM_DRAM_C_WSHARE else 0)
  else fld s (DRC_TSETB_COST_C_BUS.inst q) + (if write then fld s (DRC_TSETB_COST_C_WSHARE.inst q) else 0)

/-- The service one line of internal traffic takes: its bus time, or its activation where that is longer (R64, R77). -/
def internalCost (s : State) (l : Nat) (write : Bool) : Nat :=
  let sub := subOf s l
  let hit := decide (nget s.dram.row (bankKey sub (bankOf s l)) = rowOf s l + 1)
  max (lineCost s (sub / 8) write) (if hit then 0 else actCost s (sub / 8))

/-- The row access of internal traffic to line l (R92). It carries no page hint: its row stays open, and a row it displaces counts as
closed early (log 57, DESIGN CHOICE). -/
def touchRow (s : State) (l : Nat) : State :=
  let sub := subOf s l
  let b := bankOf s l
  let k := bankKey sub b
  if nget s.dram.row k = rowOf s l + 1 then s else
    let s1 := activate (closeBank s k) sub b
    { s1 with dram := { s1.dram with row := nset s1.dram.row k (rowOf s l + 1), rowAt := nset s1.dram.rowAt k (s.now + 1) } }

/-- The row access of an item (R88): none to an open row; a row closed early is opened again, as housekeeping; else an activation.
The hint says whether the row stays open. -/
def openRow (s : State) (it : Item) : State :=
  let k := bankKey it.sub it.bank
  let r := it.row + 1
  let s1 := if nget s.dram.row k = r then s
    else if nget s.dram.early k = r ∧ it.acts = 0 then takeService (activate s it.sub it.bank) it.sub (actCost s (it.sub / 8)) true
    else activate s it.sub it.bank
  let at_ := if nget s.dram.row k = r ∧ nget s.dram.rowAt k ≠ 0 then nget s.dram.rowAt k else s.now + 1
  { s1 with dram := { s1.dram with row := nset s1.dram.row k (if it.hint then r else 0),
                                   rowAt := nset s1.dram.rowAt k (if it.hint then at_ else 0),
                                   early := nset s1.dram.early k 0 } }

/-! Restored units and snapshot windows. -/

/-- The modes in which a unit may be unrestored. -/
def rstMode (s : State) : Bool :=
  decide (s.vault = .restore) ||
    ((decide (s.vault = .ride) || decide (s.vault = .dump)) && decide (s.pwr.rideFrom = .restore))

/-- The unit's content stands in DRAM. -/
def unitReady (s : State) (u : Nat) : Bool := !rstMode s || isRestored s u

/-- A window is a snapshot window (R316). -/
def snapWindow (s : State) (w : Window) : Bool :=
  owns s w && decide (w.cls = 1) && (fldAt s CEN_WIN_EN w.idx != 0)

/-- The capture line of live line l of snapshot window w: the capture half starts at SNAP_DBASE (R316; log 48, DEDUCED). -/
def captureLine (s : State) (w : Window) (l : Nat) : Nat := fldAt s CEN_WIN_SNAP_DBASE w.idx + (l - w.dbase)

/-- Copies on write apply to line l: the cut is past, the pass is not, and the unit is not copied (R319, R320). -/
def cowWindow (s : State) (l : Nat) : Option Window :=
  if s.cen.snap && s.cen.armed.isNone && decide (fld s CEN_STAT_STATE ≤ 3) && !s.dram.census.get (unitOf l) then
    (dramWindow s l).filter (snapWindow s)
  else none

/-! Writes. -/

/-- A write to line l was served: a queued write-back is dropped (R96), an answer to its FETCH is not written (R129), a
repair skips it (R128). -/
def noteWrite (s : State) (l : Nat) : State :=
  { s with dram := { s.dram with writeBack := s.dram.writeBack.filter (fun e => e.1 ≠ l) },
           psg := { s.psg with
             fetches := s.psg.fetches.map (fun e => if e.1 = l then (l, true) else e),
             watch := s.psg.watch.map (fun e => if e.1 = unitOf l then (e.1, lins l e.2) else e) } }

/-- Send lines l to l + n - 1 in one MIRROR with the next sequence number (R114, R116); they stay forwarded until
acknowledged (R118). -/
def mirrorOut (s : State) (l n : Nat) (data : List Slot128) : State :=
  let m := (s.psg.txMseq + 1) % 2 ^ 32
  let s1 := bumpBy { s with psg := { s.psg with txMseq := m, fwd := s.psg.fwd ++ [(m, n)] } } PSG_MIRROR_LINES_COUNT n
  psgSend s1 1 m 0 l (n % 64) 0 data

/-- Forward-all is in force for what a port sends from now on (R132, R133). -/
def fwdAllPort (s : State) (p : Nat) : Bool := flag s PSG_STAT_FWD_ALL && !s.psg.fwdEnded.contains p

/-- Forward-all mirrors a write that is served now: one of a request it caught, up to the FENCE of its port; `none` is internal
traffic (R132, R133). -/
def fwdAllFor (s : State) (f : Option Flight) : Bool :=
  psgLive s && (match f with | none => flag s PSG_STAT_FWD_ALL | some f => decide (0 < f.fwd))

/-- A full-line write is served: the content, the poison cleared (R37), the dirty bit set (R177), and in forward-all the
MIRROR (R132). -/
def dramWrite (s : State) (l : Nat) (d : Line) (by_ : Option Flight) : State :=
  let s1 := setDirty (noteWrite (clearPoison (writeLine s l d) l) l) (unitOf l) true
  if fwdAllFor s1 by_ then mirrorOut s1 l 1 (lineSlots d) else s1

/-- Before a new-epoch request changes line l, the capture line takes its old value if it still holds the poison pattern
(R319). A poisoned live line leaves the capture line poisoned for good. -/
def copyOnWrite (s : State) (epoch : BitVec 2) (l : Nat) : State :=
  if epoch.toNat = fld s CEN_STAT_EPOCH then
    match cowWindow s l with
    | none => s
    | some w =>
      let c := captureLine s w l
      if s.dram.capture.contains c then
        let s1 := { s with dram := { s.dram with capture := ldel c s.dram.capture } }
        let s2 := touchRow s1 c
        if isPoison s l then setPoison s2 c else dramWrite s2 c (readLine s l) none
      else s
  else s

/-! Reads through ECC (R95 to R97). -/

/-- A poisoned line was read: with POISON_FIX a FETCH asks the partner for a good copy (R129). -/
def fetchPoison (s : State) (l : Nat) : State :=
  if flag s PSG_CTL_POISON_FIX && psgUp s && !s.psg.fetches.any (fun e => e.1 = l) then
    psgSend { s with psg := { s.psg with fetches := s.psg.fetches ++ [(l, false)] } } 0xB 0 0 l 1 0 []
  else s

/-- A poisoned line is read (R97): counted, POISON_READ set, and fetched where POISON_FIX is one (R129). -/
def poisonRead (s : State) (l : Nat) : State :=
  let q := subOf s l / 8
  fetchPoison (raise (bump s (DRC_POISON_SEEN_COUNT.inst q)) (srcDrc q 2)) l

/-- What the decoder finds in an error of so many symbols (R95): up to 6 it corrects, up to 10 it detects, and only a larger one can
be found uncorrectable, taken for a correctable one or missed. -/
def found : Ecc → Ecc
  | .clean => .clean
  | .corrected k | .uncorrectable k => bySize k
  | .miscorrected k d => if k ≤ 10 then bySize k else .miscorrected k d
  | .undetected k d => if k ≤ 10 then bySize k else .undetected k d
where
  bySize (k : Nat) : Ecc := if k = 0 then .clean else if k ≤ 6 then .corrected k else .uncorrectable k

/-- Read line l of subchannel n with what the decoder finds; the content, none where the read returns POISON. Capture lines
of a Census report nothing (R317). -/
def readEcc (s : State) (n l : Nat) (ecc : Ecc) (patrol : Bool) : State × Option Line :=
  let q := n / 8
  if s.dram.capture.contains l then (s, none)
  else if isPoison s l then (poisonRead s l, none)
  else match found ecc with
    | .clean => (s, some (readLine s l))
    | .corrected _ =>
      let s1 := bump s (DRC_ECC_CORR_COUNT.inst q)
      (raise { s1 with dram := { s1.dram with writeBack := s1.dram.writeBack ++ [(l, readLine s l)] } } (srcDrc q 0),
       some (readLine s l))
    | .miscorrected _ d =>
      let s1 := bump s (DRC_ECC_CORR_COUNT.inst q)
      (raise { s1 with dram := { s1.dram with writeBack := s1.dram.writeBack ++ [(l, d)] } } (srcDrc q 0), some d)
    | .undetected _ d => (s, some d)
    | .uncorrectable k =>
      let s1 := setFld (setFld (bump s (DRC_ECC_UNCORR_COUNT.inst q)) (DRC_ERR_LOG_LINE.inst q) l)
        (DRC_ERR_LOG_SYMBOLS.inst q) (min 15 k)
      (raise (setPoison (setFlag s1 (DRC_ERR_LOG_PATROL.inst q) patrol) l) (srcDrc q 1), none)

/-! Forwarding by the owner (R116, R125, R155). -/

/-- The vault marks what it executes as owner without an acknowledgement: in solo operation and in DUMP. -/
def marksOwner (s : State) : Bool := flag s PSG_STAT_SOLO || decide (s.vault = .dump)

/-- The owner sends the result lines of request `tag`; its response waits for their acknowledgement. Without a Passage the
units are marked instead, and a WRD waits for the catch-up. -/
def forwardOwn (s : State) (tag : BitVec 16) (f : Flight) (l n : Nat) (data : List Slot128) : State :=
  if psgLive s then
    let s0 := mirrorOut s l n data
    let s1 := { s0 with psg := { s0.psg with winMseq := (f.win, s0.psg.txMseq) :: s0.psg.winMseq.filter (fun e => e.1 ≠ f.win) } }
    updFlight s1 tag (fun g => { g with ack := some s1.psg.txMseq })
  else if marksOwner s then
    let s1 := (flightUnits f).foldl (fun x u => setDiverged x u true) s
    if f.opc = opWRD then updFlight s1 tag (fun g => { g with ack := some (2 ^ 32) }) else s1
  else s

/-- After an item of the flight: in forward-all a write-type request waits for its last MIRROR (R132); a dual-issued write
marks its unit while the partner does not serve (R205). -/
def afterWrite (s : State) (tag : BitVec 16) (f : Flight) (l : Nat) : State :=
  let s1 := if s.psg.markDual && !ownerOnly f.opc then setDiverged s (unitOf l) true else s
  if fwdAllFor s1 (some f) && decide (f.fwd = 2) && !ownerOnly f.opc then
    updFlight s1 tag (fun g => { g with ack := some s1.psg.txMseq })
  else s1

/-- A write of a request; owner-only operations are forwarded under R116, not by forward-all. -/
def requestWrite (s : State) (f : Flight) (l : Nat) (d : Line) : State :=
  if ownerOnly f.opc then setDirty (noteWrite (clearPoison (writeLine s l d) l) l) (unitOf l) true
  else dramWrite s l d (some f)

/-- Line k of a read. -/
def serveRead (s : State) (it : Item) (tag : BitVec 16) (k : Nat) (eccs : List Ecc) : State :=
  let (s1, v) := readEcc s it.sub it.line (eccs.getD 0 .clean) false
  updFlight s1 tag (fun f => match v with
    | some d => { f with lines := sput k d f.lines }
    | none => { f with status := 7 })

/-- The lines of a WRD as they are forwarded: as they stand once the last is written, so that the line that enters the Passage last
is the newest (R116, R126); one poisoned since, as it was written. -/
def wrdSlots (s : State) (f : Flight) : List Slot128 :=
  (List.range f.n).flatMap (fun k =>
    if isPoison s (f.dline + k) then (f.data.drop (4 * k)).take 4 else lineSlots (readLine s (f.dline + k)))

/-- Line k of a write; the last line of a WRD forwards all n. -/
def serveLine (s : State) (it : Item) (f : Flight) (d : Line) : State :=
  let s1 := requestWrite (copyOnWrite s f.epoch it.line) f it.line d
  let s2 := afterWrite s1 f.hdr.tag f it.line
  if f.opc = opWRD ∧ f.left = 1 then forwardOwn s2 f.hdr.tag f f.dline f.n (wrdSlots s2 f) else s2

/-- A word or quarter operation (R38, R42). -/
def serveWord (s : State) (it : Item) (f : Flight) (eccs : List Ecc) : State :=
  let (s1, v) := readEcc s it.sub it.line (eccs.getD 0 .clean) false
  match v with
  | none => updFlight s1 f.hdr.tag (fun g => { g with status := 7 })
  | some l =>
    let r := wordOp f.opc l f.hdr.sub.toNat f.data
    let wrote := r.swapped || decide (f.opc = opADD64) || decide (f.opc = opADDPAIR)
    let s2 := if wrote then
        afterWrite (requestWrite (copyOnWrite s1 f.epoch it.line) f it.line r.line) f.hdr.tag f it.line
      else s1
    let s3 := updFlight s2 f.hdr.tag (fun g => { g with result := [r.old], swapped := r.swapped })
    if ownerOnly f.opc then forwardOwn s3 f.hdr.tag f it.line 1 (lineSlots r.line) else s3

/-- A bucket operation (R40 to R42), with the decoder's finding in each of its four lines. -/
def serveBucket (s : State) (it : Item) (f : Flight) (eccs : List Ecc) : State :=
  let step := fun (acc : State × Option (List Line)) (k : Nat) =>
    let (x, v) := readEcc acc.1 it.sub (it.line + k) (eccs.getD k .clean) false
    (x, match acc.2, v with
      | some ls, some d => some (ls ++ [d])
      | _, _ => none)
  let (s1, v) := (List.range 4).foldl step (s, some [])
  match v with
  | none => updFlight s1 f.hdr.tag (fun g => { g with status := 7 })
  | some ls =>
    let b : Bucket := BitVec.ofNat 2048 (ls.zipIdx.foldl (fun a e => a + e.1.toNat * 2 ^ (512 * e.2)) 0)
    let image := (f.data.getD 0 0).toNat + (f.data.getD 1 0).toNat * 2 ^ 128
    let r := bucketOp f.opc b (8 + 4 * f.keyW) image
    let line : Line := BitVec.ofNat 512 (r.bucket.toNat / 2 ^ (512 * r.fwd))
    let s2 := if r.wrote then requestWrite (copyOnWrite s1 f.epoch (it.line + r.fwd)) f (it.line + r.fwd) line else s1
    let s3 := updFlight s2 f.hdr.tag (fun g =>
      { g with status := BitVec.ofNat 4 r.status, slot := BitVec.ofNat 3 r.slot, full := r.full, result := r.data })
    let s4 := if r.dup then raise s3 (srcBlv f.link 9) else s3
    if ownerOnly f.opc then forwardOwn s4 f.hdr.tag f (it.line + r.fwd) 1 (lineSlots line) else s4

/-- The work of an item. -/
def doWork (s : State) (it : Item) (eccs : List Ecc) : State :=
  match it.work with
  | .refresh =>
    closeRows (lowerRaa s it.sub (List.range 16) (fld s ADM_REF_RAA_REF_DEC)) it.sub (List.range 16)
  | .rfm => issueRfm s it.sub it.bank
  | w =>
    let s1 := openRow s it
    match it.tag.bind (flightOf s1) with
    | none => (match w with | .write _ d => dramWrite s1 it.line d none | _ => s1)
    | some f =>
      match w with
      | .read k => serveRead s1 it f.hdr.tag k eccs
      | .write _ d => serveLine s1 it f d
      | .word => serveWord s1 it f eccs
      | _ => serveBucket s1 it f eccs

/-- Serve one booked item: its work, its booking gone (R65), its flight nearer its response; past its internal deadline it is
an overrun, once for each line so booked (R79, R80; log 57, DESIGN CHOICE). -/
def serveItem (s : State) (it : Item) (eccs : List Ecc) : State :=
  let s1 := doWork s it eccs
  let s2 := { s1 with adm := { s1.adm with items := s1.adm.items.filter (fun x => x.id ≠ it.id) } }
  let s3 := match it.tag with
    | none => s2
    | some t => updFlight s2 t (fun f => { f with left := f.left - 1 })
  if it.tag.isSome ∧ it.dl < s3.now then raise (bump s3 ADM_OVERRUN_COUNT) (srcNo 0x12 0) else s3

/-! Choice of the item to serve (R87). -/

/-- The bin of an internal deadline (64 ns). -/
def binUnits : Nat := 64 * nsUnits
def Item.bin (it : Item) : Nat := it.dl / binUnits

/-- A FENCE of the item's port, accepted before it, is in flight (R51). -/
def behindFence (s : State) (it : Item) : Bool :=
  match it.tag.bind (flightOf s) with
  | none => false
  | some f => (s.adm.flights.takeWhile (fun g => g.hdr.tag ≠ f.hdr.tag)).any
      (fun g => decide (g.opc = opFENCE) && decide (g.hdr.port = f.hdr.port))

/-- A request item holds its lines: a bucket four, the others one. -/
def Item.holds (it : Item) (l : Nat) : Bool :=
  match it.work with
  | .refresh | .rfm => false
  | .bucket => decide (it.line ≤ l) && decide (l < it.line + 4)
  | _ => decide (it.line = l)

/-- The items share a DRAM line. -/
def Item.meets (a b : Item) : Bool :=
  match b.work with
  | .bucket => a.holds b.line || a.holds (b.line + 1) || a.holds (b.line + 2) || a.holds (b.line + 3)
  | .refresh | .rfm => false
  | _ => a.holds b.line

/-- The item may be served: at its subchannel, no earlier-booked item of its lines waits, no mirror line that arrived before it
(R120), no FENCE holds it. -/
def serviceable (s : State) (it : Item) : Bool :=
  decide (it.stage = .queue) && !behindFence s it &&
    !s.adm.items.any (fun x => decide (x.id < it.id) && x.meets it) &&
    !s.psg.mirrorQ.any (fun m => decide (m.at_ ≤ it.id) && it.holds m.line)

/-- The item hits its bank's open row, or one closed early, which is open again before the hit (R88). -/
def hitsOpen (s : State) (it : Item) : Bool :=
  let k := bankKey it.sub it.bank
  match it.work with
  | .refresh | .rfm => false
  | _ => decide (nget s.dram.row k = it.row + 1) || (decide (nget s.dram.early k = it.row + 1) && decide (it.acts = 0))

/-- Banks from the rotating pointer on; a refresh has no bank and follows the lines of its bin (log 13, DEDUCED). -/
def bankDist (s : State) (it : Item) : Nat :=
  match it.work with
  | .refresh => 16
  | _ => (it.bank + 16 - nget s.dram.ptr it.sub) % 16

/-- The least element of a list under a measure; the first of equals. -/
def leastBy {α : Type} (m : α → Nat) : List α → Option α
  | [] => none
  | x :: l =>
    match leastBy m l with
    | none => some x
    | some y => if m x ≤ m y then some x else some y

/-- The item R87 picks on a subchannel (log 13, DEDUCED). -/
def pickItem (s : State) (sub : Nat) : Option Item :=
  let all := s.adm.items.filter (fun it => decide (it.sub = sub) && serviceable s it)
  match leastBy Item.bin all with
  | none => none
  | some x =>
    let bin := all.filter (fun it => it.bin = x.bin)
    let hits := bin.filter (hitsOpen s)
    leastBy (bankDist s) (if hits.isEmpty then bin else hits)

/-- The controller serves: its quadrant is enabled and not in the gap of a step, and the array is not frozen (R101, R109, R150). -/
def subServes (s : State) (sub : Nat) : Bool :=
  !s.dram.frozen && flag s (DRC_CTL_ENABLE.inst (sub / 8)) && decide (fld s (DRC_STAT_STEP_STATE.inst (sub / 8)) ≠ 2)

/-! Restore writes (R207, R214). -/

/-- A queued write-back of line l is dropped: a write to the line was served (R96). -/
def dropWriteBack (s : State) (l : Nat) : State :=
  { s with dram := { s.dram with writeBack := s.dram.writeBack.filter (fun e => e.1 ≠ l) } }

/-- A restore write of a line: its content, or the poison pattern; no dirty bit (R177). -/
def restoreLine (s : State) (l : Nat) (d : Option Line) : State :=
  let s1 := match d with
    | some x => clearPoison (writeLine (dropWriteBack s l) l x) l
    | none => setPoison s l
  let u := unitOf l
  let m := nget s1.img.restoring u
  let m' := if bitAt m (l % 256) then m else m + 2 ^ (l % 256)
  { s1 with img := { s1.img with restoring := nset s1.img.restoring u m' } }

/-- Every one of the unit's 256 restore writes has been served (R207). -/
def restoreDone (s : State) (u : Nat) : Bool := decide (nget s.img.restoring u = 2 ^ 256 - 1)

/-- The lines of a lost unit that no fetch has brought are written poisoned (R214). -/
def poisonUnit (s : State) (u : Nat) : State :=
  let m := nget s.img.restoring u
  ((List.range 256).filter (fun k => !bitAt m k)).foldl (fun x k => restoreLine x (256 * u + k) none) s

/-- The partner is in SERVE or RESTORE. -/
def partnerServes (s : State) : Bool :=
  match s.psg.partner with
  | some .serve | some .restore => true
  | _ => false

/-- The lost units that no partner gives, once LOST_WAIT has passed (R214). The expiry stands, so that a Passage or partner that goes
later finds it. -/
def settleLost (s : State) : State :=
  if s.vault ≠ .restore ∨ !s.pwr.lostWaitOver ∨ (psgUp s && partnerServes s) then s else
    let us := (lostUnits s).filter (fun u => decide (u < installedUnits s) && !isRestored s u && !restoreDone s u)
    if us.isEmpty then s else raise (us.foldl poisonUnit s) (srcImg 10)

/-! Internal traffic (R77, R117, R96). -/

/-- Bytes of `new` where the mask bit is set, of `old` elsewhere. -/
def maskedLine (old new : Line) (mask : Nat) : Line :=
  BitVec.ofNat 512 ((List.range 64).foldl (fun a i =>
    a + (if bitAt mask i then new.toNat / 256 ^ i % 256 else old.toNat / 256 ^ i % 256) * 256 ^ i) 0)

/-- The compare mask of line l: zero in no valid window (R127). -/
def maskOf (s : State) (l : Nat) : Nat := ((dramWindow s l).map (fun w => w.cmask)).getD 0

/-- A line of the mirror queue is written: whole, or, for a repair, only the masked bytes where they differ, and not at all
where the line was written since its watch began (R117, R128). -/
def writeMirrorLine (s : State) (m : MirrorLine) : State :=
  if m.masked then
    if s.psg.watch.any (fun e => decide (e.1 = unitOf m.line) && e.2.contains m.line) then s
    else
      let new := maskedLine (readLine s m.line) m.data (maskOf s m.line)
      if new = readLine s m.line then s
      else bump (dramWrite s m.line new none) PSG_SCRUB_REPAIRED_COUNT
  else dramWrite s m.line m.data none

/-- The first line of the mirror queue for a subchannel whose unit is restored (R117, R211), and that no item booked before it
arrived still holds (R120). -/
def nextMirror (s : State) (sub : Nat) : Option MirrorLine :=
  s.psg.mirrorQ.find? (fun m => decide (m.stage = .queue) && decide (subOf s m.line = sub) && unitReady s (unitOf m.line) &&
    !s.adm.items.any (fun it => decide (it.id < m.at_) && it.holds m.line))

/-- One element of a list removed, the first that equals x. -/
def dropFirst {α : Type} [DecidableEq α] (x : α) : List α → List α
  | [] => []
  | y :: l => if y = x then l else y :: dropFirst x l

/-- One write of an internal client's entry: a restore write of a unit that is restored already is discarded with its duplicates
(R78, R254); another line is written whole, and a poisoned line is written poisoned (R97). -/
def entryWrite (s : State) (restore : Bool) (p : Nat × Option Line) : State :=
  if restore then (if unitReady s (unitOf p.1) then s else restoreLine (touchRow s p.1) p.1 p.2)
  else match p.2 with
    | some d => dramWrite (touchRow s p.1) p.1 d none
    | none => setPoison (touchRow s p.1) p.1

/-- An entry is gone from the Plaza and counts as served for later duplicates (R78). -/
def retireEntry (s : State) (e : PlazaEntry) : State :=
  { s with adm := { s.adm with plaza := dropFirst e s.adm.plaza, served := s.adm.served ++ [(e.output, e.client, e.seq)] } }

/-- The first line of an entry is written; with its last the entry is served. -/
def serveEntry (s : State) (e : PlazaEntry) : State :=
  match e.lines with
  | [] => retireEntry s e
  | [p] => entryWrite (retireEntry s e) e.restore p
  | p :: rest =>
    entryWrite { s with adm := { s.adm with plaza := s.adm.plaza.map (fun x => if x = e then { e with lines := rest } else x) } }
      e.restore p

/-- All lines of an entry at once: what a drain does. -/
def takeEntry (s : State) (e : PlazaEntry) : State := e.lines.foldl (fun x p => entryWrite x e.restore p) (retireEntry s e)

/-- A write-back of a corrected line (R96): no dirty bit (R177); in forward-all the MIRROR (R132). -/
def serveWriteBack (s : State) (e : Nat × Line) : State :=
  let s1 := writeLine (touchRow { s with dram := { s.dram with writeBack := dropFirst e s.dram.writeBack } } e.1) e.1 e.2
  if fwdAllFor s1 none then mirrorOut s1 e.1 1 (lineSlots e.2) else s1

/-- One line of internal traffic on a subchannel with no booked work to serve, within the reserve: of an internal client's entry,
else of the mirror queue, else a write-back, which is housekeeping (R76, R77, R94, R117). -/
def serveInternal (s : State) (sub : Nat) : State :=
  match s.adm.plaza.find? (fun e => decide (e.output = sub) && decide (e.stage = .queue)) with
  | some e =>
    let c := match e.lines with
      | [] => 0
      | p :: _ => internalCost s p.1 true
    if reserveRoom s sub c then serveEntry (takeService s sub c false) e else s
  | none =>
    match nextMirror s sub with
    | some m =>
      let c := internalCost s m.line true
      if reserveRoom s sub c then
        let s1 := takeService s sub c false
        writeMirrorLine (touchRow { s1 with psg := { s1.psg with mirrorQ := dropFirst m s1.psg.mirrorQ } } m.line) m
      else s
    | none =>
      match s.dram.writeBack.find? (fun e => subOf s e.1 = sub) with
      | some e =>
        let c := internalCost s e.1 true
        if hkRoom s sub c then serveWriteBack (takeService s sub c true) e else s
      | none => s

/-- A subchannel is drained: READY of an offline one sets once its booked work is served (R105). -/
def settleReady (s : State) (sub : Nat) : State :=
  let q := sub / 8
  let off := (DRC_SUB_OFFLINE.inst q).nth (sub % 8)
  if flag s off && !s.adm.items.any (fun it => it.sub = sub) then setFlag s ((DRC_SUB_READY.inst q).nth (sub % 8)) true else s

/-- The result of a served line crosses the return fabric within 64 Plaza cycles (R76): how long it takes is a free value, and the
longest is recorded (log 10, DESIGN CHOICE). -/
def noteCrossing (s : State) (it : Item) : State :=
  if it.tag.isNone then s else
    let p := drawNat s
    let c := p.1 % 64 + 1
    if fld p.2 PLZ_TRANSIT_MAX_OUT < c then setFld p.2 PLZ_TRANSIT_MAX_OUT c else p.2

/-- One command slot of a subchannel (R87; log 48, DEDUCED): the rotating pointer moves where its rule chose the item. -/
def commandSlotOp (s : State) (sub : Nat) (eccs : List Ecc) : State :=
  if !dataUp s || !subServes s sub then s else
    let s0 := closeAged (rollWindow s) sub
    match pickItem s0 sub with
    | some it =>
      let moves := !hitsOpen s0 it && decide (bankDist s0 it < 16)
      let s1 := if moves then
          { s0 with dram := { s0.dram with ptr := nset s0.dram.ptr sub ((it.bank + 1) % 16) } } else s0
      settle (noteCrossing (settleReady (serveItem s1 it eccs) sub) it)
    | none => settle (serveInternal s0 sub)

/-! Internal clients' entries (R76, R78). -/

/-- An internal client's entry enters the Plaza at an input, one line in a Plaza cycle (log 10, DESIGN CHOICE). -/
def plazaEnter (s : State) (client seq : Nat) (restore : Bool) (output input : Nat) (lines : List (Nat × Option Line)) : State :=
  let c := plazaCycle s.adm.plazaIn input s.now
  let e : PlazaEntry :=
    { client := client, seq := seq, output := output, restore := restore, lines := lines, stage := .plaza,
      input := input, inter := plazaInter input c, entered := c * cycleUnits }
  { s with adm := { s.adm with plaza := s.adm.plaza ++ [e], plazaIn := nset s.adm.plazaIn input (c + lines.length) } }

/-- Lines that a client writes at an input, one entry for each run on one subchannel. -/
def plazaRuns (s : State) (client input : Nat) (lines : List (Nat × Option Line)) : State :=
  let subs := (lines.map (fun p => subOf s p.1)).foldl (fun l n => lins n l) []
  subs.foldl (fun x n =>
    let q := nget x.adm.intSeq client
    let x1 := { x with adm := { x.adm with intSeq := nset x.adm.intSeq client (q + 1) } }
    plazaEnter x1 client (2 ^ 32 + q) false n input (lines.filter (fun p => subOf s p.1 = n))) s

/-- Lines that a context of the sequencer writes: at input 28 or 29, which is a free value (log 10, DESIGN CHOICE). -/
def plazaWrites (s : State) (client : Nat) (lines : List (Nat × Option Line)) : State :=
  let p := drawNat s
  plazaRuns p.2 client (28 + p.1 % 2) lines

/-! Draining everything (R150 step 5, R355 step 4). -/

/-- Every booked item in booking order. -/
def drainN : Nat → State → State
  | 0, s => s
  | n + 1, s =>
    match s.adm.items with
    | [] => s
    | it :: _ => drainN n (serveItem s it [])

/-- Every internal entry in the Plaza and the queues is served. -/
def drainPlaza (s : State) : State := s.adm.plaza.foldl takeEntry s

/-- Every accepted write and near-memory result reaches DRAM, read without error (log 14, DESIGN CHOICE), and every internal entry. -/
def drainItems (s : State) : State := settle (drainPlaza (drainN s.adm.items.length s))

/-- The whole mirror queue reaches DRAM, for restored units. -/
def drainMirror (s : State) : State :=
  s.psg.mirrorQ.foldl (fun x m =>
    if unitReady x (unitOf m.line) then writeMirrorLine { x with psg := { x.psg with mirrorQ := dropFirst m x.psg.mirrorQ } } m
    else x) s

end Sys2Proof.Machine
end

