-- ==== Sys2Proof/Machine/Admission.lean ====
section
/-! DEFINITION. Admission (R58 to R72, R102, R118, R319, R356): costs, the schedulability test, the reasons of a refusal and its
retry hint, and the booking. Times are in 1/48 ns, costs in Plaza cycles. -/
namespace Sys2Proof.Machine

/-- Cost terms of a quadrant: ADM_DRAM and ADM_REF, or DRC_TSETB_COST while set B is the set costed (R63, R102). -/
structure Costs where
  bus : Nat
  act : Nat
  wshare : Nat
  access : Nat
  turn : Nat
  rfc : Nat
  rfm : Nat
  deriving DecidableEq, Repr

/-- The terms of a timing set of quadrant q. -/
def costsOf (s : State) (q set : Nat) : Costs :=
  if set = 0 then
    ⟨fld s ADM_DRAM_C_BUS, fld s ADM_DRAM_C_ACT, fld s ADM_DRAM_C_WSHARE, fld s ADM_DRAM_T_ACCESS, fld s ADM_DRAM_T_TURN,
     fld s ADM_REF_T_RFC, fld s ADM_REF_T_RFM⟩
  else
    ⟨fld s (DRC_TSETB_COST_C_BUS.inst q), fld s (DRC_TSETB_COST_C_ACT.inst q), fld s (DRC_TSETB_COST_C_WSHARE.inst q),
     fld s (DRC_TSETB_COST_T_ACCESS.inst q), fld s (DRC_TSETB_COST_T_TURN.inst q),
     fld s (DRC_TSETB_COST_T_RFC.inst q), fld s (DRC_TSETB_COST_T_RFM.inst q)⟩

/-- The start S of an announced step of quadrant q, and its target set. -/
def stepStart (s : State) (q : Nat) : Option Nat :=
  if bitAt (fld s ADM_FSTEP_PENDING) q then some (nget s.dram.stepAt q - 1) else none
def stepTarget (s : State) (q : Nat) : Nat := nget s.dram.stepTo q - 1

/-- The set that bookings with internal deadline d are costed at: the post-step set after an announced S (R70). -/
def costSet (s : State) (q d : Nat) : Nat :=
  match stepStart s q with
  | some S => if S < d then stepTarget s q else activeSet s q
  | none => activeSet s q

/-- T_RET of R63, with T_PSG also for every write-type opcode in forward-all (R132). -/
def tRet (s : State) (opc n l : Nat) : Nat :=
  let ps := fld s (ADM_LINK_SLOT_PS.nth l) *
    (if fld s (BLV_STAT_WIDTH.inst l) = 1 ∨ fld s (BLV_STAT_WIDTH.inst l) = 2 then 2 else 1)
  let wire := ((1 + respSlots opc n) * ps + 624) / 625
  let nmo := if wordType opc || bucketType opc then fld s ADM_PATH_T_NMO else 0
  let psg := if ownerOnly opc || (flag s PSG_STAT_FWD_ALL && writeType opc) then fld s ADM_PSG_RT else 0
  (fld s ADM_PATH_T_XOUT + fld s (ADM_LINK_FIXED.nth l) + wire + fld s (ADM_LINK_REPLAY.nth l) + nmo + psg) * cycleUnits

/-- Exact product of a cost by 1 / (1 - r): times 256, to be divided by `256 - RESERVE`. -/
def scaleDen (reserve : Nat) : Nat := 256 - reserve

/-- Sums of booked work on a subchannel in bins up to b (R65). -/
structure Booked where
  bus : Nat
  act : Nat
  blk : Nat
  deriving DecidableEq, Repr

def bookedUpTo (items : List Item) (b : Nat) : Booked :=
  items.foldl (fun a it => if it.bin ≤ b then ⟨a.bus + it.cb, a.act + it.ca, a.blk + it.ck⟩ else a) ⟨0, 0, 0⟩

/-- F(s, t, d) of R68, in Plaza cycles. -/
def futureRef (interval rfc t d : Nat) : Nat :=
  if interval = 0 then 0 else (d - t - 8 * interval + interval - 1) / interval * rfc

/-- Work in 1/48 ns, times `den`: max(bus, act) / (1 - r) plus the terms that are not scaled (R65). -/
def workScaled (den bus act rest : Nat) : Nat := (max bus act * 256 + rest * den) * cycleUnits

/-- What one request books on one subchannel: costs, activations and refresh management commands, each with its bank. -/
structure Demand where
  sub : Nat
  cb : Nat
  ca : Nat
  ck : Nat
  deriving DecidableEq, Repr

/-- The walk over the lines of a request: the Plaza inputs, booked open rows and projected counts as they would stand, rows the
request has used, costs so far, items so far (newest last), and a bank that must not be booked (R69). -/
structure Walk where
  inputs : Sparse Nat
  rows : Sparse Nat
  raa : Sparse Nat
  opened : List (Nat × Nat)
  demands : List Demand
  items : List Item
  acts : Nat
  rfms : Nat
  bad : Option Nat
  deriving DecidableEq, Repr

def addDemand (sub cb ca ck : Nat) : List Demand → List Demand
  | [] => [⟨sub, cb, ca, ck⟩]
  | d :: l => if d.sub = sub then ⟨sub, d.cb + cb, d.ca + ca, d.ck + ck⟩ :: l else d :: addDemand sub cb ca ck l

/-- A request as admission sees it. -/
structure Req where
  link : Nat
  opc : Nat
  hdr : ReqHdr
  data : List Slot128
  n : Nat
  win : Nat
  dline : Nat
  pool : Nat
  deriving DecidableEq, Repr

/-- Bus cost of one booked item of the opcode (R64). -/
def busCost (c : Costs) (opc : Nat) : Nat :=
  if opc = opRD then c.bus else
  if opc = opWR ∨ opc = opWRD then c.bus + c.wshare else
  if wordType opc then 2 * c.bus + c.wshare else
  if opc = opEXM then 4 * c.bus else 5 * c.bus + c.wshare

/-- The work of the item that starts at line k of the request. -/
def workOf (r : Req) (k : Nat) : Work :=
  if r.opc = opRD then .read k else
  if r.opc = opWR ∨ r.opc = opWRD then .write k (slotsLine ((r.data.drop (4 * k)).take 4)) else
  if wordType r.opc then .word else .bucket

/-- The cost that a copy on write adds on a subchannel (R319): one read and one write of the capture line, with C_ACT on a
miss, and for a full-line write one read of the live line. The capture line's row is taken as a miss unless it is the bank's
booked open row. -/
def cowCost (s : State) (c : Costs) (rows : Sparse Nat) (opc l : Nat) : Option (Nat × Nat × Nat) :=
  if writeType opc then
    (cowWindow s l).map (fun w =>
      let cl := captureLine s w l
      let hit := decide (nget rows (bankKey (subOf s cl) (bankOf s cl)) = rowOf s cl + 1)
      (subOf s cl, 2 * c.bus + c.wshare + (if opc = opWR ∨ opc = opWRD then c.bus else 0), if hit then 0 else c.act))
  else none

/-- Book line k of the request in the walk (R64, R69). The further C_ACT of a line that clears a row booked hits wait on counts as
an activation too, in the projected RAA count and in the tokens: the spec does not say whether it does (log 57, DESIGN CHOICE).
Which of its link's three Plaza inputs the line takes is a free value (R76; log 10, DESIGN CHOICE). -/
def walkLine (s : State) (r : Req) (d place : Nat) (w : Walk) (k : Nat) : Walk :=
  let l := r.dline + k
  let sub := subOf s l
  let bank := bankOf s l
  let row := rowOf s l
  let c := costsOf s (sub / 8) (costSet s (sub / 8) d)
  let key := bankKey sub bank
  let open_ := nget w.rows key
  let hit := decide (open_ = row + 1) || w.opened.contains (key, row)
  let waits := (s.adm.items ++ w.items).any (fun it =>
    decide (bankKey it.sub it.bank = key) && decide (it.row + 1 = open_) && decide (it.acts = 0) && it.tag.isSome)
  let acts := if hit then 0 else if decide (open_ ≠ 0) && waits then 2 else 1
  let cnt := nget w.raa key + acts
  let th := fld s ADM_REF_RFM_TH
  let bad := decide (th + fld s ADM_REF_RAA_RFM_DEC < cnt)
  let rfm := decide (0 < acts) && decide (th ≤ cnt)
  let bucketRest := bucketType r.opc && decide (k ≠ 0)
  let cb := if bucketRest then 0 else busCost c r.opc
  let cow := cowCost s c w.rows r.opc l
  let base := s.adm.nextId + w.items.length
  let input := 3 * r.link + Config.freeNat (place + k) % 3
  let c0 := plazaCycle w.inputs input s.now
  let it : Item :=
    { id := base, sub := sub, bank := bank, row := row, line := l, dl := d, cb := cb + ((cow.map (fun x => x.2.1)).getD 0),
      ca := acts * c.act + ((cow.map (fun x => x.2.2)).getD 0), ck := 0, acts := acts, hint := r.hdr.hint = 1, work := workOf r k,
      tag := some r.hdr.tag, stage := .plaza, input := input, inter := plazaInter input c0, entered := c0 * cycleUnits,
      urgency := 0 }
  let rfmItem : Item :=
    { it with id := base + 1, cb := 0, ca := 0, ck := c.rfm, acts := 0, work := .rfm, tag := none, stage := .queue }
  let items1 := if bucketRest then
      w.items.map (fun x => if x.work = .bucket then { x with ca := x.ca + it.ca, cb := x.cb + it.cb, acts := x.acts + acts } else x)
    else w.items ++ [it]
  { inputs := nset w.inputs input (c0 + 1),
    rows := nset w.rows key (if r.hdr.hint = 1 then row + 1 else 0),
    raa := nset w.raa key (if rfm then cnt - fld s ADM_REF_RAA_RFM_DEC else cnt),
    opened := if w.opened.contains (key, row) then w.opened else w.opened ++ [(key, row)],
    demands := addDemand sub it.cb it.ca (if rfm then c.rfm else 0) w.demands,
    items := if rfm then items1 ++ [{ rfmItem with id := s.adm.nextId + items1.length }] else items1,
    acts := w.acts + acts, rfms := w.rfms + b2n rfm, bad := if bad then some (w.bad.getD sub) else w.bad }

/-- The walk over all lines. -/
def walk (s : State) (r : Req) (d : Nat) : Walk :=
  (List.range r.n).foldl (walkLine s r d s.draws)
    { inputs := s.adm.plazaIn, rows := s.adm.bookedRow, raa := s.adm.raaProj, opened := [], demands := [], items := [], acts := 0, rfms := 0, bad := none }

/-- One reason of a refusal: its code (R66), the subchannel for DEADLINE and SLACK, and the wait, none without a finite end. -/
structure Reason where
  code : Nat
  sub : Option Nat
  wait : Option Nat
  deriving DecidableEq, Repr

/-- DEADLINE and SLACK on one subchannel (R65) for the deadline `dl` and the response path `ret`. Every quantity is scaled by
`den`. -/
def subReasons (s : State) (t start dl ret den : Nat) (m : Demand) : List Reason :=
  let d := dl - ret
  let q := m.sub / 8
  let c := costsOf s q (costSet s q d)
  let items := s.adm.items.filter (fun it => it.sub = m.sub)
  let iv := trefiShort s q
  let gap := fld s ADM_FSTEP_GAP * nsUnits * den
  let late := fun (f : Nat) => match stepStart s q with | some S => if S * den < f then f + gap else f | none => f
  let b := d / binUnits
  let k := bookedUpTo items b
  let fin := late (start * den +
    workScaled den (k.bus + m.cb) (k.act + m.ca) (k.blk + m.ck + futureRef iv c.rfc t d + c.access + c.turn))
  let excess := fin + ret * den - dl * den
  let deadline := if 0 < excess then [⟨5, some m.sub, some ((excess + den - 1) / den)⟩] else []
  let inc := (max m.cb m.ca * 256 + m.ck * den) * cycleUnits
  let start0 := t + (fld s ADM_PATH_T_IN + fld s ADM_PATH_T_XIN) * cycleUnits
  let short := fun (j : Nat) =>
    let e := (j + 1) * binUnits
    let x := bookedUpTo items j
    let f := late (start0 * den +
      workScaled den x.bus x.act (x.blk + futureRef iv c.rfc t e + c.access + c.turn))
    inc + f - e * den
  let top := t / binUnits + 1023
  let worst := (List.range (top - b)).foldl (fun a i => max a (short (b + 1 + i))) 0
  deadline ++ (if 0 < worst then [⟨6, some m.sub, some ((worst + den - 1) / den)⟩] else [])

/-- WRITE_CAP on one subchannel (R356): cb of the unserved write work. -/
def capReason (s : State) (opc : Nat) (m : Demand) : List Reason :=
  let isWrite := fun (it : Item) => match it.tag.bind (flightOf s) with | some f => writeType f.opc | none => false
  let work := (s.adm.items.filter (fun it => decide (it.sub = m.sub) && isWrite it)).foldl (fun a it => a + it.cb) 0
  if writeType opc && decide (fld s BOOT_CFG_WRITE_CAP < work + m.cb) then [⟨6, some m.sub, some binUnits⟩] else []

/-- The wait of R69: to the end of the bin of the earliest refresh booked on the subchannel, or to the next one due. Where none is
booked and none has a due time the spec names no wait: no estimate (log 57, DESIGN CHOICE). -/
def raaWait (s : State) (t sub : Nat) : Option Nat :=
  let refs := s.adm.items.filter (fun it => decide (it.sub = sub) && decide (it.work = .refresh))
  match leastBy Item.bin refs with
  | some it => some ((it.bin + 1) * binUnits - t)
  | none => if nget s.dram.refDue sub = 0 then none else some (nget s.dram.refDue sub - 1 - t)

/-- Largest token count (R72). -/
def tokenMax : Nat := 2 ^ 24 - 1

/-- The wait for a bucket that is short: none where RATE is zero or the need exceeds what the bucket can hold (R71). -/
def bucketWait (need have_ rate burst : Nat) : Option Nat :=
  if rate = 0 ∨ min burst tokenMax < need then none else some (((need - have_) * usUnits + rate - 1) / rate)

/-- The reasons of the tenant pool (R72). -/
def poolReasons (s : State) (t pool n act : Nat) : List Reason :=
  if fldAt s ADM_POOL_CFG_ENABLE pool = 0 then [] else
    let mine := s.adm.flights.filter (fun f => decide (f.pool = pool) && decide (f.opc ≠ opFENCE))
    let a := if fldAt s ADM_POOL_CFG_INFLIGHT_MAX pool ≤ mine.length then
        [⟨2, none, (leastBy Flight.deadline mine).map (fun f => f.deadline - t)⟩] else []
    let ops := fldAt s ADM_POOL_STAT_OPS_TOKENS pool
    let b := if ops < n then
        [⟨3, none, bucketWait n ops (fldAt s ADM_POOL_CFG_OPS_RATE pool) (fldAt s ADM_POOL_BURST_OPS_BURST pool)⟩] else []
    let at_ := fldAt s ADM_POOL_STAT_ACT_TOKENS pool
    let c := if at_ < act then
        [⟨4, none, bucketWait act at_ (fldAt s ADM_POOL_CFG_ACT_RATE pool) (fldAt s ADM_POOL_BURST_ACT_BURST pool)⟩] else []
    a ++ b ++ c

/-- The port at its in-flight limit (R31, R57). -/
def portReason (s : State) (t port : Nat) : List Reason :=
  let mine := s.adm.flights.filter (fun f => decide (f.hdr.port.toNat = port) && decide (f.opc ≠ opFENCE))
  if portFldOf s BLV_PORT_CFG_INFLIGHT_MAX port ≤ mine.length then
    [⟨1, none, (leastBy Flight.deadline mine).map (fun f => f.deadline - t)⟩] else []

/-- What is left of EST_MS of an offline subchannel, in 1/48 ns (R105). -/
def offlineLeft (s : State) (n : Nat) : Nat :=
  fld s ((DRC_SUB_EST_MS.inst (n / 8)).nth (n % 8)) * 1000000 * nsUnits - (s.now - (nget s.dram.offAt n - 1))

/-- An offline subchannel (R105): reason DEADLINE, the remaining time. -/
def offlineReasons (s : State) (subs : List Nat) : List Reason :=
  (subs.filter (fun n => flag s ((DRC_SUB_OFFLINE.inst (n / 8)).nth (n % 8)))).map (fun n => ⟨5, some n, some (offlineLeft s n)⟩)

/-- The deadline D of a request that arrives now (R58), and fence_until of its port (R65): the latest deadline before an open
FENCE. -/
def deadlineOf (s : State) (port : Nat) : Nat :=
  max (s.now + fldAt s ADM_PORT_CFG_BOUND port * nsUnits) (nget s.adm.portDl port)
def fenceUntil (s : State) (port : Nat) : Nat :=
  (s.adm.flights.filter (fun f => decide (f.opc = opFENCE) && decide (f.hdr.port.toNat = port))).foldl
    (fun a f => max a f.deadline) 0

/-- Every reason to refuse a request, and its walk (R65, R66, R69, R72, R105, R356). -/
def reasons (s : State) (r : Req) : List Reason × Walk :=
  let t := s.now
  let port := r.hdr.port.toNat
  let dl := deadlineOf s port
  let ret := tRet s r.opc r.n r.link
  let start := max (t + fld s ADM_PATH_T_IN * cycleUnits) (fenceUntil s port) + fld s ADM_PATH_T_XIN * cycleUnits
  let den := scaleDen (reserveInForce s)
  let w := walk s r (dl - ret)
  let off := offlineReasons s (w.demands.map (fun m => m.sub))
  let live := w.demands.filter (fun m => !off.any (fun o => o.sub = some m.sub))
  let bad := match w.bad with | some n => [⟨6, some n, raaWait s t n⟩] | none => []
  (portReason s t port ++ poolReasons s t r.pool r.n (w.acts + w.rfms * fld s ADM_REF_RFM_CHARGE) ++ off ++
    live.flatMap (subReasons s t start dl ret den) ++ live.flatMap (capReason s r.opc) ++ bad, w)

/-! The retry hint (R71). -/

/-- The least exponent e at most 15 with ceil(n / 2^e) below 4,096. -/
def hintExp : Nat → Nat → Nat
  | 0, _ => 0
  | f + 1, n => if n ≤ 4095 then 0 else 1 + hintExp f ((n + 1) / 2)

/-- The hint field of a wait in 1/48 ns: exponent in [15:12], mantissa in [11:0]. -/
def encodeHint (w : Option Nat) : Nat :=
  match w with
  | none => 0
  | some w =>
    let n := max 1 ((w + binUnits - 1) / binUnits)
    let e := hintExp 15 n
    let m := (n + 2 ^ e - 1) / 2 ^ e
    if 4095 < m then 15 * 4096 + 4095 else e * 4096 + m

/-- The largest of the waits; none where one has no finite end (R66). -/
def largestWait : List (Option Nat) → Option Nat
  | [] => some 0
  | w :: l =>
    match w, largestWait l with
    | some a, some b => some (max a b)
    | _, _ => none

/-- The first reason in the order of R66: the least code. -/
def firstReason (l : List Reason) : Option Reason := leastBy Reason.code l

/-! Owner forwarding at admission (R118, R121, R125). -/

/-- Lines a request forwards (R116, R132). -/
def forwardLines (s : State) (r : Req) : Nat :=
  if r.opc = opWRD then r.n else if ownerOnly r.opc then 1
  else if fwdAllPort s r.hdr.port.toNat && writeType r.opc then r.n else 0

/-- Lines that accepted owner-only requests have still to forward. -/
def owedLines (s : State) : Nat :=
  (s.adm.flights.filter (fun f => ownerOnly f.opc && decide (0 < f.left))).foldl
    (fun a f => a + (if f.opc = opWRD then f.n else 1)) 0

/-- The forward window and the partner's mirror queue have room (R118): FWD_WIN lines, half of them at half width, forwarded and
not acknowledged; and the 16,384 lines of the queue, which those and the lines still to be forwarded hold, and whose credit
returns with MIRROR_ACK (log 15, DEDUCED). -/
def forwardRoom (s : State) (n : Nat) : Bool :=
  let out := s.psg.fwd.foldl (fun a e => a + e.2) 0
  let win := if fld s PSG_STAT_WIDTH = 3 then fld s PSG_CFG_FWD_WIN else fld s PSG_CFG_FWD_WIN / 2
  decide (out + n ≤ win) && decide (out + owedLines s + n ≤ 16384)

/-- The window is moving here as giver (R121). -/
def windowMoving (s : State) (w : Nat) : Bool :=
  match s.psg.handshake with
  | some h => s.psg.moving && h.giver && decide (h.first ≤ w) && decide (w ≤ h.last)
  | none => false

/-- Refusals with RETRY_ADMIT that are no reason of R66: the waits of the forward window (64 ns), a moving window (the time
left to step 4 of the handshake) and solo operation (no estimate). -/
def ownerWaits (s : State) (r : Req) : List (Option Nat) :=
  let room := if psgLive s && decide (0 < forwardLines s r) && !forwardRoom s (forwardLines s r) then [some binUnits] else []
  let move := if ownerOnly r.opc && windowMoving s r.win then [some (((s.psg.handshake.map (fun h => h.start)).getD 0) + 66100 * nsUnits - s.now)] else []
  let solo := if flag s PSG_STAT_SOLO && ownerOnly r.opc && (decide (r.opc = opWRD) || !flag s PSG_CTL_SOLO_OK) then [none] else []
  room ++ move ++ solo

end Sys2Proof.Machine
end

