-- ==== Sys2Proof/Machine/RequestOps.lean ====
section
/-! DEFINITION. A Boulevard request from its arrival to its acceptance or refusal (R24, R29 to R51, R73, R74, R156, R207 to
R209, R216). -/
namespace Sys2Proof.Machine

/-- Statuses (R44). -/
def stRetryAdmit : Nat := 1
def stRetryRestoring : Nat := 2
def stRefusedPower : Nat := 3
def stRedirect : Nat := 4
def stZoneDeny : Nat := 5
def stLenErr : Nat := 6

/-- Header bits [111:0] of R32. -/
def reqBits (opc : Nat) (h : ReqHdr) : Nat :=
  opc % 32 + h.port.toNat * 2 ^ 5 + h.tag.toNat * 2 ^ 15 + h.tenant.toNat * 2 ^ 31 + h.addr.toNat * 2 ^ 47 +
    h.count.toNat * 2 ^ 83 + h.hint.toNat * 2 ^ 89 + h.epoch.toNat * 2 ^ 90 + h.sub.toNat * 2 ^ 92 + h.rsvd.toNat * 2 ^ 96

/-- The header as received. -/
def reqWord (opc : Nat) (h : ReqHdr) : BitVec 128 := BitVec.ofNat 128 (reqBits opc h + h.crc.toNat * 2 ^ 112)

/-- The line count (R32). -/
def lineCount (c : BitVec 6) : Nat := if c = 0 then 64 else c.toNat

/-- The COUNT rule and the SUB range of R36, with the boundary of R46 and the entry image of R40; a FENCE has none. -/
def wellShaped (opc : Nat) (h : ReqHdr) (data : List Slot128) : Bool :=
  let n := lineCount h.count
  let a := h.addr.toNat
  let sub := h.sub.toNat
  let cross := decide (a / 64 ≠ (a + n - 1) / 64)
  if opc = opFENCE then true else
  if opc = opRD ∨ opc = opWR ∨ opc = opWRD then decide (sub = 0) && !cross else
  if opc = opADD64 ∨ opc = opCAS64 then decide (n = 1) && decide (sub < 8) else
  if opc = opADDPAIR ∨ opc = opCAS128 then decide (n = 1) && decide (sub < 4) else
  if bucketType opc then
    decide (n = 4) && decide (a % 4 = 0) && decide (sub = 0) &&
      (decide (opc ≠ opEXI) || decide ((data.getD 0 0).toNat % 2 = 1))
  else false

/-- Data slots that belong to no message: each sets ORPHAN (R24, R34; log 24, DESIGN CHOICE). -/
def orphans (s : State) (l n : Nat) : State := (List.range n).foldl (fun x _ => raise x (srcBlv l 7)) s

/-- A refusal with no hint leaves on the port's link. -/
def refuseWith (s : State) (h : ReqHdr) (status hint : Nat) : State :=
  sendRefusal s (portFldOf s BLV_PORT_CFG_LINK h.port.toNat) (refusal h.port h.tag status hint)

/-! Zoning (R73, R74). -/

/-- The valid windows that contain ADDR, lowest first. -/
def matchingWindows (s : State) (addr : Nat) : List Window :=
  ((validWindows s).map (windowOf s)).filter (fun w => decide (w.base ≤ addr) && decide (addr ≤ w.limit))

/-- The PERM bit an opcode needs: R, W, A, C, X, M from bit 0 (R74). -/
def permBit (opc : Nat) : Nat :=
  if opc = opRD then 0 else if opc = opWR ∨ opc = opWRD then 1 else if opc = opADD64 ∨ opc = opADDPAIR then 2 else
  if opc = opCAS64 ∨ opc = opCAS128 then 3 else if opc = opEXM then 4 else 5

/-- The reason of a denial against the winning window (R74); none passes. -/
def zoneReason (s : State) (opc : Nat) (h : ReqHdr) (w : Window) : Option Nat :=
  let t := h.tenant.toNat
  if fldAt s ZON_TEN_CFG_VALID t = 0 ∨ (w.tenantAny = false ∧ w.tenant ≠ t) then some 2 else
  if !bitAt w.perm (permBit opc) then some 3 else
  if w.limit < h.addr.toNat + lineCount h.count - 1 then some 4 else none

/-- An overlap is recorded (R73). -/
def noteOverlap (s : State) (addr : Nat) : List Window → State
  | a :: b :: _ =>
    let s1 := setFld (setFld (setFld s ZON_OVERLAP_LOG_WIN_LO a.idx) ZON_OVERLAP_LOG_WIN_HI b.idx) ZON_OVERLAP_LOG_ADDR addr
    raise s1 (srcNo 0x11 0)
  | _ => s

/-- A denial is logged, counted and raised (R74). With no window the log's WIN is a free value (log 4, DESIGN CHOICE). -/
def noteDeny (s : State) (addr reason : Nat) (win : Option Nat) : State :=
  let (w, s0) := match win with
    | some w => (w, s)
    | none => let p := drawNat s; (p.1 % 4096, p.2)
  let s1 := setFld (setFld (setFld s0 ZON_DENY_LOG_REASON reason) ZON_DENY_LOG_WIN w) ZON_DENY_LOG_ADDR addr
  raise (bump s1 ZON_DENY_CNT_COUNT) (srcNo 0x11 1)

/-! Unrestored units (R207 to R209, R213, R216). -/

/-- The class rank of a unit in the restore order (R213). -/
def orderRank (s : State) (u : Nat) : Nat :=
  if fld s IMG_RST_CTL_ORDER = 1 then
    let o := fld s IMG_RST_CTL_CLASS_ORDER
    match dramWindow s (256 * u) with
    | none => 4
    | some w => if w.cls = bitsOf o 5 4 then 0 else if w.cls = bitsOf o 3 2 then 1 else if w.cls = bitsOf o 1 0 then 2 else 3
  else 0

/-- Unit v leaves the restore queue before unit u (R213). -/
def orderBefore (s : State) (v u : Nat) : Bool :=
  decide (orderRank s v < orderRank s u) || (decide (orderRank s v = orderRank s u) && decide (v < u))

/-- The channel that holds a unit's copy (R209). -/
def unitChannel (s : State) (u : Nat) : Nat := let e := newestEntry s u; channelOf e.stripeA e.memberA

/-- Promotion of a unit (R208). -/
def promote (s : State) (u : Nat) : State :=
  if s.pwr.demand.contains u || unitReady s u then s
  else if 4096 ≤ s.pwr.demand.length then raise (bump s IMG_RST_DEMAND_DROPPED) (srcImg 12)
  else bump { s with pwr := { s.pwr with demand := s.pwr.demand ++ [u] } } IMG_RST_DEMAND_PROMOTED

/-- The wait of the hint for a unit, in 1/48 ns (R209). -/
def restoreWait (s : State) (u : Nat) : Option Nat :=
  if s.pwr.demand.contains u then
    let q := ((s.pwr.demand.takeWhile (fun v => v ≠ u)).filter (fun v => unitChannel s v = unitChannel s u)).length
    some ((fld s IMG_RST_CFG_HINT_BASE + q * fld s IMG_RST_CFG_HINT_PER) * usUnits)
  else if imageRate s = 0 then none
  else
    let ahead := ((List.range (installedUnits s)).filter (fun v =>
      !isRestored s v && (newestEntry s v).written && orderBefore s v u)).length
    some (ahead * 16384 * 1000 * nsUnits / imageRate s)

/-- Unit u becomes restored in this Plaza cycle: admission still sees it as it was at the cycle's start (R207). -/
def restoresNow (s : State) (u : Nat) : Bool :=
  rstMode s && ((!isRestored s u && restoreDone s u) || (decide (s.pwr.justRestored.1 = s.now / 30) && s.pwr.justRestored.2.contains u))

/-- The wait a refusal names for a unit: 64 ns where it becomes restored in the same cycle (R207, R209). -/
def unitWait (s : State) (u : Nat) : Option Nat := if restoresNow s u then some (64 * nsUnits) else restoreWait s u

/-- The units of a request in its window. -/
def reqUnits (dline n : Nat) : List Nat :=
  if unitOf dline = unitOf (dline + n - 1) then [unitOf dline] else [unitOf dline, unitOf (dline + n - 1)]

/-- The units a logged request touches, through the window its ADDR lies in (R156, R216). -/
def loggedUnits (s : State) (e : LogEntry) : List Nat :=
  let addr := bitsOf e.hdr.toNat 82 47
  let n := lineCount (BitVec.ofNat 6 (bitsOf e.hdr.toNat 88 83))
  match matchingWindows s addr with
  | w :: _ => reqUnits (w.dbase + (addr - w.base)) n
  | [] => []

/-- Reconciliation is pending and the log names one of the units (R216). -/
def reconHolds (s : State) (us : List Nat) : Bool :=
  flag s IMG_RST_STAT_RECON && (s.pwr.log.flatMap (loggedUnits s)).any (fun u => us.contains u)

/-! Refusals. -/

/-- The refusal log (R156): 16,384 entries, the header and the first data slot of an addition. -/
def logRefusal (s : State) (opc : Nat) (h : ReqHdr) (data : List Slot128) : State :=
  if opc = opWR ∨ opc = opADD64 ∨ opc = opADDPAIR then
    if s.pwr.log.length < 16384 then
      let e : LogEntry := ⟨reqWord opc h, if opc = opWR then 0 else data.getD 0 0, 0⟩
      let s1 := { s with pwr := { s.pwr with log := s.pwr.log ++ [e] } }
      setFld s1 PWR_LOG_ENTRIES s1.pwr.log.length
    else raise (setFlag s PWR_LOG_OVF true) srcLogOvf
  else s

/-- A refusal with RETRY_ADMIT is counted (R66). -/
def countRefusal (s : State) (port : Nat) : State :=
  setFldAt (bump s ADM_REFUSED_COUNT) ADM_PORT_STAT_REFUSALS port
    (min ADM_PORT_STAT_REFUSALS.max (fldAt s ADM_PORT_STAT_REFUSALS port + 1))

/-- ADM_LAST_REFUSE (R66, R80). SUBCH is stated for DEADLINE and SLACK only; otherwise it is a free value (log 4, DESIGN CHOICE). A
wait without a finite end reads 65,535 in DEFICIT, and a wait is rounded up to whole ns (log 57, DESIGN CHOICE). -/
def lastRefuse (s : State) (port : Nat) (r : Reason) (wait : Option Nat) : State :=
  let (sub, s0) := match r.sub with
    | some n => (n, s)
    | none => let p := drawNat s; (p.1 % 32, p.2)
  let ns := match wait with
    | none => 65535
    | some w => min 65535 ((w + nsUnits - 1) / nsUnits)
  setFld (setFld (setFld (setFld s0 ADM_LAST_REFUSE_DEFICIT ns) ADM_LAST_REFUSE_REASON r.code) ADM_LAST_REFUSE_SUBCH sub)
    ADM_LAST_REFUSE_PORT port

/-- Refuse with RETRY_ADMIT: the reasons of R66 and the owner's waits (R118, R121, R125). -/
def refuseAdmit (s : State) (r : Req) (rs : List Reason) (ws : List (Option Nat)) : State :=
  let wait := largestWait (rs.map (fun x => x.wait) ++ ws)
  let port := r.hdr.port.toNat
  let s1 := countRefusal s port
  let s2 := match firstReason rs with | some x => lastRefuse s1 port x wait | none => s1
  let full := psgLive s && decide (0 < forwardLines s r) && !forwardRoom s (forwardLines s r)
  let s3 := if full then bump s2 PSG_FWD_REFUSED_COUNT else s2
  refuseWith s3 r.hdr stRetryAdmit (encodeHint wait)

/-! Acceptance (R50, R58, R65, R72). -/

/-- Urgency by slack (R77). -/
def urgencyOf (s : State) (dl : Nat) : Nat :=
  let slack := dl - s.now
  if fld s ADM_URG_T1 * binUnits < slack then 0 else
  if fld s ADM_URG_T2 * binUnits < slack then 1 else
  if fld s ADM_URG_T3 * binUnits < slack then 2 else 3

/-- The port's next sequence number is taken (R50). -/
def takeSeq (s : State) (port : Nat) : BitVec 20 × State :=
  let q := portFldOf s BLV_PORT_STAT_NEXT_SEQ port
  (BitVec.ofNat 20 q, setPortFldOf s BLV_PORT_STAT_NEXT_SEQ port ((q + 1) % 2 ^ 20))

/-- The epoch stamp, and the count of requests that saw another (R35). -/
def stampEpoch (s : State) (l : Nat) (h : ReqHdr) : BitVec 2 × State :=
  let e : BitVec 2 := BitVec.ofNat 2 (fld s CEN_STAT_EPOCH)
  (e, if h.epoch = e then s else bump s (BLV_EPOCH_SKEW_COUNT.inst l))

/-- The tokens of an acceptance (R72). -/
def takeTokens (s : State) (pool ops act : Nat) : State :=
  if fldAt s ADM_POOL_CFG_ENABLE pool = 0 then s
  else setFldAt (setFldAt s ADM_POOL_STAT_OPS_TOKENS pool (fldAt s ADM_POOL_STAT_OPS_TOKENS pool - ops))
    ADM_POOL_STAT_ACT_TOKENS pool (fldAt s ADM_POOL_STAT_ACT_TOKENS pool - act)

/-- The flight of an accepted request. -/
def newFlight (s : State) (r : Req) (epoch : BitVec 2) (seq : BitVec 20) (deadline left : Nat) : Flight :=
  { link := r.link, opc := r.opc, hdr := r.hdr, data := r.data, epoch := epoch, seq := seq, arrival := s.now,
    deadline := deadline, win := r.win, dline := r.dline, n := r.n, pool := r.pool, left := left, status := 0, slot := 0,
    swapped := false, full := false, lines := [], result := [], ack := none, keyW := (windowOf s r.win).keyW,
    fwd := if fwdAllPort s r.hdr.port.toNat && writeType r.opc then 2 else 0 }

/-- Accept a request: sequence number, epoch, deadline, bookings, tokens; its items enter the Plaza (R65, R76, R77). -/
def acceptReq (s : State) (r : Req) (w : Walk) : State :=
  let port := r.hdr.port.toNat
  let d := deadlineOf s port
  let (q, s1) := takeSeq s port
  let (e, s2) := stampEpoch s1 r.link r.hdr
  let items := w.items.map (fun it => { it with urgency := urgencyOf s it.dl })
  let f := newFlight s r e q d ((items.filter (fun it => it.tag.isSome)).length)
  let s3 := bumpBy (takeTokens s2 r.pool r.n (w.acts + w.rfms * fld s ADM_REF_RFM_CHARGE)) PLZ_URG3_COUNT
    ((items.filter (fun it => it.tag.isSome && decide (it.urgency = 3))).length)
  let s4 := { s3 with
    draws := s3.draws + r.n,
    adm := { s3.adm with flights := s3.adm.flights ++ [f], items := s3.adm.items ++ items,
                         nextId := s3.adm.nextId + items.length, plazaIn := w.inputs, portDl := nset s3.adm.portDl port d,
                         bookedRow := w.rows, raaProj := w.raa } }
  settle (bump s4 ADM_ACCEPTED_COUNT)

/-- Forward-all ends for a port at the first FENCE accepted after the partner announced SERVE (R133); once it has ended for
every enabled port it is no longer in force. -/
def endForwardAll (s : State) (port : Nat) : State :=
  if flag s PSG_STAT_FWD_ALL && s.psg.servedNotice && !s.psg.fwdEnded.contains port then
    let s1 := { s with psg := { s.psg with fwdEnded := lins port s.psg.fwdEnded } }
    if (enabledPorts s1).all (fun p => s1.psg.fwdEnded.contains p) then noteReserve (setFlag s1 PSG_STAT_FWD_ALL false) else s1
  else s

/-- Accept a FENCE: no test, no line (R51, R62). -/
def acceptFence (s : State) (l : Nat) (h : ReqHdr) : State :=
  let port := h.port.toNat
  let (q, s1) := takeSeq s port
  let (e, s2) := stampEpoch s1 l h
  let r : Req := { link := l, opc := opFENCE, hdr := h, data := [], n := 0, win := 0, dline := 0, pool := 0 }
  let f := newFlight s r e q (max s.now (nget s.adm.portDl port)) 0
  let s3 := { s2 with adm := { s2.adm with flights := s2.adm.flights ++ [f] } }
  settle (endForwardAll (bump s3 ADM_ACCEPTED_COUNT) port)

/-! The decision (R45). -/

/-- RD and EXM of a window owned elsewhere are redirected in solo operation and until the partner's STREAM_END (R125, R126);
of every window after an entry beside a partner in BOOT or JOIN (R206). -/
def readsHeld (s : State) : Bool := flag s PSG_STAT_SOLO || s.psg.holdUnowned

/-- Rows 7 to 10 for a request in window w. -/
def decideIn (s : State) (l opc : Nat) (h : ReqHdr) (data : List Slot128) (w : Window) : State :=
  let n := lineCount h.count
  let dline := w.dbase + (h.addr.toNat - w.base)
  let r : Req := { link := l, opc := opc, hdr := h, data := data, n := n, win := w.idx, dline := dline,
                   pool := fldAt s ZON_TEN_CFG_POOL h.tenant.toNat }
  let us := reqUnits dline n
  let unready := us.filter (fun u => !unitReady s u || restoresNow s u)
  let reads := decide (opc = opRD) || decide (opc = opEXM)
  if (!owns s w && (ownerOnly opc || (reads && readsHeld s))) || (reads && s.psg.holdAll) then
    refuseWith s h stRedirect 0
  else if !unready.isEmpty then
    let s1 := unready.foldl promote s
    refuseWith s1 h stRetryRestoring
      (if reconHolds s us then 0 else encodeHint (largestWait (unready.map (unitWait s1))))
  else if reconHolds s us then refuseWith s h stRetryRestoring 0
  else
    let (rs, wk) := reasons s r
    let ws := ownerWaits s r
    if rs.isEmpty && ws.isEmpty then acceptReq s r wk else refuseAdmit s r rs ws

/-- Row 6, then the rest. -/
def decideZone (s : State) (l opc : Nat) (h : ReqHdr) (data : List Slot128) : State :=
  let addr := h.addr.toNat
  match matchingWindows s addr with
  | [] => refuseWith (noteDeny s addr 1 none) h stZoneDeny 0
  | w :: rest =>
    let s1 := noteOverlap s addr (w :: rest)
    match zoneReason s1 opc h w with
    | some k => refuseWith (noteDeny s1 addr k (some w.idx)) h stZoneDeny 0
    | none => decideIn s1 l opc h data w

/-- The port is disabled, or the request came on another link than the port's (R29). -/
def portBad (s : State) (l p : Nat) : Bool :=
  decide (portFldOf s BLV_PORT_CFG_ENABLE p = 0) || decide (portFldOf s BLV_PORT_CFG_LINK p ≠ l)

/-- Rows 3 to 10 of a request whose opcode is known. -/
def decideReq (s : State) (l opc : Nat) (h : ReqHdr) (data : List Slot128) : State :=
  let p := h.port.toNat
  let short := decide (data.length < reqSlots opc (lineCount h.count))
  let s1 := if portBad s l p then raise s (srcBlv l 4) else s
  let s2 := if short then raise s1 (srcBlv l 6) else s1
  if portBad s l p || short || !wellShaped opc h data then refuseWith s2 h stLenErr 0
  else if s.vault = .dump then refuseWith (logRefusal s2 opc h data) h stRefusedPower 0
  else if s.vault = .join ∨ s.vault = .culdesac ∨ s.rst.drain.isSome then refuseWith s2 h stRedirect 0
  else if opc = opFENCE then acceptFence s2 l h
  else decideZone s2 l opc h data

/-- The link delivers: the data path runs, the link is up, and the blocks a request enters accept work (R375). -/
def linkDelivers (s : State) (l : Nat) : Bool :=
  dataUp s && linkIsUp s l && accepts s (0x18 + l) && accepts s 0x12 && accepts s 0x11 && accepts s 0x10

/-- A request of opcode `opc` arrives whole on link l (R45): rows 1 and 2, the slots beyond its message (R24), the decision. -/
def requestOp (l opc : Nat) (h : ReqHdr) (data : List Slot128) (s : State) : State :=
  if !linkDelivers s l then s
  else if headerCrc (reqBits opc h) ≠ h.crc.toNat then
    orphans (raise (bump s (BLV_HDR_CRC_ERR_COUNT.inst l)) (srcBlv l 2)) l data.length
  else
    let need := reqSlots opc (lineCount h.count)
    let s0 := orphans s l (data.length - need)
    if (flightOf s h.tag).isSome then raise s0 (srcBlv l 3)
    else decideReq s0 l opc h (data.take need)

/-- A request of an unknown opcode: LEN_ERR and BAD_OPC, and PORT_ERR as for any other (R29, R36). The header carries no length. -/
def badOpcode (l opc : Nat) (h : ReqHdr) (s : State) : State :=
  if !linkDelivers s l then s
  else if headerCrc (reqBits opc h) ≠ h.crc.toNat then raise (bump s (BLV_HDR_CRC_ERR_COUNT.inst l)) (srcBlv l 2)
  else if (flightOf s h.tag).isSome then raise s (srcBlv l 3)
  else
    let s1 := if portBad s l h.port.toNat then raise s (srcBlv l 4) else s
    refuseWith (raise s1 (srcBlv l 5)) h stLenErr 0

end Sys2Proof.Machine
end

