-- ==== Sys2Proof/Machine/LinkOps.lean ====
section
/-! DEFINITION. Training, width and loss of the Boulevard links and the Passage (R20 to R28, R112, R124 to R126, R154). -/
namespace Sys2Proof.Machine

/-- The page of link l; 8 is the Passage. -/
def linkPage (l : Nat) : Nat := if l < 8 then 0x18 + l else 0x28
/-- Lanes of half a link. -/
def halfLanes (l : Nat) : Nat := if l < 8 then 4 else 8
/-- A fault source of the link's page: the BLV and PSG pages number LINK_DOWN and LANE_FAIL alike. -/
def linkSrc (l b : Nat) : Nat := srcNo (linkPage l) b

/-- Failed lanes. -/
def laneMap (s : State) (l : Nat) : Nat := if l < 8 then fld s (BLV_STAT_LANE_FAIL_MAP.inst l) else s.psg.lanes
def setLaneMap (s : State) (l m : Nat) : State :=
  if l < 8 then setFld s (BLV_STAT_LANE_FAIL_MAP.inst l) m else { s with psg := { s.psg with lanes := m } }

/-- States in which links train (R21). -/
def trainState (v : VaultState) : Bool :=
  match v with
  | .join | .serve | .ride | .dump | .restore | .culdesac => true
  | _ => false

/-- The width the failed lanes leave: all, the half without a failure where HALF_OK is one, or none (R22). -/
def widthFor (s : State) (l : Nat) : Nat :=
  let m := laneMap s l
  let lo := m % 2 ^ halfLanes l
  let hi := m / 2 ^ halfLanes l
  if m = 0 then 3 else if !flag s (linkHalfOk l) then 0 else if lo = 0 then 1 else if hi = 0 then 2 else 0

/-- The Passage no longer carries anything: what was under way on it ends, a running handshake with STATUS 4, STREAM and SCRUB
get LEAVE (R251), a fetch that runs fails (R122, R215). -/
def psgLost (s : State) : State :=
  let s1 := setLink s 8 { (getLink s 8).cleared with owed := 0 }
  let s2 := setFld s1 PSG_STAT_WIDTH 0
  let s3 := { s2 with psg := { s2.psg with txWait := [], rxFree := 8192, held := [], handshake := none, moving := false, fetches := [],
                                            genSent := false, needEnd := s2.psg.needEnd || serving s2, reconFetch := none } }
  let s4 := match s.psg.reconFetch with
    | some (i, _, _) =>
      let log := s3.pwr.log.zipIdx.map (fun e => if e.2 = i then { e.1 with result := 2 } else e.1)
      setFlag { (pendEvent s3 0x30 0) with pwr := { s3.pwr with log := log } } IMG_RLOG_IDX_BUSY false
    | none => s3
  raiseEvent (if s.psg.handshake.isSome then setFld s4 PSG_OWN_CMD_STATUS 4 else s4) 2 evLeave

/-- What a vault does once its Passage has gone (R124, R125, R154): in RIDE it commits to the dump; a serving vault goes on
alone. -/
def psgAlone (s : State) : State := if s.vault = .ride then enterDump s else startSolo s

/-- The Passage is declared down (R26, R112). -/
def psgLinkDown (s : State) : State :=
  let s1 := settleLost (psgAlone (raise (setFld (psgLost s) PSG_STAT_STATE 3) (srcPsg 0)))
  if s1.vault ≠ .dump ∧ trainState s1.vault ∧ flag s1 PSG_CTL_AUTO_RETRAIN then
    setLink (setFld s1 PSG_STAT_STATE 1) 8 { getLink s1 8 with fast := true }
  else s1

/-- The Passage leaves its up state for state v by a write of firmware: trained anew or disabled (log 54, DEDUCED). -/
def psgTaken (s : State) (v : Nat) : State :=
  if psgLive s then psgAlone (setFld (psgLost s) PSG_STAT_STATE v) else setFld s PSG_STAT_STATE v

/-- A link is declared down. -/
def linkDown (s : State) (l : Nat) : State := if l < 8 then blvLinkDown s l else psgLinkDown s

/-- First and last unit of a window. -/
def Window.units (w : Window) : Nat × Nat := (unitOf w.dbase, unitOf (w.dbase + w.lines - 1))

/-- Units that hold a line of a valid window (R132, step 3); one that two windows share counts once. -/
def streamUnits (s : State) : Nat :=
  (((validWindows s).map (fun w => (windowOf s w).units)).foldl (fun (acc : Nat × List (Nat × Nat)) u =>
    let shared := (if u.1 = u.2 then [u.1] else [u.1, u.2]).filter (fun e =>
      acc.2.any (fun v => decide (v.1 ≤ e) && decide (e ≤ v.2)))
    (acc.1 + (u.2 + 1 - u.1 - shared.length), u :: acc.2)) (0, [])).1

/-- The catch-up of R126 starts: this vault owes a STREAM_END to a partner that serves, and forward-all does not run. -/
def startCatchup (s : State) : State :=
  if serving s && psgUp s && s.psg.needEnd && !flag s PSG_STAT_FWD_ALL && !partnerAway s &&
      !(match s.psg.partner with | some .join | some .culdesac => true | _ => false) then
    requestRoutine (setFld (setFlag s PSG_STAT_CATCHUP true) PSG_RESYNC_REMAIN (s.dram.diverged.count (installedUnits s))) 2 6
  else s

/-- GEN goes to the partner once after the Passage comes up, and at every commit (R130; log 25, DEDUCED). -/
def sendGenOnce (s : State) : State :=
  if (s.psg.genSent && !s.psg.genDue) || !psgUp s then s else sendGen { s with psg := { s.psg with genSent := true, genDue := false } }

/-- The Passage has come up (R126, R130, R134, R205): solo operation ends and the marked units are streamed; a vault in JOIN
sends GEN; the resync's source starts its stream anew; a CULDESAC vault repeats its request. -/
def psgCameUp (s : State) : State :=
  let s1 := { s with psg := { s.psg with credit := 8192, rxFree := 8192 } }
  let s2 := if flag s1 PSG_STAT_SOLO then
      let s' := setFlag s1 PSG_STAT_SOLO false
      { s' with psg := { s'.psg with holdUnowned := true } }
    else s1
  let s3 := if flag s2 PSG_STAT_FWD_ALL ∧ s2.psg.source then
      requestRoutine (setFld s2 PSG_RESYNC_REMAIN (streamUnits s2)) 2 6 else startCatchup s2
  if s3.vault = .join ∨ s3.psg.genDue then sendGenOnce s3 else if s3.vault = .culdesac then sendNotice (sendGenOnce s3) 3 else s3

/-- The link writes BLV_EQ at each training but a fast retrain, which reuses the last equalisation (R21, R56); lane order and
polarity are found with it: free values (log 4, DESIGN CHOICE). -/
def trainedEq (s : State) (l : Nat) : State :=
  if (getLink s l).fast then s else
    let (a, s1) := drawNat s
    let (b, s2) := drawNat s1
    let s3 := setFld (setFld s2 (BLV_STAT_LANE_REV.inst l) (a % 2)) (BLV_STAT_REVERSED_POL.inst l) (a / 2 % 256)
    setFld (setFld (setFld s3 (BLV_EQ_PRE.inst l) (b % 256)) (BLV_EQ_MAIN.inst l) (b / 256 % 256))
      (BLV_EQ_POST.inst l) (b / 65536 % 256)

/-- The training of a link is over. -/
def trained (s : State) (l : Nat) : State := setLink s l { getLink s l with fast := false, keep := false }

/-- Training of a link ends (R20 to R22): up at the width its lanes allow, or down. A link that trained for a failed lane goes on
where it was (log 56, DESIGN CHOICE). -/
def linkUpOp (s : State) (l : Nat) : State :=
  if !dataUp s || !trainState s.vault || decide (fld s (linkState l) ≠ 1) then s else
    let w := widthFor s l
    if w = 0 then linkDown s l else
      let s1 := setFld (setFld s (linkState l) 2) (linkWidth l) w
      if l < 8 then settle (flushBacklog (trained (trainedEq s1 l) l) l)
      else if (getLink s 8).keep then settle (psgFlush (trained s1 8))
      else settle (psgCameUp (trained s1 8))

/-- BLV_CTL.TRAIN or PSG_CTL.TRAIN (R21): only while enabled and in a state that trains (log 54, DEDUCED). -/
def linkTrainOp (s : State) (l : Nat) : State :=
  if trainState s.vault && decide (s.vault ≠ .dump) && flag s (linkEnable l) && accepts s (linkPage l) then
    let s1 := setLaneMap s l 0
    if l < 8 then startTraining s1 l false else psgTaken s1 1
  else s

/-- A lane fails (R22): the link trains at half width on the other half, or goes down. A link that was up keeps its credits, its
FSEQ and the message under assembly over that training: the spec does not say what it keeps (log 56, DESIGN CHOICE). -/
def laneFailOp (s : State) (l lane : Nat) : State :=
  if !dataUp s || decide (2 * halfLanes l ≤ lane) || decide (fld s (linkState l) ≠ 1 ∧ fld s (linkState l) ≠ 2) then s else
    let m := laneMap s l
    let s1 := setLaneMap s l (if bitAt m lane then m else m + 2 ^ lane)
    let w := widthFor s1 l
    if w = 0 then linkDown s1 l
    else
      let x := getLink s1 l
      let s2 := setLink s1 l { x with keep := x.keep || decide (fld s (linkState l) = 2) }
      raise (setFld (setFld s2 (linkState l) 1) (linkWidth l) w) (linkSrc l 1)

/-- A CREDIT control slot (R27, R28). SLOTS of 0 or above 4,096, which the table does not admit, is ignored, and TX_CREDIT stays
at 65,535 where it would pass it (log 56, DESIGN CHOICE). -/
def creditOp (s : State) (l n : Nat) : State :=
  if n = 0 ∨ 4096 < n ∨ fld s (linkState l) ≠ 2 ∨ !dataUp s then s
  else if l < 8 then
    returnCredit (settle (flushBacklog
      (setFld s (BLV_CREDIT_TX_CREDIT.inst l) (min 65535 (fld s (BLV_CREDIT_TX_CREDIT.inst l) + n))) l)) l
  else returnCredit (psgFlush { s with psg := { s.psg with credit := min 65535 (s.psg.credit + n) } }) l

/-- A flit is sent again with the ACK of now; a response that leaves after its bound and has not been counted is late (R25,
R59). -/
def replayFlit (s : State) (l : Nat) (f : SentFlit) : State :=
  let s1 := emit s (.flit l (f.out (getLink s l) none))
  match f.resp with
  | some (_, b) => if lateNow s b then countLate s1 l else s1
  | none => s1

/-- The flit as the replay buffer keeps it after it is sent again. -/
def SentFlit.counted (f : SentFlit) (s : State) : SentFlit :=
  { f with resp := f.resp.map (fun r => (r.1, boundLeft s r.2)) }

/-- A NAK (R25, R26): the flits after ACK are sent again; the third for one flit brings the link down. -/
def nakOp (s : State) (l : Nat) (ack : BitVec 12) : State :=
  if !dataUp s || decide (fld s (linkState l) ≠ 2) then s else
    let s1 := ackFlits s l ack
    let x := getLink s1 l
    let fails := if x.nakAck = some ack then x.txFails + 1 else 1
    let s2 := setLink s1 l { x with txFails := fails, nakAck := some ack, sent := x.sent.map (fun f => f.counted s) }
    if 3 ≤ fails then linkDown s2 l
    else
      let s3 := if l < 8 then bumpBy s2 (BLV_REPLAY_COUNT.inst l) x.sent.length else s2
      x.sent.foldl (fun y f => replayFlit y l f) s3

/-- The link on which a request with this port and tag is arriving. -/
def arrivingOn (s : State) (port : BitVec 10) (tag : BitVec 16) : Option Nat :=
  (List.range 8).find? (fun k => (getLink s k).hdr.any (fun h =>
    decide (bitsOf h.toNat 14 5 = port.toNat) && decide (bitsOf h.toNat 30 15 = tag.toNat)))

/-- CANCEL_DONE leaves on the port's link, or waits there for credit (R27, R52). -/
def sendCancelDone (s : State) (port : BitVec 10) (tag : BitVec 16) (result : Nat) : State :=
  sendAgain s (portFldOf s BLV_PORT_CFG_LINK port.toNat) (.control (cancelDoneSlot port tag result))

/-- A CANCEL (R52). -/
def cancelOp (s : State) (l : Nat) (port : BitVec 10) (tag : BitVec 16) : State :=
  if !linkDelivers s l then s else
    let out := portFldOf s BLV_PORT_CFG_LINK port.toNat
    match arrivingOn s port tag with
    | some k => sendCancelDone (bump (dropPartial s k) (BLV_CANCEL_DONE.inst out)) port tag 0
    | none =>
      if s.adm.flights.any (fun f => decide (f.hdr.port = port) && decide (f.hdr.tag = tag)) then
        sendCancelDone (bump s (BLV_CANCEL_LATE.inst out)) port tag 1
      else sendCancelDone s port tag 2

/-! Ports (R31, R57). -/

/-- INFLIGHT_MAX summed over the enabled ports, with port p at v if it is enabled there. -/
def inflightSum (s : State) (p : Nat) (v : Word) : Nat :=
  ((enabledPorts s).filter (fun k => k ≠ p)).foldl (fun a k => a + portFldOf s BLV_PORT_CFG_INFLIGHT_MAX k)
    (if bitAt v.toNat 0 then bitsOf v.toNat 63 48 else 0)

/-- A write to BLV_PORT_CFG of port p (R31, R57). -/
def portCfgOp (s : State) (p : Nat) (v : Word) : State :=
  let page := 0x18 + p / 128
  let old := getReg s (rkey (p % 128) 0 page 0x808)
  let new := mergeRw s page 0x808 v.toNat old
  let sets := bitAt new.toNat 0
  let raises := decide (bitsOf old.toNat 63 48 < bitsOf new.toNat 63 48)
  if (sets || raises) && decide (65536 < inflightSum s p new) then setPortFldOf s BLV_PORT_STAT_OVERCOMMIT p 1
  else
    let s1 := setReg s (rkey (p % 128) 0 page 0x808) new
    let s2 := if sets && !bitAt old.toNat 0 then setPortFldOf s1 BLV_PORT_STAT_NEXT_SEQ p 0 else s1
    let a := bitsOf old.toNat 7 5
    let b := bitsOf new.toNat 7 5
    settle (if a = b then s2 else movePort s2 p a b)

end Sys2Proof.Machine
end

