-- ==== Sys2Proof/Machine/AdmissionCmds.lean ====
section
/-! DEFINITION. Commands of admission, the tenant pools, the Plaza and Zoning (R58, R72, R75 to R79, R81, R399). -/
namespace Sys2Proof.Machine

/-! Bounds and pools. -/

/-- ADM_PORT_CFG of port p (R58, R79): outside 480 to 65,000 ns the entry is unchanged. -/
def boundOp (s : State) (p : Nat) (v : Word) : State :=
  let b := bitsOf v.toNat 16 0
  if 480 ≤ b ∧ b ≤ 65000 then writeRw s 0x12 0x808 p 0 v else raise s (srcNo 0x12 1)

/-- BOUND_WRITE (R79). -/
def execBoundWrite (q : Requester) (v : Word) (s : State) : Res :=
  .next (guarded s q 0x12 (boundOp s (indexOf s q ADM_PORT_IDX_INDEX) v))

/-- ADM_POOL_CFG of pool p (R72): ENABLE from zero to one fills both buckets. -/
def poolCfgOp (s : State) (p : Nat) (v : Word) : State :=
  let s1 := writeRw s 0x12 0x820 p 0 v
  if fldAt s ADM_POOL_CFG_ENABLE p = 0 ∧ fldAt s1 ADM_POOL_CFG_ENABLE p ≠ 0 then
    setFldAt (setFldAt s1 ADM_POOL_STAT_OPS_TOKENS p (min tokenMax (fldAt s1 ADM_POOL_BURST_OPS_BURST p)))
      ADM_POOL_STAT_ACT_TOKENS p (min tokenMax (fldAt s1 ADM_POOL_BURST_ACT_BURST p))
  else s1

/-- POOL_CFG_WRITE (R72). -/
def execPoolCfgWrite (q : Requester) (v : Word) (s : State) : Res :=
  .next (guarded s q 0x12 (poolCfgOp s (indexOf s q ADM_POOL_IDX_INDEX) v))

/-- ADM_POOL_BURST of pool p (R72): a lower BURST cuts the bucket. -/
def poolBurstOp (s : State) (p : Nat) (v : Word) : State :=
  let s1 := writeRw s 0x12 0x828 p 0 v
  setFldAt (setFldAt s1 ADM_POOL_STAT_OPS_TOKENS p
      (min (fldAt s1 ADM_POOL_STAT_OPS_TOKENS p) (fldAt s1 ADM_POOL_BURST_OPS_BURST p)))
    ADM_POOL_STAT_ACT_TOKENS p (min (fldAt s1 ADM_POOL_STAT_ACT_TOKENS p) (fldAt s1 ADM_POOL_BURST_ACT_BURST p))

/-- POOL_BURST_WRITE (R72). -/
def execPoolBurstWrite (q : Requester) (v : Word) (s : State) : Res :=
  .next (guarded s q 0x12 (poolBurstOp s (indexOf s q ADM_POOL_IDX_INDEX) v))

/-- The enabled pools. -/
def enabledPools (s : State) : List Nat :=
  s.regs.filterMap (fun e =>
    if keyBank e.1 = 0 ∧ keyPage e.1 = 0x12 ∧ keyOff e.1 = 0x820 ∧ bitAt e.2.toNat 0 ∧ keyIdx e.1 < 4096
    then some (keyIdx e.1) else none)

/-- One microsecond's refill of pool p (R72). -/
def refillPool (s : State) (p : Nat) : State :=
  let up := fun (have_ rate burst : Nat) => max have_ (min (have_ + rate) (min burst tokenMax))
  setFldAt (setFldAt s ADM_POOL_STAT_OPS_TOKENS p
      (up (fldAt s ADM_POOL_STAT_OPS_TOKENS p) (fldAt s ADM_POOL_CFG_OPS_RATE p) (fldAt s ADM_POOL_BURST_OPS_BURST p)))
    ADM_POOL_STAT_ACT_TOKENS p
    (up (fldAt s ADM_POOL_STAT_ACT_TOKENS p) (fldAt s ADM_POOL_CFG_ACT_RATE p) (fldAt s ADM_POOL_BURST_ACT_BURST p))

/-- POOL_REFILL (R72): every enabled pool gains one microsecond's RATE, up to its BURST. -/
def execPoolRefill (s : State) : Res := .next (if dataUp s then (enabledPools s).foldl refillPool s else s)

/-! Bins, the reserve, the Plaza. -/

/-- The next bin boundary of the Plaza timebase (R65). -/
def nextBoundary (t : Nat) : Nat := (t / binUnits + 1) * binUnits

/-- BIN_BOUNDARY (R77): time reaches the next 64 ns boundary, and urgencies are recomputed. -/
def execBinBoundary (s : State) : Res :=
  let s1 := pass (nextBoundary s.now - s.now) s
  if !dataUp s then .next s1 else
    let items := s1.adm.items.map (fun it => if it.stage = .plaza then { it with urgency := urgencyOf s1 it.dl } else it)
    let n := ((s1.adm.items.zip items).filter (fun p => decide (p.1.urgency < 3) && decide (p.2.urgency = 3))).length
    .next (bumpBy { s1 with adm := { s1.adm with items := items } } PLZ_URG3_COUNT n)

/-- The controllers follow the oldest change of the reserve in force they have not followed, 66 us after it (R399). -/
def followReserve (s : State) : State :=
  match s.adm.resHist with
  | [] => s
  | e :: rest =>
    let s1 := pass (e.1 + 66 * usUnits - s.now) s
    { s1 with adm := { s1.adm with serviceReserve := e.2, resHist := rest } }

/-- RESERVE_FOLLOW (R399). -/
def execReserveFollow (s : State) : Res := .next (if dataUp s then followReserve s else s)

/-- The head of a queue at an intermediate: a booked line, an internal client's entry or a line of the mirror queue (R76, R77). -/
inductive Head where
  | item (i : Item)
  | entry (e : PlazaEntry)
  | mirror (m : MirrorLine)
  deriving DecidableEq, Repr

def Head.input : Head → Nat
  | .item i => i.input
  | .entry e => e.input
  | .mirror m => m.input
/-- Traffic of inputs 24 to 31 carries urgency 0 (R77). -/
def Head.urgency : Head → Nat
  | .item i => i.urgency
  | .entry _ | .mirror _ => 0

/-- The head of the queue of input i and output k at intermediate j, of what has entered by now. -/
def plazaHead (s : State) (k j i : Nat) : Option Head :=
  let here := fun (st : Stage) (out inter input entered : Nat) =>
    decide (st = .plaza) && decide (out = k) && decide (inter = j) && decide (input = i) && decide (entered ≤ s.now)
  match s.adm.items.find? (fun it => here it.stage it.sub it.inter it.input it.entered) with
  | some it => some (.item it)
  | none =>
    match s.adm.plaza.find? (fun e => here e.stage e.output e.inter e.input e.entered) with
    | some e => some (.entry e)
    | none => (s.psg.mirrorQ.find? (fun m => here m.stage (subOf s m.line) m.inter m.input m.entered)).map Head.mirror

/-- The heads of the queues of intermediate j for output k, by input. -/
def plazaHeads (s : State) (k j : Nat) : List Head := (List.range 32).filterMap (plazaHead s k j)

/-- The head that wins output k: the highest urgency, then the first input at or after the output's pointer (R76). -/
def plazaWinner (s : State) (k j : Nat) : Option Head :=
  leastBy (fun h => (3 - h.urgency) * 32 + (h.input + 32 - nget s.adm.plazaPtr k) % 32) (plazaHeads s k j)

/-- An inbound crossing ends: the longest is recorded, one above 64 Plaza cycles is a fault (R76). -/
def noteTransit (s : State) (entered : Nat) : State :=
  let c := (s.now - entered) / cycleUnits
  let s1 := if fld s PLZ_TRANSIT_MAX_IN < c then setFld s PLZ_TRANSIT_MAX_IN (min 255 c) else s
  if 64 < c then raise s1 (srcNo 0x10 0) else s1

/-- Items that the resequencing buffer of output k releases: no earlier item of the same input and output waits in the Plaza
(R76). -/
def released (s : State) (k : Nat) (it : Item) : Bool :=
  decide (it.sub = k) && decide (it.stage = .reseq) &&
    !s.adm.items.any (fun x => decide (x.stage = .plaza) && decide (x.sub = k) && decide (x.input = it.input) && decide (x.id < it.id))

/-- The subchannel holds the entry or has served it (R78). -/
def duplicate (s : State) (e : PlazaEntry) : Bool :=
  s.adm.served.contains (e.output, e.client, e.seq) ||
    s.adm.plaza.any (fun x => decide (x.stage = .queue) && decide (x.output = e.output) && decide (x.client = e.client) &&
      decide (x.seq = e.seq))

/-- An internal entry reaches its subchannel, which discards a duplicate (R78). -/
def entryArrives (s : State) (e : PlazaEntry) : State :=
  let s1 := noteTransit s e.entered
  if duplicate s e then
    raise (bump { s1 with adm := { s1.adm with plaza := dropFirst e s1.adm.plaza } } PLZ_DUP_DISCARD_COUNT) (srcNo 0x10 3)
  else
    { s1 with adm := { s1.adm with plaza := s1.adm.plaza.map (fun x => if x = e then { x with stage := .queue } else x) } }

/-- The first entry that the resequencing buffer of output k releases: no entry of its input stands before it in the Plaza. -/
def nextReleased (s : State) (k : Nat) : Option PlazaEntry :=
  s.adm.plaza.find? (fun e => decide (e.stage = .reseq) && decide (e.output = k) &&
    !(s.adm.plaza.takeWhile (fun x => x ≠ e)).any (fun x => decide (x.stage = .plaza) && decide (x.output = k) && decide (x.input = e.input)))

/-- Entries leave the resequencing buffer while one may. -/
def releaseEntries : Nat → State → Nat → State
  | 0, s, _ => s
  | n + 1, s, k =>
    match nextReleased s k with
    | none => s
    | some e => releaseEntries n (entryArrives s e) k

/-- The lines of the mirror queue that the resequencing buffer of output k releases, by their place in the queue. -/
def mirrorReleased (s : State) (k : Nat) (m : MirrorLine) (before : List MirrorLine) : Bool :=
  decide (m.stage = .reseq) && decide (subOf s m.line = k) &&
    !before.any (fun x => decide (x.stage = .plaza) && decide (subOf s x.line = k) && decide (x.input = m.input))

/-- Release all that the buffer of output k can (R76). -/
def resequence (s : State) (k : Nat) : State :=
  let out := s.adm.items.filter (released s k)
  let items := s.adm.items.map (fun it => if released s k it then { it with stage := .queue } else it)
  let s1 := { s with adm := { s.adm with items := items } }
  let s2 := out.foldl (fun x it => noteTransit x it.entered) s1
  let s3 := releaseEntries s2.adm.plaza.length s2 k
  let q := s3.psg.mirrorQ.zipIdx
  let free := fun (e : MirrorLine × Nat) => mirrorReleased s3 k e.1 (s3.psg.mirrorQ.take e.2)
  let s4 := { s3 with psg := { s3.psg with mirrorQ := q.map (fun e => if free e then { e.1 with stage := .queue } else e.1) } }
  (q.filter free).foldl (fun x e => noteTransit x e.1.entered) s4

/-- The head leaves its queue for the buffer of its output. -/
def grantHead (s : State) (h : Head) : State :=
  match h with
  | .item it =>
    { s with adm := { s.adm with items := s.adm.items.map (fun x => if x.id = it.id then { x with stage := .reseq } else x) } }
  | .entry e => { s with adm := { s.adm with plaza := s.adm.plaza.map (fun x => if x = e then { x with stage := .reseq } else x) } }
  | .mirror m => { s with psg := { s.psg with mirrorQ := s.psg.mirrorQ.map (fun x => if x = m then { x with stage := .reseq } else x) } }

/-- The first Plaza cycle from now in which intermediate j is connected to output k: (j + t) mod 32 = k (R76). -/
def grantCycle (s : State) (k j : Nat) : Nat :=
  let t := (s.now + cycleUnits - 1) / cycleUnits
  t + (k + 64 - j - t % 32) % 32

/-- PLAZA_GRANT (R76): output k's next slot from intermediate j, in the cycle that connects the two. -/
def execPlazaGrant (output inter : Fin 32) (s : State) : Res :=
  if !dataUp s then .next s else
    let s0 := pass (grantCycle s output.val inter.val * cycleUnits - s.now) s
    match plazaWinner s0 output.val inter.val with
    | none => .next s0
    | some h =>
      let s1 := { s0 with adm := { s0.adm with plazaPtr := nset s0.adm.plazaPtr output.val ((h.input + 1) % 32) } }
      .next (resequence (grantHead s1 h) output.val)

/-- PLAZA_CANCEL (R78): before the grant the entry is removed; after it the line goes out. -/
def execPlazaCancel (client seq : Nat) (s : State) : Res :=
  if !dataUp s then .next s else
    match s.adm.plaza.find? (fun e => decide (e.client = client) && decide (e.seq = seq)) with
    | some e =>
      if e.stage = .plaza then .next (bump { s with adm := { s.adm with plaza := dropFirst e s.adm.plaza } } PLZ_CANCEL_DONE)
      else .next (bump s PLZ_CANCEL_LATE)
    | none => .next (if s.adm.served.any (fun e => decide (e.2 = (client, seq))) then bump s PLZ_CANCEL_LATE else s)

/-! Zoning. -/

/-- The DRAM ranges of two windows overlap. -/
def rangesMeet (a b : Window) : Bool := decide (a.dbase < b.dbase + b.lines) && decide (b.dbase < a.dbase + a.lines)

/-- The check of a commit (R75): 0 passes. Where several causes hold at once the spec gives no order: BAD_RANGE, ALIAS, BAD_WIDTH
(log 57, DESIGN CHOICE). -/
def checkWindow (s : State) (w : Window) : Nat :=
  if !w.valid then 0 else
  if w.limit < w.base ∨ installedLines s < w.dbase + w.lines ∨
      (bitsOf w.perm 5 4 ≠ 0 ∧ (w.base % 4 ≠ 0 ∨ w.dbase % 4 ≠ 0)) then 1 else
  if ((validWindows s).filter (fun k => k ≠ w.idx)).any (fun k => rangesMeet w (windowOf s k)) then 2 else
  if 4 < w.keyW then 4 else 0

/-- Commit four words to window w (R75). While an entry of another window is held STATUS shows the code of this commit: the one field
serves every window, and the spec does not say which of the two it shows (log 57, DESIGN CHOICE). -/
def commitWindow (s : State) (w : Nat) (a b c d : Word) : State :=
  let k := checkWindow s (windowOfWords w a.toNat b.toNat c.toNat d.toNat)
  setFld (if k = 0 then settleCap (setWindow s w a b c d) else s) ZON_WIN_CMD_STATUS k

/-- A requester's staging word (R378). -/
def stagingWord (s : State) (q : Requester) (off : Nat) : Word := getReg s (rkey 0 (reqBank q) 0x11 off)

/-- ZON_WIN_CMD.COMMIT (R75): held while a table load into the window runs. -/
def winCommitOp (s : State) (q : Requester) : State :=
  let w := indexOf s q ZON_WIN_IDX_INDEX
  let a := stagingWord s q 0x808
  let b := stagingWord s q 0x810
  let c := stagingWord s q 0x818
  let d := stagingWord s q 0x820
  if s.mgt.load.any (fun t => t.win = w) then
    setFld { s with mgt := { s.mgt with heldCommit := some (w, a, b, c, d) } } ZON_WIN_CMD_STATUS 3
  else commitWindow s w a b c d

/-- ZON_WIN_CMD.READ (R81). -/
def winReadOp (s : State) (q : Requester) : State :=
  let w := indexOf s q ZON_WIN_IDX_INDEX
  [0x808, 0x810, 0x818, 0x820].foldl (fun x off => setReg x (rkey 0 (reqBank q) 0x11 off) (windowWord s w off)) s

/-- ZON_WIN_COMMIT (R75). -/
def execZonWinCommit (q : Requester) (s : State) : Res := .next (guarded s q 0x11 (winCommitOp s q))
/-- ZON_WIN_READ (R81). -/
def execZonWinRead (q : Requester) (s : State) : Res := .next (guarded s q 0x11 (winReadOp s q))

end Sys2Proof.Machine
end

