-- ==== Sys2Proof/Machine/JoinOps.lean ====
section
/-! DEFINITION. The partner's state as the vault learns it, and the choice of the source in JOIN (R10, R124, R130, R148, R154,
R204 to R206, R216, R361). -/
namespace Sys2Proof.Machine

/-! The generation check (R130, R361). -/

/-- The registry's T and merged G of this vault's square (log 25, DEDUCED). -/
def registryG (s : State) : Nat := ((registryFind s (vaultId s)).map (fun e => e.g.toNat)).getD 0

/-- This vault's generation is older (R130). GEN carries the sender's own G alone, so the partner's record of this vault's G is
the merged G of the registry. -/
def genOlder (s : State) : Bool :=
  let t := fld s PSG_TAKEOVER_T
  s.rst.fromFenced || decide (t < squareT s) || (decide (t = squareT s) && decide (fld s PSG_GEN_OWN_G < registryG s))

/-- The registry wait of R361 is over. -/
def registryReady (s : State) : Bool := (registryFind s Config.partnerId).isSome || s.pwr.regWaited

/-! Leaving JOIN and CULDESAC. -/

/-- RECON sets on leaving DUMP or JOIN whenever the log holds an entry (R216). -/
def settleRecon (s : State) : State := if s.pwr.log.isEmpty then s else setFlag s IMG_RST_STAT_RECON true

/-- On leaving JOIN the log is the one the image holds (R215). -/
def loadLog (s : State) : State := settleRecon { s with pwr := { s.pwr with log := s.img.log } }

/-- The open record of R148 is written before the vault serves, where none is open (log 27, DEDUCED). -/
def ensureOpen (s : State) : State := if fld s IMG_GEN_OPEN_G = 0 then writeOpenRecord s else s

/-- The units that the committed ledger marks DIVERGED join the divergence bitmap (R178, R214). -/
def loadDiverged (s : State) : State :=
  (s.img.committed.filter (fun e => e.2.diverged)).foldl (fun x e => setDiverged x e.1 true) s

/-- The units of ledger pages that cannot be had: their entries of the previous generation, every one marked LOST, and the page to be
written again (R190, R204). -/
def fallbackLedger (s : State) : State :=
  let us := (s.img.badLedger.flatMap (fun k => (List.range 1024).map (fun i => 1024 * k + i))).filter
    (fun u => decide (u < installedUnits s))
  let base := s.img.committed.filter (fun e => !s.img.badLedger.contains (e.1 / 1024))
  let all := us.foldl (fun m u => sput u { sget LedgerEntry.zero s.img.previous u with lost := true } m) base
  let s1 := respan { s with img := { s.img with committed := all } } s.img.badLedger
  let s2 := setFld s1 IMG_LOST_UNITS (lostUnits s1).length
  if us.isEmpty then s2 else raise s2 srcLost

/-- A serving state is entered from JOIN or CULDESAC (R148, R203, R205): open record, the transition, NOTICE SERVE entered, and
the catch-up this vault owes. -/
def enterFresh (s : State) (v : VaultState) : State :=
  let s1 := ensureOpen s
  let s2 := enterServing { s1 with psg := { s1.psg with needEnd := true } } v
  settle (startCatchup s2)

/-- RESTORE is entered from JOIN (R206, R214). -/
def enterRestoreOwn (s : State) : State :=
  let s1 := loadDiverged s
  let s2 := { s1 with dram := { s1.dram with restored := Bitmap.zero }, adm := { s1.adm with served := [] }, img := { s1.img with restoring := [] },
                      pwr := { s1.pwr with demand := [], restoreStart := s1.pod, lostWaitOver := false } }
  enterFresh (setFlag (requestRoutine s2 1 3) IMG_RST_STAT_ACTIVE true) .restore

/-- CULDESAC is entered (R132): the resync is asked for. -/
def enterCuldesac (s : State) : State :=
  let s1 := setFlag (setFld (loadLog s) IMG_RST_STAT_SOURCE 4) IMG_RST_STAT_JOIN_WAITING false
  sendNotice (setFlag (enter s1 .culdesac) PSG_STAT_RESYNC_DST true) 3

/-- What R205 adds by the partner's state before the vault enters: none where the vault waits. A partner in CULDESAC, which R205
does not list, waits for this vault to serve, so the vault enters (log 26, DEDUCED). -/
def beforeEntry (s : State) : Option State :=
  if partnerGone s then some (takeover s)
  else match s.psg.partner with
    | some .serve | some .restore | some .ride | some .culdesac => some s
    | some .boot | some .join => some { s with psg := { s.psg with markDual := true, holdAll := true } }
    | some .dump | some .alley => if s.pwr.joinWaited then some (takeover s) else none
    | _ => none

/-- Enter by row 1, 8 or 9 under R205, or wait with JOIN_WAITING at one in its third row. -/
def enterBy (s : State) (source : Nat) (go : State → State) : State :=
  match beforeEntry s with
  | some s1 => go (setFlag (setFld (loadLog s1) IMG_RST_STAT_SOURCE source) IMG_RST_STAT_JOIN_WAITING false)
  | none => match s.psg.partner with
    | some .dump | some .alley => setFlag s IMG_RST_STAT_JOIN_WAITING true
    | _ => s

/-- Rows 6 and 7 (R204): the own newest image, STALE_RESTORE; where the partner has departed, by takeover (R124). -/
def staleRestore (s : State) : State :=
  let s1 := if partnerGone s then takeover s else s
  let s2 := raise (setFlag (setFld (loadLog s1) IMG_RST_STAT_SOURCE 1) IMG_RST_STAT_STALE true) (srcImg 9)
  if s2.vault = .join then enterRestoreOwn s2 else s2

/-- Row 4 (R204): SERVE with zeroed DRAM. -/
def serveZeroed (s : State) : State :=
  let s1 := { s with dram := { s.dram with cells := [], poison := [] } }
  enterFresh (setFld (loadLog s1) IMG_RST_STAT_SOURCE 0) .serve

/-- The facts a row needs have arrived: the registry wait is over, and the partner's GEN has come where it can (R205, R361). -/
def factsReady (s : State) : Bool :=
  registryReady s && (s.psg.genSeen || partnerAway s || s.psg.partner.isNone)

/-- The partner stands in another roundabout: found so, and not come into this ring's registry since (R10; log 25, DEDUCED). -/
def squareSplit (s : State) : Bool := s.psg.otherRing && (registryFind s Config.partnerId).isNone

/-- The source choice of R204, first row that applies; row 10 stays in JOIN, and so does a vault whose partner stands in another
roundabout, its fault handled or not (R10). -/
def joinDecide (s : State) : State :=
  let br := fld s IMG_STAT_BOOT_RESULT
  if s.vault ≠ .join ∨ !dataUp s ∨ squareSplit s then s
  else if !s.rst.fromFenced && !factsReady s then s
  else if flag s BOOT_STAT_DRAM_KEPT && !genOlder s then
    (if s.psg.genSeen || partnerAway s then enterBy s 3 (fun x => enterFresh x .serve) else s)
  else if genOlder s then enterCuldesac s
  else if (br = 1 ∨ br = 4 ∨ br = 5) ∧ partnerServes s then enterCuldesac s
  else if br = 1 ∧ s.img.fresh ∧ s.psg.partner.isNone ∧ !s.psg.genSeen ∧ !partnerGone s then serveZeroed s
  else if br = 3 ∧ partnerServes s then enterCuldesac s
  else if br = 3 ∧ partnerGone s then staleRestore s
  else if br = 3 ∧ s.psg.partner = some .join ∧ s.psg.genSeen ∧ s.pwr.joinWaited ∧ side s = 0 then staleRestore s
  else if br = 2 ∧ (s.psg.genSeen || partnerAway s) then
    (if s.img.badLedger.isEmpty then enterBy s 1 enterRestoreOwn else enterBy s 2 (fun x => enterRestoreOwn (fallbackLedger x)))
  else s

/-! The partner's state. -/

/-- PSG_STAT.PARTNER (R136). -/
def partnerCode (v : VaultState) : Nat :=
  match v with
  | .serve | .ride | .restore => 2
  | .off | .ship | .fenced | .sealed => 1
  | _ => 3

/-- What a report that the partner has left its service does (R124, R134, R154), by this vault's own state (log 27, DEDUCED). -/
def partnerLost (s : State) (final : Bool) : State :=
  if serving s then takeover s
  else if s.vault = .culdesac ∧ final then raise s (srcPsg 8)
  else s

/-- SCRUB of context 2 pauses while either vault of the square is in RESTORE (R211, R251). -/
def scrubPause (s : State) (old new : Option VaultState) : State :=
  if s.seq.ctx2.routine = 7 ∧ s.seq.ctx2.run ≠ 0 then
    if new = some .restore ∧ old ≠ some .restore then raiseEvent s 2 evPause
    else if old = some .restore ∧ new ≠ some .restore ∧ s.vault ≠ .restore then raiseEvent s 2 evResume else s
  else s

/-- The partner's state as last reported (R124, R204), and what a change of it does. -/
def notePartner (s : State) (v : VaultState) : State :=
  let old := s.psg.partner
  let s1 := setFld { s with psg := { s.psg with partner := some v, partnerDeparted := s.psg.partnerDeparted && partnerCode v = 1 } }
    PSG_STAT_PARTNER (partnerCode v)
  if old = some v then joinDecide s1 else
    let s2 := scrubPause s1 old (some v)
    let s3 := if partnerCode v = 1 then (if s.psg.partnerDeparted then s2 else partnerLost s2 true)
      else if v = .dump then partnerLost s2 false else s2
    settleLost (joinDecide (startCatchup s3))

/-- The ring records the partner's departure (R124, R307). -/
def noteDeparted (s : State) : State :=
  if s.psg.partnerDeparted then s else
    let already := partnerGone s
    let s1 := setFld { s with psg := { s.psg with partnerDeparted := true } } PSG_STAT_PARTNER 1
    settleLost (joinDecide (if already then s1 else partnerLost s1 true))

/-! CULDESAC → SERVE (R132, step 5). -/

/-- The returning vault takes the square's takeover count with the square's content (R130), enters SERVE and says so
(log 25, DEDUCED). -/
def culdesacDone (s : State) : State :=
  if s.vault = .culdesac ∧ !flag s PSG_STAT_RESYNC_DST ∧ fld s PSG_OWN_CMD_STATUS = 2 ∧ s.psg.handshake.isNone then
    let s1 := setFld s PSG_TAKEOVER_T (max (fld s PSG_TAKEOVER_T) (squareT s))
    enterFresh { s1 with rst := { s1.rst with fromFenced := false } } .serve
  else s

end Sys2Proof.Machine
end

