-- ==== Sys2Proof/Machine/RingOps.lean ====
section
/-! DEFINITION. The roundabout ring (R294 to R314): frames in and out, wrap and departure, formation, the registry and pod
time. -/
namespace Sys2Proof.Machine

/-- The sources of the RNG, RNE, RNW, TIME and CEN pages (R327). -/
def srcRng (b : Nat) : Nat := srcNo 0x90 b
def srcPort (p : RingPort) (b : Nat) : Nat := srcNo (match p with | .east => 0x91 | .west => 0x92) b
def srcTime (b : Nat) : Nat := srcNo 0x94 b
def srcCen (b : Nat) : Nat := srcNo 0x93 b

/-! Frames in. -/

/-- What a received frame is to this vault (R297, R299, R300). -/
inductive Arrival where
  | gone | own | dup | mine | pass
  deriving DecidableEq, Repr

/-- The duplicate window of an origin; a new incarnation restarts it (R300). -/
def dupWin (s : State) (f : FrameHdr) : DupWin :=
  match s.ring.dups.find? (fun d => d.origin = f.origin) with
  | some d => if d.incarn = f.incarn then d else { d with incarn := f.incarn, high := 0, seen := [] }
  | none => { origin := f.origin, incarn := f.incarn, high := 0, seen := [] }

/-- A frame already delivered, or 64 or more below the highest (R300). -/
def isDup (s : State) (f : FrameHdr) : Bool :=
  let d := dupWin s f
  d.seen.contains f.seq.toNat || (!d.seen.isEmpty && decide (f.seq.toNat + 64 ≤ d.high))

/-- A frame is delivered: its SEQ joins the window. -/
def noteSeq (s : State) (f : FrameHdr) : State :=
  let d := dupWin s f
  let high := max d.high f.seq.toNat
  let d' := { d with high := high, seen := (f.seq.toNat :: d.seen).filter (fun q => decide (high < q + 64)) }
  let others := s.ring.dups.filter (fun x => x.origin ≠ f.origin)
  { s with ring := { s.ring with dups := others ++ [d'] } }

/-- Deliver, or count a duplicate (R300). -/
def deliverOnce (s : State) (f : FrameHdr) : State × Arrival :=
  if isDup s f then (bump s RNG_DUP_COUNT, .dup) else (noteSeq s f, .mine)

/-- A frame that came folded shows a wrapped ring; an own frame back unfolded shows a closed one (R306). -/
def noteFold (s : State) (f : FrameHdr) (own : Bool) : State :=
  if f.wrapped then { s with ring := { s.ring with folded := true } }
  else if own then { s with ring := { s.ring with folded := false } } else s

/-- The frame comes in at port p (R297 to R300). Link-local frames are never forwarded; the origin removes its own frame as it
arrives at the West port, and at the East port where the West port folds it back. -/
def arrives (s : State) (p : RingPort) (f : FrameHdr) (link : Bool) : State × Arrival :=
  if !ringOn s || !flag s (portFld p RNE_CTL_ENABLE) || !portLink s p then (s, .gone) else
    let s1 := bump s (portFld p RNE_FRAMES_RX)
    let dis := bump s1 RNG_DISCARD_COUNT
    if !f.fcsOk then (raise (bump dis (portFld p RNE_FCS_COUNT)) (srcPort p 2), .gone)
    else if f.etype.toNat ≠ fld s RNG_CTL_ETYPE ∨ f.podId.toNat ≠ fld s RNG_CTL_POD_ID then (raise dis (srcRng 3), .gone)
    else if 8192 ≤ f.hops.toNat then (dis, .gone)
    else
      let own := decide (f.origin = vaultId s)
      if link then (if own then (s1, .mine) else deliverOnce s1 f)
      else if own then
        if p = .west ∨ portWrapped s .west then (noteFold s1 f true, .own) else (noteFold s1 f false, .pass)
      else if f.dest ≠ 0 ∧ f.dest ≠ vaultId s then (noteFold s1 f false, .pass)
      else deliverOnce (noteFold s1 f false) f

/-- Forward a frame that came in at port p (R299, R306). -/
def forward (s : State) (p : RingPort) (typ : Nat) (f : FrameHdr) (b : RingBody) : State :=
  ringOut s (otherPort p) typ { f with hops := f.hops + 1 } b

/-- Forward a frame to all; one addressed to this vault ends here (R299). -/
def forwardAll (s : State) (p : RingPort) (typ : Nat) (f : FrameHdr) (b : RingBody) : State :=
  if f.dest = 0 then forward s p typ f b else s

/-- A frame that travels: delivered and forwarded as R299 and R300 say, with what its delivery does. -/
def frameIn (s : State) (p : RingPort) (typ : Nat) (f : FrameHdr) (b : RingBody) (deliver : State → State) : State :=
  match arrives s p f false with
  | (s1, .mine) => deliver (forwardAll s1 p typ f b)
  | (s1, .dup) => forwardAll s1 p typ f b
  | (s1, .pass) => forward s1 p typ f b
  | (s1, _) => s1

/-- A link-local frame (R299). -/
def linkIn (s : State) (p : RingPort) (f : FrameHdr) (deliver : State → State) : State :=
  match arrives s p f true with
  | (s1, .mine) => deliver s1
  | (s1, _) => s1

/-! Topology. -/

/-- HOPs of the parked vaults the registry knows. -/
def parkedHops (s : State) : List Nat :=
  (s.ring.registry.filter (fun e => e.state = 7 ∧ !bitAt e.flags.toNat 0)).map (fun e => e.hop.toNat)

/-- Parked spans: runs of neighbouring HOPs (R308). -/
def parkedSpans (s : State) : Nat :=
  let hops := parkedHops s
  let n := 1 + (s.ring.registry.map (fun e => e.hop.toNat)).foldl max 0
  (hops.filter (fun h => !hops.contains ((h + n - 1) % n))).length

/-- No parked vault lies between this vault and the ring master, on one side at least (R308). -/
def masterInArc (s : State) : Bool :=
  let hops := parkedHops s
  let k := fld s RNG_STAT_HOP
  hops.all (fun h => decide (k < h)) || hops.all (fun h => decide (h < k))

/-- RNG_STAT.TOPO (R328): 0 disabled, 1 forming, 2 closed, 3 wrapped, 4 arcs, 5 solitary (log 36, DEDUCED). -/
def topoNow (s : State) : Nat :=
  if !flag s RNG_CTL_ENABLE then 0
  else if !s.ring.formed then 1
  else if fld s RNG_STAT_MEMBERS = 1 then 5
  else if 2 ≤ parkedSpans s then 4
  else if portWrapped s .east || portWrapped s .west || s.ring.folded then 3 else 2

/-- TOPO and TIME_STAT.WIDE follow; ARCS at the onset of arcs (R308, R314). -/
def settleTopo (s : State) : State :=
  let t := topoNow s
  let s1 := setFlag (setFld s RNG_STAT_TOPO t) TIME_STAT_WIDE (decide (t = 3) || decide (t = 4))
  if t = 4 ∧ fld s RNG_STAT_TOPO ≠ 4 then raise s1 (srcRng 2) else s1

/-- This vault is solitary (R304). -/
def solitary (s : State) : Bool := decide (fld s RNG_STAT_TOPO = 5)

/-! Formation (R302 to R305). -/

/-- The ring is no longer formed for this vault. -/
def unform (s : State) : State :=
  let s1 := setFld (setFlag (setFld s RNG_STAT_MEMBERS 0) RNG_STAT_MASTER false) RNG_MASTER_ID 0
  settleTopo { s1 with ring := { s1.ring with formed := false, phase := 0 } }

/-- Publish the kept entry of the partner with PROXY set (R310). -/
def publishPartner (s : State) : State :=
  match s.ring.keptPartner with
  | none => s
  | some e =>
    let e' := { e with flags := e.flags ||| 8 }
    ringSend (mergeIntoRegistry s e') 0x20 0 (.reg e')

/-- The vault belongs to a formed ring: it publishes (R303, R310). -/
def formedNow (s : State) (many : Bool) : State :=
  let r := s.ring
  let s1 := settleTopo { s with ring := { r with formed := true, phase := 0, ownSince := [], losts := [],
                                                  member := r.member || many } }
  joinDecide (publishPartner (publish s1))

/-- Master of itself alone (R304). -/
def becomeSolitary (s : State) : State :=
  let s1 := setFld (setFlag (setFld (setFld s RNG_STAT_MEMBERS 1) RNG_STAT_HOP 0) RNG_STAT_MASTER true)
    RNG_MASTER_ID (vaultId s).toNat
  raise (formedNow s1 false) (srcRng 1)

/-- A vault that belongs to no ring sends DISCOVER (R302). With both ports wrapped its token comes back at once, with
COUNT 1. -/
def sendDiscover (s : State) : State :=
  if !ringOn s || decide (s.vault = .alley) then s else
    let s1 := unform s
    if portWrapped s .east && portWrapped s .west then becomeSolitary s1
    else
      let s2 := { s1 with ring := { s1.ring with phase := 1, lapAt := s1.now } }
      ringSend s2 0x10 0 (.nums [(vaultId s).toNat, 1])

/-- An own token is back: the lap's duration (R328). -/
def noteLap (s : State) (ns : Nat) : State :=
  let n := min (2 ^ 32 - 1) ns
  setFld (setFld s RNG_LAP_LAST n) RNG_LAP_MAX (max n (fld s RNG_LAP_MAX))
def tokenBack (s : State) : State := noteLap s ((s.now - s.ring.lapAt) / nsUnits)

/-- ELECT with N members (R303). -/
def sendElect (s : State) (n : Nat) : State :=
  let s1 := { s with ring := { s.ring with phase := 2, lapAt := s.now } }
  ringSend s1 0x11 0 (.nums [(vaultId s).toNat, n, 0])

/-- A port event: the ladder of R303 restarts at step 4, the wait and the memory of forwarded tokens start anew; a solitary
vault may send DISCOVER again (R302, R304). -/
def portEvent (s : State) (p : RingPort) : State :=
  let s1 := setFlag s (portFld p RNE_STAT_STABLE) false
  let s2 := { s1 with ring := { s1.ring with wait := 15, fwdLowest := none,
                                              phase := if s1.ring.formed then s1.ring.phase else 0 } }
  if solitary s then unform s2 else s2

/-! Departure (R307). -/

/-- A member is recorded as departed: its entry, the partner's part (R124), and the election of a new master (R305). -/
def departed (s : State) (id : Word) : State :=
  let was := (registryFind s id).any (fun e => bitAt e.flags.toNat 0)
  if was then s else
    let reg := s.ring.registry.map (fun e => if e.vaultId = id then { e with flags := e.flags ||| 1 } else e)
    let s1 := { s with ring := { s.ring with registry := reg } }
    let s2 := if id = Config.partnerId then publishPartner (noteDeparted s1) else s1
    if s2.ring.formed ∧ id ≠ vaultId s ∧ id.toNat = fld s2 RNG_MASTER_ID then
      sendDiscover { s2 with ring := { s2.ring with wait := 15 } }
    else s2

/-- A LOST report; reports from both sides make a departure (R307). -/
def noteLost (s : State) (id : Word) (east : Bool) : State :=
  let l := if s.ring.losts.contains (id, east) then s.ring.losts else s.ring.losts ++ [(id, east)]
  if l.contains (id, true) && l.contains (id, false) then
    departed { s with ring := { s.ring with losts := l.filter (fun x => x.1 ≠ id) } } id
  else { s with ring := { s.ring with losts := l } }

/-- LOST naming the former neighbour of port p; this vault stands on its West side where p is East (R307). -/
def sendLost (s : State) (p : RingPort) : State :=
  let id := (portSt s p).former
  if id = 0 then s else noteLost (ringSend s 0x14 0 (.nums [id.toNat, b2n (decide (p = .west))])) id (decide (p = .west))

/-! Wrap (R306). -/

/-- A port wraps; `own` for a cause of this vault's own. -/
def wrapPort (s : State) (p : RingPort) (own : Bool) : State :=
  let x := portSt s p
  let s0 := if own then setPortSt s p { x with ownWrap := true } else s
  if portWrapped s p then s0 else
    let s1 := portEvent (setFlag s0 (portFld p RNE_STAT_WRAPPED) true) p
    sendLost (settleTopo (raise s1 (srcRng 0))) p

/-- The neighbour of port p is parked: the port counts as wrapped between rendezvous (R308; log 36, DEDUCED). -/
def parkPort (s : State) (p : RingPort) : State :=
  let s1 := setFlag s (portFld p RNE_STAT_NEIGH_PARKED) true
  if portWrapped s p then s1 else settleTopo (portEvent (setFlag s1 (portFld p RNE_STAT_WRAPPED) true) p)

/-- A port unwraps (R306). -/
def unwrapPort (s : State) (p : RingPort) : State :=
  let x := portSt s p
  let clean := x.helloSeen && x.neighFwdOk && !x.neighWrap && portLink s p && !flag s (portFld p RNE_CTL_WRAP_FORCE) &&
    !flag s (portFld p RNE_STAT_NEIGH_PARKED) && !flag s (portFld p RNE_STAT_LOS)
  if ringOn s && portWrapped s p && clean then
    let s1 := setPortSt s p { x with ownWrap := false }
    settleTopo (portEvent (setFlag s1 (portFld p RNE_STAT_WRAPPED) false) p)
  else s

/-! The registry (R309 to R311). -/

/-- A neighbour that the registry shows parked (R308). -/
def settlePark (s : State) (p : RingPort) : State :=
  let parked := (registryFind s (BitVec.ofNat 64 (fld s (portFld p RNE_NEIGH_ID)))).any (fun e => e.state = 7)
  if parked && decide (s.vault ≠ .alley) && !flag s (portFld p RNE_STAT_NEIGH_PARKED) then parkPort s p else s

/-- An arc without the ring master elects one of its own (R308). -/
def settleArcs (s : State) : State :=
  let s1 := settleTopo s
  if fld s1 RNG_STAT_TOPO = 4 ∧ fld s RNG_STAT_TOPO ≠ 4 ∧ !masterInArc s1 then sendDiscover s1 else s1

/-- Members present in the registry. -/
def presentMembers (s : State) : Nat := (s.ring.registry.filter (fun e => !bitAt e.flags.toNat 0)).length

/-- The ring master numbers the ring anew for a newcomer (R305). -/
def renumber (s : State) : State :=
  if s.ring.formed ∧ s.vault ≠ .alley ∧ flag s RNG_STAT_MASTER ∧ s.ring.phase = 0 ∧ fld s RNG_STAT_MEMBERS < presentMembers s then
    sendElect s (presentMembers s)
  else s

/-- A registry entry that came over the ring (R310), and what it tells of the partner, of departures and of parked vaults. -/
def mergeIn (s : State) (e : RegEntry) : State :=
  let proxy := bitAt e.flags.toNat 3
  let had := s.ring.ownSince.contains e.vaultId
  let s1 := mergeIntoRegistry s e
  if e.vaultId = vaultId s then s1 else
    let s2 := if e.vaultId = Config.partnerId then
        let s' := { s1 with ring := { s1.ring with keptPartner := registryFind s1 e.vaultId } }
        if proxy && (had || s'.psg.partnerDeparted) then joinDecide s' else
          match codeState e.state.toNat with
          | some v => notePartner s' v
          | none => s'
      else s1
    let s3 := if !proxy && (decide (e.state = 10) || decide (e.state = 11)) then departed s2 e.vaultId else s2
    renumber (settleArcs (settlePark (settlePark s3 .east) .west))

/-- The entries this vault holds for a joiner's square go to it from its West neighbour (R361). -/
def sendSquare (s : State) (id : Word) : State :=
  (s.ring.registry.filter (fun e => e.vaultId = id ∨ e.partnerId = id)).foldl
    (fun x e => ringSend x 0x20 id (.reg { e with flags := e.flags ||| 8 })) s

/-! HELLO (R298, R305, R306, R308). -/

/-- What a HELLO names: a ring to join, or another vault for a solitary one (R304, R305). -/
def helloRing (s : State) (p : RingPort) (id : Word) (b : HelloBody) (first : Bool) : State :=
  if !s.ring.formed ∧ b.master ≠ 0 ∧ !portWrapped s p then
    formedNow (setFlag (setFld s RNG_MASTER_ID b.master.toNat) RNG_STAT_MASTER false) true
  else if solitary s ∧ id ≠ vaultId s then
    let s1 := unform s
    if flag s RNE_STAT_STABLE && flag s (portFld .west RNE_STAT_STABLE) then sendDiscover s1 else s1
  else if first ∧ p = .east ∧ s.ring.formed ∧ !solitary s then sendSquare s id
  else s

/-- A HELLO is delivered. -/
def helloIn (s : State) (p : RingPort) (id : Word) (b : HelloBody) : State :=
  let x := portSt s p
  let s1 := setFld s (portFld p RNE_NEIGH_ID) id.toNat
  let s2 := setPortSt s1 p { x with helloSeen := true, neighFwdOk := b.fwdOk, neighWrap := b.wrappedPort,
                                    neighMaster := b.master, former := id }
  let s3 := if x.former ≠ 0 ∧ x.former ≠ id then
      let s' := ringSend s2 0x14 0 (.nums [x.former.toNat, b2n (decide (p = .west))])
      noteLost s' x.former (decide (p = .west))
    else s2
  let s4 := if b.state = 7 then parkPort s3 p else setFlag s3 (portFld p RNE_STAT_NEIGH_PARKED) false
  let s5 := if !b.fwdOk || b.wrappedPort then wrapPort s4 p false else s4
  helloRing s5 p id b (!x.helloSeen)

/-- HELLO and PDELAY_REQ leave (R298): the forwarding path of a running ring block passes its test frames (R306;
log 36, DEDUCED). -/
def helloOut (s : State) (p : RingPort) : State :=
  if ringOn s && decide (s.vault ≠ .alley) && flag s (portFld p RNE_CTL_ENABLE) then
    let b : HelloBody :=
      { state := BitVec.ofNat 4 (stateCode s.vault), master := BitVec.ofNat 64 (fld s RNG_MASTER_ID),
        wrappedPort := (portSt s p).ownWrap, fwdOk := true,
        neighParked := flag s RNE_STAT_NEIGH_PARKED || flag s (portFld .west RNE_STAT_NEIGH_PARKED) }
    linkSend (linkSend s p 1 (.hello b)) p 2 (.nums [podNs s])
  else s

/-! Pod time (R312 to R314). -/

/-- Pod time in ps. -/
def podPs (s : State) : Int := (s.pod : Int) * 1000 / 48

/-- Pod time steps by e ps. -/
def steerPod (s : State) (e : Int) : State :=
  { s with pod := ((s.pod : Int) + e * 48 / 1000).toNat, ring := { s.ring with slewLeft := 0, slewAcc := 0 } }

/-- Pod time is to slew by e ps (R314). -/
def slewPod (s : State) (e : Int) : State := { s with ring := { s.ring with slewLeft := e * 48 / 1000, slewAcc := 0 } }

/-- One measured link delay (R313, step 1): MEAN is the average of the last PDELAY_AVG of them. -/
def noteDelay (s : State) (p : RingPort) (d : Int) : State :=
  let x := portSt s p
  let l := (d :: x.delays).take (max 1 (fld s TIME_CFG_PDELAY_AVG))
  let mean := l.foldl (· + ·) 0 / (l.length : Int)
  setFld (setPortSt s p { x with delays := l }) (portFld p RNE_DELAY_MEAN) (ofSigned 32 mean)

/-- A correction (R314): slewed up to STEP_NS, beyond it stepped with a fault; the first SYNC after JOIN steps without one. -/
def correctPod (s : State) (e : Int) : State :=
  let s1 := setFld s TIME_OFFSET_PS (ofSigned 32 e)
  if s.ring.firstSync then steerPod s1 e
  else if e.natAbs ≤ fld s TIME_CFG_STEP_NS * 1000 then slewPod s1 e
  else raise (steerPod s1 e) (srcTime 1)

/-- The SYNC that a vault follows (R313, step 3); the first after JOIN gives the Census number (R315). -/
def followSync (s : State) (p : RingPort) (b : SyncBody) : State :=
  if flag s RNG_STAT_MASTER then s else
    let d : Int := toSigned 32 (fld s (portFld p RNE_DELAY_MEAN))
    let k := fld s RNG_STAT_HOP
    let share : Int := if b.n = 0 then 0 else (k : Int) * b.closure / (b.n.toNat : Int)
    let e := (b.t0.toNat : Int) * 1000 + b.corr + d - share - podPs s
    let s1 := setFld (correctPod s e) TIME_STAT_CLOSURE (ofSigned 32 b.closure)
    let s2 := if s.ring.firstSync && decide (s.vault = .join) then
        setFld (setFld s1 CEN_STAT_NUMBER b.census.toNat) CEN_STAT_EPOCH (b.census.toNat % 4)
      else s1
    let s3 := setFlag (setFlag s2 TIME_STAT_LOCKED true) TIME_STAT_HOLDOVER false
    { s3 with ring := { s3.ring with firstSync := false, ageHops := k, syncAt := s3.now } }

/-- The payload of a forwarded SYNC: link delay and residence join the correction. -/
def syncOn (s : State) (p : RingPort) (b : SyncBody) : RingBody :=
  let d : Int := toSigned 32 (fld s (portFld p RNE_DELAY_MEAN))
  .nums [b.t0.toNat, b.corr + d + b.residence, b.closure, b.n.toNat, b.census.toNat]

/-- The SYNC came back to the master (R313, step 4). -/
def syncBack (s : State) (p : RingPort) (b : SyncBody) : State :=
  let d : Int := toSigned 32 (fld s (portFld p RNE_DELAY_MEAN))
  let e := (b.t0.toNat : Int) * 1000 + b.corr + d - podPs s
  let lap := podNs s - b.t0.toNat
  setFld (noteLap s lap) TIME_STAT_CLOSURE (ofSigned 32 e)

/-- The ring master sends SYNC (R313, step 2). -/
def syncOut (s : State) : State :=
  if ringOn s && s.ring.formed && flag s RNG_STAT_MASTER && !solitary s then
    ringSend s 4 0 (.nums [podNs s, 0, toSigned 32 (fld s TIME_STAT_CLOSURE), fld s RNG_STAT_MEMBERS, fld s CEN_STAT_NUMBER])
  else s

/-- The time age of R323: hops plus nanoseconds since the last SYNC (log 16, DEDUCED). -/
def timeAge (s : State) : Nat := s.ring.ageHops + (s.now - s.ring.syncAt) / nsUnits

end Sys2Proof.Machine
end

