-- ==== Sys2Proof/Machine/ResetOps.lean ====
section
/-! DEFINITION. What each reset kind clears and keeps (R352 to R354), the entries to BOOT, and the loss of domain 25. -/
namespace Sys2Proof.Machine

/-- The reset kinds: R354's three vault resets, and the return from ALLEY, which R352 does not list (log 17, DEDUCED). -/
inductive ResetKind where
  | powerUp | warm | fenced | alley
  deriving DecidableEq, Repr

/-- RNE_STAT and RNW_STAT. -/
def portStatKey (key : Nat) : Bool :=
  (decide (keyPage key = 0x91) || decide (keyPage key = 0x92)) && decide (keyOff key = 0x108)

/-- A register that a reset leaves as it is (R354). The DRP rows keep the delays and, in DRP_STAT, the TRAINED bits. -/
def keptKey (k : ResetKind) (key : Nat) : Bool :=
  let page := keyPage key
  let off := keyOff key
  let dom25 := pageDomain25 page || decide (page = 0x05) || (decide (page = 0x88) && decide (off = 0x150))
  let drc := decide (0x20 ≤ page) && decide (page ≤ 0x23) && decide (0x110 ≤ off) && decide (off ≤ 0x138)
  let drp := decide (0x40 ≤ page) && decide (page ≤ 0x5F) && (decide (off = 0x808) || decide (off = 0x108))
  decide (off ≠ 0x050) && (match k with
    | .powerUp => false
    | .warm => dom25 || drc || drp
    | .fenced => dom25
    | .alley => dom25 || portStatKey key)

/-- DRP_STAT keeps its TRAINED bits alone; RNE_STAT and RNW_STAT the flag of a parked neighbour (R308), whose port counts as
wrapped. -/
def keptValue (e : Nat × Word) : Nat × Word :=
  if 0x40 ≤ keyPage e.1 ∧ keyPage e.1 ≤ 0x5F ∧ keyOff e.1 = 0x108 then (e.1, e.2 &&& 6)
  else if portStatKey e.1 then (e.1, if bitAt e.2.toNat 7 then 0xC0 else 0)
  else e

/-- The registers after a reset. -/
def resetRegs (k : ResetKind) (m : Sparse Word) : Sparse Word :=
  ((m.filter (fun e => keptKey k e.1)).map keptValue).filter (fun e => e.2 ≠ resetWord e.1)

/-- What stands on the flash devices survives every reset (R354); the rest of the image's state is rebuilt by the boot scan. -/
def persistImage (i : ImageSt) : ImageSt :=
  { ImageSt.reset with fresh := i.fresh, pages := i.pages, anchors := i.anchors, anchorNext := i.anchorNext, erases := i.erases,
                       held := i.held, erasing := i.erasing, retired := i.retired, remap := i.remap, intent := i.intent }

/-- The code flash with its option and key areas survives (R354). -/
def persistMgt (m : MgtSt) : MgtSt :=
  { MgtSt.reset with flash := m.flash, dubious := m.dubious, next := m.next, trial := m.trial, level := m.level,
                     keyArea := m.keyArea, imageSlot := m.imageSlot, op := m.op, suspended := m.suspended }

/-- The DRAM after a reset: kept by a warm reset, its rows closed and its bitmap as `bitmap` says (R354, R358). The lines
still filled by a Census hold the poison pattern. -/
def resetDram (k : ResetKind) (d : DramSt) (bitmap : Bool) : DramSt :=
  match k with
  | .warm =>
    { DramSt.reset with cells := d.cells, poison := d.capture.foldl (fun p l => lins l p) d.poison,
                        dirty := if bitmap then d.dirty else Bitmap.zero }
  | _ => DramSt.reset

/-- Domain 25's part of the power watch: the onsets it has reported, and the last commit (R354). -/
def resetPower (k : ResetKind) (p : PowerSt) : PowerSt :=
  if k = .powerUp then PowerSt.reset else
    { PowerSt.reset with unproven := p.unproven, noReserve := p.noReserve, noPack := p.noPack, lastCommit := p.lastCommit,
                              lastGen := p.lastGen }

/-- The ring block's part: domain 25 keeps the own and the partner's entry (R310, R354). -/
def resetRing (k : ResetKind) (r : RingSt) : RingSt :=
  if k = .powerUp then RingSt.reset else { RingSt.reset with keptOwn := r.keptOwn, keptPartner := r.keptPartner }

/-- Every block outside domain 25 and the kept rows starts anew (R354). -/
def resetBlocks (s : State) (k : ResetKind) (bitmap : Bool) : State :=
  let banks := k = .warm ∨ k = .fenced
  { s with regs := resetRegs k s.regs,
           adm := AdmSt.reset,
           dram := resetDram k s.dram bitmap,
           links := [],
           psg := PsgSt.reset,
           pwr := resetPower k s.pwr,
           img := persistImage s.img,
           packA := if k = .powerUp then PackSt.none_ else s.packA,
           packB := if k = .powerUp then PackSt.none_ else s.packB,
           seq := { SeqSt.reset with bankA := if banks then s.seq.bankA else [], bankB := if banks then s.seq.bankB else [] },
           mgt := persistMgt s.mgt,
           ring := resetRing k s.ring,
           cen := CenSt.reset,
           flt := if k = .powerUp then FltSt.reset else s.flt,
           snaps := [],
           pod := if k = .powerUp then 0 else s.pod }

/-- Every PLL locks in step 2 of R359 (log 51, DEDUCED). -/
def lockPlls (s : State) : State :=
  let s1 := setFlag (setFlag (setFlag s CLK_STAT_RING true) CLK_STAT_PCIE true) CLK_STAT_MGT true
  setFlag (setFlag (setFld (setFld s1 CLK_STAT_ARCADE 15) CLK_STAT_QUAD 15) CLK_STAT_SERDES_TX true) CLK_STAT_CORE true

/-- MGT_STAT.CAUSE and BOOT_STAT.LAST_KIND (R352). -/
def kindCause : ResetKind → Nat
  | .powerUp | .alley => 0
  | .warm | .fenced => 3
def kindCode : ResetKind → Nat
  | .powerUp | .alley => 0
  | .warm => 1
  | .fenced => 2

/-- An XTAL event that waited for domain 20 is raised once it runs (R397). -/
def raiseHeldXtal (s : State) : State :=
  if s.rst.xtalHeld then raise { s with rst := { s.rst with xtalHeld := false } } (srcNo 0x01 5) else s

/-- The vault is in BOOT after a reset: step 1 and 2 of R359, and the core's start. -/
def startBoot (s : State) (k : ResetKind) : State :=
  let s1 := setFld s BOOT_STAT_LAST_KIND (kindCode k)
  let s2 := { s1 with rst := { s1.rst with fencedReq := false, raising := false, retry := false, drain := none,
                                            fromFenced := decide (k = .fenced), bootAt := s1.now } }
  let p := coreStart (lockPlls s2) (kindCause k)
  raiseHeldXtal (raiseAll p.1 p.2)

/-- BOOT is entered by a reset (R352, R355, R390): the transition, whose publication still leaves, then what the reset clears. -/
def bootBy (s : State) (k : ResetKind) (bitmap : Bool) : State :=
  let s1 := if s.vault = .boot then s else setVault s .boot
  startBoot (resetBlocks s1 k bitmap) k

/-- Domain 25 loses its supply (R14, R238, R390): everything but what the flash devices hold is gone (log 41, DEDUCED). -/
def supplyLost (s : State) (v : VaultState) : State :=
  let low : Pins :=
    { kerbHold := false, mainIsoN := true, bkupEn := false, pakEnA := false, pakEnB := false, pakLearnA := false,
      pakLearnB := false, enMr := false, enPcie := false, enCore := false, enDram := false, enFlash := false,
      pgMr := false, pgPcie := false, pgCore := false, pgDram := false, pgFlash := false }
  let s1 := resetBlocks s .powerUp false
  { s1 with vault := v, pins := low, rst := { ResetSt.reset with ao := false } }

/-- Every enable is low (R391). -/
def dropEnables (p : Pins) : Pins :=
  { p with enMr := false, enPcie := false, enCore := false, enDram := false, enFlash := false,
           pgMr := false, pgPcie := false, pgCore := false, pgDram := false, pgFlash := false }

/-- The logic rails fall (R14, R19, R391): FENCED and SEALED go to OFF; elsewhere the logic fails in place, KERB_HOLD is
released and nothing is served. -/
def logicFall (s : State) : State :=
  match s.vault with
  | .off | .ship => s
  | .fenced | .sealed =>
    let s1 := setVault s .off
    { s1 with pins := dropEnables s1.pins, rst := { s1.rst with offLatched := true, fencedReq := false } }
  | _ =>
    let s1 := dropWork (setFlag s PWR_STAT_LOGIC_FAIL true)
    { s1 with pins := { s1.pins with kerbHold := false } }

/-- The next enables of R390, once the PG of the step before is high. -/
def raiseNext (p : Pins) : Pins :=
  let core := p.enCore || (p.pgMr && p.pgPcie)
  let last := p.pgCore
  { p with enCore := core, enDram := p.enDram || last, enFlash := p.enFlash || last }

/-- Enables rise outside the states that hold them: a power-up, a fenced reset, a return from ALLEY (R390). -/
def sequencing (s : State) : Bool :=
  ((decide (s.vault = .off) || decide (s.vault = .ship)) && s.rst.ao && !s.rst.offLatched) || s.rst.fencedReq || s.rst.raising

/-- Every enable is high. -/
def Pins.allEnabled (p : Pins) : Bool := p.enMr && p.enPcie && p.enCore && p.enDram && p.enFlash

/-- A PG pin and its enable. -/
def pgEnabled (p : Pins) : PgPin → Bool
  | .mr => p.enMr | .pcie => p.enPcie | .core => p.enCore | .dram => p.enDram | .flash => p.enFlash
def pgHigh (p : Pins) : PgPin → Bool
  | .mr => p.pgMr | .pcie => p.pgPcie | .core => p.pgCore | .dram => p.pgDram | .flash => p.pgFlash
def setPg (p : Pins) (g : PgPin) (v : Bool) : Pins :=
  match g with
  | .mr => { p with pgMr := v } | .pcie => { p with pgPcie := v } | .core => { p with pgCore := v }
  | .dram => { p with pgDram := v } | .flash => { p with pgFlash := v }

end Sys2Proof.Machine
end

