-- ==== Sys2Proof/Machine/PackOps.lean ====
section
/-! DEFINITION. The energy packs (R220 to R241, R401): the model's tables, the estimator, the count, charging and learning. -/
namespace Sys2Proof.Machine

def srcPak (p : PackId) (b : Nat) : Nat := srcNo (match p with | .a => 0x09 | .b => 0x0A) b
def srcMeas (b : Nat) : Nat := srcNo 0x0B b
def otherPack : PackId → PackId
  | .a => .b
  | .b => .a

/-! The pack model (R221). -/

/-- Open-circuit voltage of point k, mV. -/
def ocvPoint (s : State) (k : Nat) : Rat := (fldAt s MEAS_OCV_MV k : Nat)

/-- The points rise strictly (R401). -/
def ocvRises (s : State) : Bool := (List.range 10).all (fun k => decide (fldAt s MEAS_OCV_MV k < fldAt s MEAS_OCV_MV (k + 1)))

/-- OCV at state of charge x, mV: linear between the points. -/
def ocvAt (s : State) (x : Rat) : Rat :=
  let y := max 0 (min 1 x) * 10
  let k := min 9 y.floor.toNat
  ocvPoint s k + (ocvPoint s (k + 1) - ocvPoint s k) * (y - (k : Rat))

/-- ocv_inverse of v mV; beyond the end points the end values hold. -/
def ocvInv (s : State) (v : Rat) : Rat :=
  if v ≤ ocvPoint s 0 then 0
  else match (List.range 10).find? (fun k => decide (v ≤ ocvPoint s (k + 1))) with
    | none => 1
    | some k => ((k : Rat) + (v - ocvPoint s k) / (ocvPoint s (k + 1) - ocvPoint s k)) / 10

/-- The integral of OCV over the state of charge from a to b, mV (R226). -/
def ocvArea (s : State) (a b : Rat) : Rat :=
  (List.range 10).foldl (fun (acc : Rat) (k : Nat) =>
    let lo := max a ((k : Rat) / 10)
    let hi := min b (((k : Rat) + 1) / 10)
    if lo < hi then acc + (ocvAt s lo + ocvAt s hi) / 2 * (hi - lo) else acc) 0

/-- Temperature of point k, degrees C, and its impedance scale (R221). -/
def tsTemp (s : State) (k : Nat) : Rat := (toSigned 8 (fldAt s MEAS_TS_TEMP k) : Int)
def tsScale (s : State) (k : Nat) : Rat := (fldAt s MEAS_TS_SCALE k : Nat)

/-- scale(t) for t in 1/16 degree C. -/
def tempScale (s : State) (t : Int) : Rat :=
  let x : Rat := (t : Rat) / 16
  if x ≤ tsTemp s 0 then tsScale s 0 / 64
  else match (List.range 4).find? (fun k => decide (x ≤ tsTemp s (k + 1))) with
    | none => tsScale s 4 / 64
    | some k => (tsScale s k + (tsScale s (k + 1) - tsScale s k) * (x - tsTemp s k) / (tsTemp s (k + 1) - tsTemp s k)) / 64

/-- Impedance z of a pack at t, in 0.1 mOhm (R224). -/
def packZ (s : State) (p : PackId) (t : Int) : Rat := (fld s (pakF p PAK_IMP_Z25) : Nat) * tempScale s t

/-- A temperature in 1/16 degree C lies within two fields of MEAS_TEMP. -/
def tempWithin (s : State) (lo hi : Fld) (t : Int) : Bool :=
  decide (toSigned 8 (fld s lo) * 16 ≤ t) && decide (t ≤ toSigned 8 (fld s hi) * 16)

/-- A signed exact value in a register (log 7, DESIGN CHOICE). -/
def roundSigned (r : Rat) : Int := if r < 0 then -(Config.roundReg (-r) : Int) else (Config.roundReg r : Int)

/-! The count (R227). -/

/-- The pack's authentication has passed; a re-authentication that runs leaves it so (R234). -/
def authPassed (s : State) (p : PackId) : Bool :=
  let a := fld s (pakF p PAK_STAT_AUTH)
  decide (a = 2) || (decide (a = 1) && decide ((getPack s p).authBefore = 2))

/-- The conditions of R227 beside joining; the adc and table conditions are R239's and R401's (log 39, DEDUCED). -/
def countable (s : State) (p : PackId) : Bool :=
  let x := getPack s p
  let ph := fld s (pakF p PAK_STAT_LEARN)
  x.present && flag s (pakF p PAK_CTL_ENABLE) && authPassed s p && (decide (ph = 0) || decide (ph = 4)) &&
    tempWithin s MEAS_TEMP_DIS_LO MEAS_TEMP_DIS_HI x.lastT && !x.adcBad && ocvRises s

/-- e_pack alone meets the PROVEN condition (R145, R227). -/
def aloneProven (s : State) (p : PackId) : Bool :=
  decide (((eFixNj s + eRideNj s + installedUnits s * fld s PWR_ENERGY_E_UNIT : Nat) : Rat) ≤ (getPack s p).ePack * 1000000)

def setCounted (s : State) (p : PackId) (v : Bool) : State :=
  setFlag (setPack s p { getPack s p with counted := v }) (pakF p PAK_STAT_COUNTED) v

/-- PAKx_EN (R138, R227, R234, R235): an authenticated, enabled, present pack; in FENCED and SEALED until a declared loss. -/
def drawable (s : State) (p : PackId) : Bool :=
  let stopped := decide (s.vault = .fenced) || decide (s.vault = .sealed)
  (getPack s p).present && authPassed s p && flag s (pakF p PAK_CTL_ENABLE) && aoUp s && (!stopped || s.pins.bkupEn)

/-- In RIDE a speculative copy that runs stops at its next unit boundary once only one PAKx_EN is high (R393). -/
def onePackStop (s : State) (a b : Bool) : State :=
  if s.vault = .ride ∧ flag s PWR_STAT_SPEC ∧ s.pins.pakEnA = s.pins.pakEnB ∧ a ≠ b then raiseEvent s 0 evReturn else s

/-- The enable pins, PAK_STAT and MEAS_STAT.COUNTED follow. -/
def settlePacks (s0 : State) : State :=
  let a := drawable s0 .a
  let b := drawable s0 .b
  let s := onePackStop s0 a b
  let s1 := { s with pins := { s.pins with pakEnA := a, pakEnB := b } }
  let s2 := setFlag (setFlag s1 (pakF .a PAK_STAT_DRAWN) a) (pakF .b PAK_STAT_DRAWN) b
  let s3 := setFlag (setFlag s2 (pakF .a PAK_STAT_PRESENT) s.packA.present) (pakF .b PAK_STAT_PRESENT) s.packB.present
  setFld s3 MEAS_STAT_COUNTED (b2n s.packA.counted + b2n s.packB.counted)

/-- Packs whose conditions fail leave the count (R227). -/
def leaveCount (s : State) : State :=
  let one := fun (x : State) (p : PackId) => if (getPack x p).counted && !countable x p then setCounted x p false else x
  one (one s .a) .b

/-- What follows the count: the pins and status, and NO_PACK at the onset of none counted (R227). -/
def settleCount (s : State) : State :=
  let none_ := !s.packA.counted && !s.packB.counted
  let s1 := settlePacks { s with pwr := { s.pwr with noPack := none_ } }
  if none_ && !s.pwr.noPack then raise s1 (srcMeas 0) else s1

/-- Learning on a pack whose partner has left the count is abandoned (R231). -/
def learnLosesCover (s : State) : State :=
  let one := fun (x : State) (p : PackId) => if (getPack x (otherPack p)).counted then x else abandonLearn x p 1
  one (one s .a) .b

/-- Leave the count and follow. -/
def recount (s : State) : State := settleCount (learnLosesCover (leaveCount s))

/-- Pack A, then pack B, joins the count (R227). -/
def joinCount (s : State) : State :=
  let one := fun (x : State) (p : PackId) =>
    if countable x p && !(getPack x p).counted && (aloneProven x p || !(getPack x (otherPack p)).counted) then
      setCounted x p true
    else x
  one (one s .a) .b

/-- e_use in mJ (R227). -/
def combine (s : State) : Rat :=
  let a := s.packA
  let b := s.packB
  if a.counted && b.counted then (if flag s MEAS_CTL_PROOF_MODE then a.ePack + b.ePack else min a.ePack b.ePack)
  else if a.counted then a.ePack else if b.counted then b.ePack else 0

/-! The estimator (R224, R226). -/

/-- Capacity in pC: 1 mAh is 3.6 C. -/
def capPc (s : State) (p : PackId) : Rat := (fld s (pakF p PAK_CAP_CAP) : Nat) * 3600000000000

/-- E_rem and e_pack of R226 in mJ, at state of charge x. -/
def usable (s : State) (p : PackId) (x : Rat) (t : Int) : Rat × Rat :=
  let vmin : Rat := (fld s MEAS_CFG_V_MIN : Nat)
  let target := vmin + (fld s MEAS_CFG_P_PACK : Nat) * 100 * packZ s p t / vmin
  let cut := ocvInv s target
  let rem : Rat := if target ≤ ocvPoint s 10 ∧ cut < x then (fld s (pakF p PAK_CAP_CAP) : Nat) * 36 / 10 * ocvArea s cut x else 0
  (rem, max 0 ((fld s MEAS_CFG_EFF : Nat) / 100 * (rem - (fld s MEAS_CFG_ALLEY_RES : Nat) * 1000)))

/-- The counted charge soc_m; a capacity of zero gives no quotient: a free value (log 4, DESIGN CHOICE). -/
def socModel (s : State) (p : PackId) (m : PackSample) : Rat × State :=
  let c := capPc s p
  if c = 0 then
    let q := drawNat s
    (((q.1 % 32769 : Nat) : Rat) / 32768, q.2)
  else ((getPack s p).soc - (m.i : Rat) * (m.dt : Rat) / c, s)

/-- One pack's update (R224, R401). -/
def updatePack (s : State) (p : PackId) (m : PackSample) : State :=
  if !(getPack s p).present then s else
    let (socM, s1) := socModel s p m
    let x := getPack s1 p
    let rises := ocvRises s1
    let still := decide (m.i.natAbs ≤ fld s1 MEAS_FILT_REST_I * 1000)
    let rest := if still then x.restUs + m.dt else 0
    let atRest := still && decide (fld s1 MEAS_FILT_REST_T * 1000000 ≤ rest)
    let z := packZ s1 p m.t
    let vMv : Rat := (m.v : Rat) / 1000
    let socV := if !rises then 0 else if atRest then ocvInv s1 vMv else ocvInv s1 (vMv + (m.i : Rat) * z / 10000000)
    let k : Rat := if !rises then 0 else ((if atRest then fld s1 MEAS_FILT_GAIN_REST else fld s1 MEAS_FILT_GAIN_LOAD : Nat) : Rat) / 256
    let soc := max 0 (min 1 (socM + k * (socV - socM)))
    let e := if rises then usable s1 p soc m.t else (0, 0)
    let q := x.qAcc + (m.i : Rat) * (m.dt : Rat) / 3600000000
    let discharging := decide (fld s1 (pakF p PAK_STAT_LEARN) = 3)
    let ql := if discharging then x.qLearn + (m.i : Rat) * (m.dt : Rat) / 3600000000 else x.qLearn
    let out := !tempWithin s1 MEAS_TEMP_DIS_LO MEAS_TEMP_DIS_HI m.t
    let s2 := setPack s1 p { x with soc := soc, ePack := e.2, restUs := rest, qAcc := q, qLearn := ql, tempOut := out,
                                    lastV := m.v, lastI := m.i, lastT := m.t }
    let s3 := setFlag (setFld (setFld s2 (pakF p PAK_SOC_SOC) (Config.roundReg (soc * 32768)))
      (pakF p PAK_SOC_SOC_V) (Config.roundReg (socV * 32768))) (pakF p PAK_STAT_REST) atRest
    let s4 := setFld (setFld s3 (pakF p PAK_ENERGY_E_REM) (min (2 ^ 32 - 1) (Config.roundReg e.1)))
      (pakF p PAK_ENERGY_E_USE) (min (2 ^ 32 - 1) (Config.roundReg e.2))
    let s5 := setFld (setFld (setFld s4 (pakF p PAK_MEAS_TEMP) (ofSigned 16 m.t))
      (pakF p PAK_MEAS_CURRENT) (ofSigned 16 (roundSigned ((m.i : Rat) / 1000)))) (pakF p PAK_MEAS_VOLT) (Config.roundReg vMv)
    let s6 := setFld s5 (pakF p PAK_QACC_CHARGE) (ofSigned 64 (roundSigned q))
    let s7 := if discharging then setFld s6 (pakF p PAK_LEARN_Q_MAH) (Config.roundReg (ql / 1000)) else s6
    let s8 := if out && !x.tempOut then raise s7 (srcPak p 2) else s7
    if tempWithin s8 MEAS_TEMP_LRN_LO MEAS_TEMP_LRN_HI m.t then s8 else abandonLearn s8 p 2

/-- Every present pack stands at or below the Alley floor (R237). -/
def atFloor (s : State) : Bool :=
  let low := fun (x : PackSt) => !x.present || decide (x.soc ≤ (fld s MEAS_PACK_FLOOR : Nat) / 256)
  low s.packA && low s.packB

/-- The Alley floor (R237): OFF; domain 25 loses its supply with the converters. -/
def floorOff (s : State) : State :=
  if s.vault = .alley ∧ atFloor s then supplyLost (setVault s .off) .off else s

/-- An update of the estimator (R224, R227), the proof of R145, and the floor of R237. -/
def estimate (s : State) (a b : PackSample) : State :=
  let s1 := learnLosesCover (leaveCount (updatePack (updatePack s .a a) .b b))
  let s3 := settleCount (joinCount s1)
  let s4 := setFld s3 PWR_E_NEED_E_USE (min (2 ^ 32 - 1) (Config.roundReg (combine s3)))
  floorOff (evalProof s4)

/-! Charging (R232). -/

/-- Whether, and why not, a pack may be charged: PAK_STAT.CHG 0 without a pack, 4 for its temperature, 5 otherwise. -/
def chargeHold (s : State) (p : PackId) : Option Nat :=
  let x := getPack s p
  let ph := fld s (pakF p PAK_STAT_LEARN)
  if !x.present then some 0
  else if !tempWithin s MEAS_TEMP_CHG_LO MEAS_TEMP_CHG_HI x.lastT then some 4
  else if !mainPresent s || !authPassed s p || !flag s (pakF p PAK_CTL_CHG_EN) || decide (ph = 2) || decide (ph = 3) ||
      x.chgHeld then some 5
  else none

/-- The next charging stage: constant current, constant voltage, terminated, and again below RECHG (R232). -/
def chargeStage (s : State) (p : PackId) : Nat :=
  let x := getPack s p
  match chargeHold s p with
  | some k => k
  | none =>
    match fld s (pakF p PAK_STAT_CHG) with
    | 1 => if x.lastV ≥ (fld s MEAS_CHG_CHG_V : Int) * 1000 then 2 else 1
    | 2 => if -x.lastI ≤ (fld s MEAS_CHG_TAPER_I : Int) * 1000 then 3 else 2
    | 3 => if x.soc < (fld s MEAS_CHG_RECHG : Nat) / 100 ∨ fld s (pakF p PAK_STAT_LEARN) = 1 then 1 else 3
    | _ => 1

/-- Charging of the pack is held with CHG_FAULT (R232; log 40, DEDUCED). -/
def chargeFault (s : State) (p : PackId) : State :=
  let x := getPack s p
  raise (setFld (setPack s p { x with chgHeld := true, chgFails := 0 }) (pakF p PAK_STAT_CHG) 5) (srcPak p 6)

/-- One write to the charger (R232): the third failure in a row is CHG_FAULT. A recharge after learning ends with it
(R230, phase 4). -/
def chargerWrite (s : State) (p : PackId) (ok : Bool) : State :=
  let x := getPack s p
  let st := chargeStage s p
  let cur := if st = 1 ∨ st = 2 then fld s MEAS_CHG_CHG_I else 0
  let volt := fld s MEAS_CHG_CHG_V
  let dev := match p with | .a => fld s MEAS_AUTH_CHG_A | .b => fld s MEAS_AUTH_CHG_B
  let s1 := emit (emit s (.smbus 2 (dev * 256 + 0x15) volt)) (.smbus 2 (dev * 256 + 0x14) cur)
  if ok then
    let s2 := setFld (setFld (setPack s1 p { x with chgFails := 0 }) (pakF p PAK_CHG_SET_V) volt) (pakF p PAK_CHG_SET_I) cur
    let s3 := setFld s2 (pakF p PAK_STAT_CHG) st
    if st = 3 ∧ fld s (pakF p PAK_STAT_LEARN) = 4 then setFld s3 (pakF p PAK_STAT_LEARN) 0 else s3
  else if 3 ≤ x.chgFails + 1 then chargeFault s1 p
  else setPack s1 p { x with chgFails := x.chgFails + 1 }

/-! Authentication (R233, R234, R236). -/

/-- The identifier of an inserted pack, at its first successful read (R236). -/
def noteId (s : State) (p : PackId) (id : Word) : State :=
  let x := getPack s p
  let old := getReg s ((pakF p PAK_ID_ID).key 0 0)
  let s1 := setFld s (pakF p PAK_ID_ID) id.toNat
  match x.compare with
  | none => s1
  | some v =>
    if id = old then setPack s1 p { x with compare := none } else
      let cap := fld s MEAS_PACK_NEW_DERATE * fld s MEAS_PACK_NOMINAL_MAH / 256
      let soc := if ocvRises s then ocvInv s ((v : Rat) / 1000) else x.soc
      setFld (setFld (setPack s1 p { x with compare := none, soc := soc }) (pakF p PAK_CAP_CAP) cap)
        (pakF p PAK_IMP_Z25) (fld s MEAS_PACK_Z_NEW)

/-- The pack fails authentication (R234): learning on either pack ends (R231). -/
def authFail (s : State) (p : PackId) : State :=
  let x := getPack s p
  let s1 := setFld (setPack s p { x with attempt := 0 }) (pakF p PAK_STAT_AUTH) 3
  let s2 := setFld s1 (pakF p PAK_STAT_CHG) 5
  raise (recount (abandonLearn (abandonLearn s2 .a 7) .b 7)) (srcPak p 1)

/-- The Mbotil root key: slot 0, the first two words of the key area, none while they are not written (R290; log 8, PRESUMED). -/
def rootKey (s : State) : Option (List Nat) :=
  let w := 2032 * 512
  if s.mgt.keyArea.any (fun e => e.1 = w) && s.mgt.keyArea.any (fun e => e.1 = w + 1) then
    some (bytesOf (sget allOnes s.mgt.keyArea w).toNat 8 ++ bytesOf (sget allOnes s.mgt.keyArea (w + 1)).toNat 8)
  else none

/-- The check of step 4: the answer is the CMAC that the identifier and the nonce of the attempt ask for (R233). -/
def authGood (s : State) (p : PackId) (id : Option Word) (o : AuthOutcome) : Bool :=
  match o, id, rootKey s with
  | .answer r, some i, some k =>
    decide (bytesOf r.toNat 16 = packAnswer k (bytesOf i.toNat 8) (bytesOf (getPack s p).nonce.toNat 16))
  | _, _, _ => false

/-- An attempt ends (R233). -/
def authEnd (s : State) (p : PackId) (id : Option Word) (o : AuthOutcome) : State :=
  let n := (getPack s p).attempt
  if n = 0 then s else
    let s1 := match id with | some i => noteId s p i | none => s
    let s2 := if o = .smbusError then raise s1 (srcPak p 7) else s1
    if authGood s p id o then
      settlePacks (setFld (setPack s2 p { getPack s2 p with attempt := 0 }) (pakF p PAK_STAT_AUTH) 2)
    else if n < 3 then authAttempt s2 p (n + 1)
    else authFail s2 p

/-! Learning (R229, R230). -/

/-- The first condition of R229 that fails, as its REASON. -/
def learnRefuse (s : State) (p : PackId) : Option Nat :=
  let o := otherPack p
  let ph := fld s (pakF o PAK_STAT_LEARN)
  if !watched s || !mainPresent s then some 3
  else if !authPassed s p then some 8
  else if ph ≠ 0 then some 4
  else if !(getPack s o).counted || !aloneProven s o then some 1
  else if !tempWithin s MEAS_TEMP_LRN_LO MEAS_TEMP_LRN_HI (getPack s p).lastT then some 2
  else none

/-- PAK_CTL.LEARN (R229); while learning runs on the pack it is ignored (log 40, DESIGN CHOICE). -/
def learnStart (s : State) (p : PackId) : State :=
  if fld s (pakF p PAK_STAT_LEARN) ≠ 0 then s else
  match learnRefuse s p with
  | some r => setFld (setFld s (pakF p PAK_LEARN_RESULT) 4) (pakF p PAK_LEARN_REASON) r
  | none =>
    let s1 := setFld (setFld (setFld s (pakF p PAK_STAT_LEARN) 1) (pakF p PAK_LEARN_RESULT) 0) (pakF p PAK_LEARN_REASON) 0
    recount s1

/-- The end of phase 3 (R230, step 4). With s_end = 1 the quotient is not stated: a free value (log 4, DESIGN CHOICE). -/
def learnDone (s : State) (p : PackId) (i t : Int) : State :=
  let z := packZ s p t
  let send := ocvInv s ((fld s MEAS_CFG_V_MIN : Nat) + (i : Rat) * z / 10000000)
  let x := getPack s p
  let (capNew, s1) := if send = 1 then
      let q := drawNat s
      ((q.1 : Rat), q.2)
    else (x.qLearn / 1000 / (1 - send), s)
  let cap : Rat := (fld s1 (pakF p PAK_CAP_CAP) : Nat)
  let diff := if capNew < cap then cap - capNew else capNew - cap
  let s2 := setLearnPin (setFld s1 (pakF p PAK_STAT_LEARN) 4) p false
  if diff ≤ (fld s2 MEAS_LEARN_LEARN_LIM : Nat) / 100 * cap then
    let r := Config.roundReg capNew
    let s3 := setFld (setFld (setFld s2 (pakF p PAK_CAP_CAP) r) (pakF p PAK_LEARN_LAST_MAH) r) (pakF p PAK_LEARN_RESULT) 1
    if capNew < (fld s3 MEAS_PACK_NEW_DERATE : Nat) / 256 * (fld s3 MEAS_PACK_NOMINAL_MAH : Nat) then raise s3 (srcPak p 4) else s3
  else raise (setFld s2 (pakF p PAK_LEARN_RESULT) 2) (srcPak p 5)

/-! Ship mode (R238). -/

/-- The ship request is taken at the end of a rendezvous: the ship command to each present pack, then SHIP. -/
def shipNow (s : State) : State :=
  let s1 := if s.packA.present then emit s (.smbus 0 0x73 0) else s
  let s2 := if s.packB.present then emit s1 (.smbus 1 0x73 0) else s1
  supplyLost (setVault s2 .ship) .ship

end Sys2Proof.Machine
end

