-- ==== Sys2Proof/Machine/RingCmds.lean ====
section
/-! DEFINITION. Commands of the ring: frames of R298, port events, formation, the registry and pod time (R294 to R314). -/
namespace Sys2Proof.Machine

/-- HELLO (R306). -/
def execHello (p : RingPort) (f : FrameHdr) (b : HelloBody) (s : State) : Res :=
  .next (if s.vault = .alley then s else linkIn s p f (fun x => helloIn x p f.origin b))

/-- HELLO_SEND (R298). -/
def execHelloSend (p : RingPort) (s : State) : Res := .next (helloOut s p)

/-- HELLO_TIMEOUT (R306): HELLO_LOSS, and the port wraps for a cause of its own. -/
def execHelloTimeout (p : RingPort) (s : State) : Res :=
  .next (if ringOn s && decide (s.vault ≠ .alley) && flag s (portFld p RNE_CTL_ENABLE) then
    let x := portSt s p
    wrapPort (raise (setPortSt s p { x with helloSeen := false }) (srcPort p 1)) p true
  else s)

/-- A ring port loses its light (R306); in ALLEY domain 25 only notes it (R323). -/
def portDark (s : State) (p : RingPort) : State :=
  let x := portSt s p
  let s1 := setFld (setFlag (setFlag s (portFld p RNE_STAT_LINK) false) (portFld p RNE_STAT_LOS) true) (portFld p RNE_STAT_RATE) 0
  let s2 := raise (setPortSt s1 p { x with helloSeen := false }) (srcPort p 0)
  if ringOn s2 && decide (s2.vault ≠ .alley) then wrapPort s2 p true else s2

/-- PORT_LOS (R306). -/
def execPortLos (p : RingPort) (s : State) : Res :=
  .next (if aoUp s && flag s (portFld p RNE_CTL_ENABLE) then portDark s p else s)

/-- UNWRAP (R306). -/
def execUnwrap (p : RingPort) (s : State) : Res := .next (unwrapPort s p)

/-- PDELAY_REQ (R313): answered with its receive and transmit timestamps. -/
def execPdelayReq (p : RingPort) (f : FrameHdr) (_t1 t2 t3 : Nat) (s : State) : Res :=
  .next (linkIn s p f (fun x => linkSend x p 3 (.nums [t2, t3])))

/-- PDELAY_RESP (R313, step 1), in ps. -/
def execPdelayResp (p : RingPort) (f : FrameHdr) (t1 t2 t3 t4 : Int) (s : State) : Res :=
  .next (linkIn s p f (fun x =>
    noteDelay x p (((t4 - t1) - (t3 - t2)) / 2 + toSigned 32 (fld x (portFld p RNE_DELAY_ASYM)))))

/-- SYNC_SEND (R313, step 2). -/
def execSyncSend (s : State) : Res := .next (syncOut s)

/-- SYNC (R313, steps 3 and 4). -/
def execSync (p : RingPort) (f : FrameHdr) (b : SyncBody) (s : State) : Res :=
  let same : RingBody := .nums [b.t0.toNat, b.corr, b.closure, b.n.toNat, b.census.toNat]
  .next (match arrives s p f false with
    | (s1, .own) => if flag s1 RNG_STAT_MASTER then syncBack s1 p b else s1
    | (s1, .mine) => followSync (forwardAll s1 p 4 f (syncOn s1 p b)) p b
    | (s1, .dup) => forwardAll s1 p 4 f same
    | (s1, .pass) => forward s1 p 4 f same
    | (s1, .gone) => s1)

/-- SYNC_HOLDOVER (R313). -/
def execSyncHoldover (s : State) : Res :=
  .next (if ringOn s && (!flag s RNG_STAT_MASTER || solitary s) && !flag s TIME_STAT_HOLDOVER then
    raise (setFlag (setFlag s TIME_STAT_LOCKED false) TIME_STAT_HOLDOVER true) (srcTime 0)
  else s)

/-- A port counts for PORT_STABLE: linked or wrapped (R302). -/
def portSettled (s : State) (p : RingPort) : Bool := portLink s p || portWrapped s p

/-- PORT_STABLE (R302): a vault that belongs to no ring sends DISCOVER. -/
def execPortStable (s : State) : Res :=
  .next (if ringOn s && decide (s.vault ≠ .alley) && portSettled s .east && portSettled s .west then
    let s1 := setFlag (setFlag s RNE_STAT_STABLE true) (portFld .west RNE_STAT_STABLE) true
    if s1.ring.formed then s1 else sendDiscover s1
  else s)

/-- A DISCOVER token of another vault (R302). -/
def discoverIn (s : State) (p : RingPort) (f : FrameHdr) (lowest : Word) (count : Nat) : State :=
  let below := match s.ring.fwdLowest with
    | none => true
    | some l => decide (lowest.toNat ≤ l.toNat)
  if decide (lowest.toNat < (vaultId s).toNat) && below then
    let s1 := { s with ring := { s.ring with fwdLowest := some lowest } }
    forward s1 p 0x10 f (.nums [lowest.toNat, count + 1])
  else s

/-- DISCOVER (R302 to R304). -/
def execDiscover (p : RingPort) (f : FrameHdr) (lowest : Word) (count : BitVec 16) (s : State) : Res :=
  let same : RingBody := .nums [lowest.toNat, count.toNat]
  .next (match arrives s p f false with
    | (s1, .own) =>
      if lowest = vaultId s1 ∧ s1.ring.phase = 1 then
        (if count = 1 then becomeSolitary (tokenBack s1) else sendElect (tokenBack s1) count.toNat)
      else s1
    | (s1, .mine) => discoverIn s1 p f lowest count.toNat
    | (s1, .dup) => forwardAll s1 p 0x10 f same
    | (s1, .pass) => forward s1 p 0x10 f same
    | (s1, .gone) => s1)

/-- DISCOVER_TIMEOUT (R302, R303): the lap failed; the origin sends DISCOVER again and its wait doubles up to 240 ms. -/
def execDiscoverTimeout (s : State) : Res :=
  .next (if s.ring.phase = 0 then s
    else sendDiscover { s with ring := { s.ring with wait := min 240 (2 * s.ring.wait) } })

/-- ELECT at a vault that did not send it (R303): HOP, N and the master. -/
def electIn (s : State) (master : Word) (n hop : Nat) : State :=
  let s1 := setFld (setFld s RNG_STAT_HOP (hop + 1)) RNG_STAT_MEMBERS n
  let s2 := setFld (setFlag s1 RNG_STAT_MASTER false) RNG_MASTER_ID master.toNat
  settleTopo { s2 with ring := { s2.ring with phase := 0 } }

/-- ELECT (R303). -/
def execElect (p : RingPort) (f : FrameHdr) (master : Word) (n hop : BitVec 16) (s : State) : Res :=
  let body := fun (h : Nat) => RingBody.nums [master.toNat, n.toNat, h]
  .next (match arrives s p f false with
    | (s1, .own) =>
      if s1.ring.phase = 2 then
        let s2 := setFld (tokenBack s1) RNG_STAT_MEMBERS n.toNat
        ringSend { s2 with ring := { s2.ring with phase := 3, lapAt := s2.now } } 0x12 0 (.nums [(vaultId s2).toNat])
      else s1
    | (s1, .mine) => electIn (forwardAll s1 p 0x11 f (body (hop.toNat + 1))) master n.toNat hop.toNat
    | (s1, .dup) => forwardAll s1 p 0x11 f (body hop.toNat)
    | (s1, .pass) => forward s1 p 0x11 f (body hop.toNat)
    | (s1, .gone) => s1)

/-- CONFIRM came back: the origin is the ring master and starts SYNC (R303). -/
def becomeMaster (s : State) : State :=
  let s1 := setFld (setFlag (setFld s RNG_STAT_HOP 0) RNG_STAT_MASTER true) RNG_MASTER_ID (vaultId s).toNat
  formedNow (syncOut { s1 with ring := { s1.ring with formed := true } }) (decide (1 < fld s1 RNG_STAT_MEMBERS))

/-- CONFIRM (R303). -/
def execConfirm (p : RingPort) (f : FrameHdr) (master : Word) (s : State) : Res :=
  let body : RingBody := .nums [master.toNat]
  .next (match arrives s p f false with
    | (s1, .own) => if s1.ring.phase = 3 then becomeMaster (tokenBack s1) else s1
    | (s1, .mine) =>
      let s2 := setFld (setFlag (forwardAll s1 p 0x12 f body) RNG_STAT_MASTER false) RNG_MASTER_ID master.toNat
      formedNow s2 (decide (1 < fld s2 RNG_STAT_MEMBERS))
    | (s1, .dup) => forwardAll s1 p 0x12 f body
    | (s1, .pass) => forward s1 p 0x12 f body
    | (s1, .gone) => s1)

/-- BEACON leaves (R304, R325): a solitary vault's on both ports, a parked vault's on the ports out of step. -/
def beaconOut (s : State) (p : RingPort) : State :=
  let wants := if s.vault = .alley then fld s (portFld p RNE_RDV_MODE) != 0 else solitary s
  if wants && ringOn s && flag s (portFld p RNE_CTL_ENABLE) then
    linkSend s p 0x13 (.nums [(vaultId s).toNat, podNs s])
  else s

/-- BEACON_SEND (R304, R325). -/
def execBeaconSend (s : State) : Res := .next (beaconOut (beaconOut s .east) .west)

/-- A rendezvous port heard its neighbour: it is in step again (R325). -/
def portInStep (s : State) (p : RingPort) : State :=
  let x := portSt s p
  let s1 := setPortSt s p { x with rdvDone := true, lastRdv := s.now, beacons := 0 }
  setFld (setFld s1 (portFld p RNE_RDV_MISSES) 0) (portFld p RNE_RDV_MODE) 0

/-- A BEACON is delivered. -/
def beaconIn (s : State) (p : RingPort) (id : Word) : State :=
  if s.vault = .alley then portInStep s p
  else if solitary s ∧ id ≠ vaultId s then
    let s1 := unform s
    if flag s RNE_STAT_STABLE && flag s (portFld .west RNE_STAT_STABLE) then sendDiscover s1 else s1
  else s

/-- BEACON (R304, R325). -/
def execBeacon (p : RingPort) (f : FrameHdr) (id : Word) (_podTime : Word) (s : State) : Res :=
  .next (linkIn s p f (fun x => beaconIn x p id))

/-- LOST (R307). -/
def execLost (p : RingPort) (f : FrameHdr) (lostId : Word) (senderEast : Bool) (s : State) : Res :=
  .next (frameIn s p 0x14 f (.nums [lostId.toNat, b2n senderEast]) (fun x => noteLost x lostId senderEast))

/-- REG (R310). -/
def execReg (p : RingPort) (f : FrameHdr) (e : RegEntry) (s : State) : Res :=
  .next (frameIn s p 0x20 f (.reg e) (fun x => mergeIn x e))

/-- REG_REFRESH (R310). -/
def execRegRefresh (s : State) : Res := .next (if ringOn s then publish s else s)

/-- SQUARE_RING_CHECK (R311). -/
def execSquareRingCheck (s : State) : Res :=
  .next (if s.vault = .join ∧ dataUp s ∧ psgUp s ∧ s.psg.genSeen ∧ s.ring.formed ∧
      (registryFind s Config.partnerId).isNone then
    raise { s with psg := { s.psg with otherRing := true } } (srcPsg 9) else s)

/-- REFORM (R305). -/
def execReform (q : Requester) (s : State) : Res :=
  .next (guarded s q 0x90 (sendDiscover { s with ring := { s.ring with wait := 15 } }))

/-- A Census is armed or copying at this vault (R312, R315). -/
def censusBusy (s : State) : Bool :=
  s.cen.armed.isSome || (decide (1 ≤ fld s CEN_STAT_STATE) && decide (fld s CEN_STAT_STATE ≤ 3))

/-- TIME_SET (R312): only the ring master acts on it, and not while a Census is armed or copying. -/
def execTimeSet (q : Requester) (v : Word) (s : State) : Res :=
  .next (guarded s q 0x94 (if flag s RNG_STAT_MASTER && !censusBusy s then setPod s v.toNat else s))

/-! Transmit descriptors (R301, R328). -/

/-- TX_DESCRIPTOR_GO (R301): the descriptor that the requester's index names; its SEQ is new unless RESEND keeps it. -/
def txGo (s : State) (d : Nat) (v : Word) : State :=
  if fldAt s RNG_TX_CTL_BUSY d = 1 then s else
    let s1 := writeRw s 0x90 0x150 d 0 v
    if !bitAt v.toNat 0 then s1 else
      let s2 := if fldAt s1 RNG_TX_CTL_RESEND d = 1 then s1 else
        let s' := setFldAt s1 RNG_TX_CTL_SEQ d s1.ring.seq.toNat
        { s' with ring := { s'.ring with seq := s'.ring.seq + 1 } }
      setFldAt (setFldAt s2 RNG_TX_CTL_RESULT d 0) RNG_TX_CTL_BUSY d 1
def execTxDescriptorGo (q : Requester) (v : Word) (s : State) : Res :=
  .next (guarded s q 0x90 (txGo s (indexOf s q RNG_TX_IDX_INDEX) v))

/-- A descriptor writes RESULT, with its event (R377). -/
def txResult (s : State) (d r : Nat) : State :=
  pendEvent (setFldAt (setFldAt s RNG_TX_CTL_BUSY d 0) RNG_TX_CTL_RESULT d r) 0x90 0

/-- TX_CANCEL (R301): before the grant the frame is not sent; after it the cancel loses. -/
def txCancelOp (s : State) (d : Nat) : State :=
  if fldAt s RNG_TX_CTL_BUSY d = 1 then bump (txResult s d 2) RNG_CANCEL_DONE
  else if fldAt s RNG_TX_CTL_RESULT d = 1 then bump (txResult s d 3) RNG_CANCEL_LATE
  else s
def execTxCancel (q : Requester) (s : State) : Res :=
  .next (guarded s q 0x90 (txCancelOp s (indexOf s q RNG_TX_IDX_INDEX)))

/-- Bytes of management SRAM. -/
def sramBytes (s : State) (a : Nat) : Nat → List Nat
  | 0 => []
  | n + 1 => (sget (0 : BitVec 8) s.mgt.sram a).toNat :: sramBytes s (a + 1) n

/-- TX_GRANT (R301): the frame of descriptor d leaves whole, from management SRAM, with the SEQ and RESEND of the descriptor. -/
def txSend (s : State) (d : Nat) : State :=
  let bytes := sramBytes s (64 * fldAt s RNG_TX_CTL_OFFSET d) (fldAt s RNG_TX_CTL_LEN d)
  let h := ownHdr s (BitVec.ofNat 64 (((bytes.drop 30).take 8).foldr (fun b a => b + 256 * a) 0))
  let f := { h with seq := BitVec.ofNat 32 (fldAt s RNG_TX_CTL_SEQ d), resend := fldAt s RNG_TX_CTL_RESEND d != 0 }
  let typ := bytes.getD 14 0
  let s1 := match fldAt s RNG_TX_CTL_PORT d with
    | 0 => ringOut s .east typ f (.raw bytes)
    | 1 => frameOut s .east typ f (.raw bytes)
    | 2 => frameOut s .west typ f (.raw bytes)
    | _ => frameOut (frameOut s .east typ f (.raw bytes)) .west typ f (.raw bytes)
  txResult s1 d 1
def execTxGrant (d : Fin 16) (s : State) : Res :=
  .next (if ringOn s && decide (fldAt s RNG_TX_CTL_BUSY d.val = 1) then txSend s d.val else s)

/-! Ports. -/

/-- The module's identification is read (R294): what it says is a free value, and a module without 1000BASE-LX sets RATE_ERR. -/
def readModule (s : State) (p : RingPort) : State :=
  let d := drawNat s
  let lacks := decide (d.1 % 2 = 1)
  let s1 := setPortSt d.2 p { portSt d.2 p with rateErr := lacks }
  if lacks then raise s1 (srcPort p 4) else s1

/-- A write of RNE_CTL or RNW_CTL (R294, R306, R348): a forced wrap is a cause of the vault's own; ENABLE at zero drops the link,
and at one reads the module. -/
def portCtl (s : State) (p : RingPort) (page : Nat) (v : Word) : State :=
  let on := flag s (portFld p RNE_CTL_ENABLE)
  let forced := flag s (portFld p RNE_CTL_WRAP_FORCE)
  let s1 := writeRw s page 0x100 0 0 v
  let s2 := if on && !flag s1 (portFld p RNE_CTL_ENABLE) then
      setFld (setFlag s1 (portFld p RNE_STAT_LINK) false) (portFld p RNE_STAT_RATE) 0
    else if !on && flag s1 (portFld p RNE_CTL_ENABLE) then readModule s1 p
    else s1
  if !forced && flag s1 (portFld p RNE_CTL_WRAP_FORCE) then wrapPort s2 p true
  else if forced && !flag s1 (portFld p RNE_CTL_WRAP_FORCE) then unwrapPort s2 p
  else s2
def execWrapForceWrite (q : Requester) (p : RingPort) (v : Word) (s : State) : Res :=
  let page := match p with | .east => 0x91 | .west => 0x92
  .next (guarded s q page (portCtl s p page v))

/-- RING_PORT_LINK_UP (R302): a port event; RATE 1 is 25GBASE-R, 2 is 1000BASE-X. -/
def execRingPortLinkUp (p : RingPort) (rate : BitVec 2) (s : State) : Res :=
  .next (if aoUp s && flag s (portFld p RNE_CTL_ENABLE) && (decide (rate = 1) || decide (rate = 2)) then
    let s1 := setFld (setFlag (setFlag s (portFld p RNE_STAT_LINK) true) (portFld p RNE_STAT_LOS) false)
      (portFld p RNE_STAT_RATE) rate.toNat
    if s1.vault = .alley then s1 else portEvent s1 p
  else s)

end Sys2Proof.Machine
end

