-- ==== Sys2Proof/Machine/Alley.lean ====
section
/-! DEFINITION. Rendezvous of parked vaults and of their neighbours (R308, R323 to R326). -/
namespace Sys2Proof.Machine

/-- The guard of a port in us (R324): 200 ppm of the time since its last exchange, capped at a quarter of the period. -/
def guardUs (s : State) (p : RingPort) : Nat :=
  let us := (s.now - (portSt s p).lastRdv) / usUnits
  min (fld s RNG_ALLEY_PERIOD_MS * 250) (fld s RNG_ALLEY_GUARD_MIN_US + us * 200 / 1000000)

/-- A port begins a rendezvous. -/
def armPort (s : State) (p : RingPort) : State :=
  setFld (setPortSt s p { portSt s p with rdvDone := false }) (portFld p RNE_RDV_GUARD_US) (min (2 ^ 32 - 1) (guardUs s p))

/-- The wake (R323, R389): EN_MR is high, domains 20 to 24 run, and the events held in domain 25 are logged (R340;
log 37, DEDUCED). -/
def wake (s : State) : State :=
  let s1 := { s with pins := { s.pins with enMr := true, pgMr := true }, ring := { s.ring with awake := true, relayed := [] } }
  raiseHeldXtal (logHeld (armPort (armPort s1 .east) .west))

/-- RENDEZVOUS_WAKE (R323, R389): EN_MR rises, and with PG_MR the ring wakes (PG_RISE); a ring that listens on is awake
already. -/
def execRendezvousWake (s : State) : Res :=
  .next (if s.vault = .alley ∧ aoUp s ∧ !logicFailed s then
    (if s.ring.awake then wake s else { s with pins := { s.pins with enMr := true } })
  else s)

/-- The ring sleeps unless a port listens on (R323, R325, R389). -/
def sleepRing (s : State) : State :=
  if fld s (portFld .east RNE_RDV_MODE) = 1 ∨ fld s (portFld .west RNE_RDV_MODE) = 1 then s
  else { s with pins := { s.pins with enMr := false, pgMr := false }, ring := { s.ring with awake := false } }

/-- What an RDV carries out of port p (R325, R326): this vault's time and age, its own entry and those relayed, and the
neighbour at its other port if it has missed it three times. -/
def rdvBody (s : State) (p : RingPort) : RdvBody :=
  let q := otherPort p
  let missed := if 3 ≤ fld s (portFld q RNE_RDV_MISSES) then
      [(BitVec.ofNat 64 (fld s (portFld q RNE_NEIGH_ID)), decide (q = .west))] else []
  { sender := vaultId s, podTime := BitVec.ofNat 64 (podNs s), age := timeAge s,
    entries := ownEntry s false :: s.ring.relayed, missed := missed }

def sendRdv (s : State) (p : RingPort) : State := linkSend s p 0x50 (.rdv (rdvBody s p))

/-- In ALLEY with the ring awake. -/
def inRendezvous (s : State) : Bool := decide (s.vault = .alley) && ringOn s

/-- RDV_SEND (R323): until one arrives from the neighbour. -/
def execRdvSend (p : RingPort) (s : State) : Res :=
  .next (if inRendezvous s && flag s (portFld p RNE_CTL_ENABLE) && !(portSt s p).rdvDone then sendRdv s p else s)

/-- Pod time from the neighbour with the smaller time age (R323). -/
def takeTime (s : State) (b : RdvBody) : State :=
  if b.age < timeAge s then
    let s1 := setPod s b.podTime.toNat
    { s1 with ring := { s1.ring with ageHops := b.age + 1, syncAt := s1.now } }
  else s

/-- What an exchange in ALLEY tells of the neighbour at port p (R308, R323): the port is in step, pod time, who it is, and whether it
is parked. -/
def rdvHeard (s : State) (p : RingPort) (b : RdvBody) : State :=
  let parked := b.entries.any (fun e => e.vaultId = b.sender && e.state = 7)
  let s1 := setFld (takeTime (portInStep s p) b) (portFld p RNE_NEIGH_ID) b.sender.toNat
  setFlag s1 (portFld p RNE_STAT_NEIGH_PARKED) parked

/-- What it carries of others (R325, R326): entries and misses, which the relay takes on through the span. -/
def rdvRelay (s : State) (p : RingPort) (b : RdvBody) : State :=
  let s2 := b.entries.foldl mergeIn s
  let fresh := b.entries.filter (fun e => !s2.ring.relayed.contains e)
  let s3 := { s2 with ring := { s2.ring with relayed := s2.ring.relayed ++ fresh } }
  let s4 := b.missed.foldl (fun x m => noteLost x m.1 m.2) s3
  if (portSt s4 (otherPort p)).rdvDone then sendRdv s4 (otherPort p) else s4

/-- An exchange in ALLEY. -/
def rdvIn (s : State) (p : RingPort) (b : RdvBody) : State := rdvRelay (rdvHeard s p b) p b

/-- An exchange of a vault that is not parked (R308, R326): a REG with PROXY for each parked vault of the span. -/
def rdvOutside (s : State) (b : RdvBody) : State :=
  let s1 := (b.entries.filter (fun e => e.state = 7)).foldl (fun x e =>
    let e' := { e with flags := e.flags ||| 8 }
    ringSend (mergeIn x e') 0x20 0 (.reg e')) s
  b.missed.foldl (fun x m => noteLost x m.1 m.2) s1

/-- RDV (R323). -/
def execRdv (p : RingPort) (f : FrameHdr) (b : RdvBody) (s : State) : Res :=
  .next (linkIn s p f (fun x => if x.vault = .alley then rdvIn x p b else rdvOutside (parkPort x p) b))

/-- A missed rendezvous (R325; log 37, DEDUCED). -/
def missPort (s : State) (p : RingPort) : State :=
  let mode := fld s (portFld p RNE_RDV_MODE)
  if (portSt s p).rdvDone || decide (mode = 1) || !flag s (portFld p RNE_CTL_ENABLE) then s else
    let s1 := raise (bump s (portFld p RNE_RDV_MISSES)) (srcPort p 3)
    let x := portSt s1 p
    if mode = 2 then
      if 64 ≤ x.beacons + 1 then setFld (setPortSt s1 p { x with beacons := 0 }) (portFld p RNE_RDV_MODE) 1
      else setPortSt s1 p { x with beacons := x.beacons + 1 }
    else if 3 ≤ fld s1 (portFld p RNE_RDV_MISSES) then setFld s1 (portFld p RNE_RDV_MODE) 1
    else s1

/-- RENDEZVOUS_END (R323, R325, R238): misses, then a ship request, else sleep. -/
def execRendezvousEnd (s : State) : Res :=
  .next (if inRendezvous s then
    let s1 := missPort (missPort s .east) .west
    if flag s1 MEAS_STAT_SHIP_PENDING then shipNow s1 else sleepRing s1
  else s)

/-- LISTEN_END (R325): the port falls back to beaconing. -/
def execListenEnd (p : RingPort) (s : State) : Res :=
  .next (if inRendezvous s && decide (fld s (portFld p RNE_RDV_MODE) = 1) then
    sleepRing (setFld (setPortSt s p { portSt s p with beacons := 0 }) (portFld p RNE_RDV_MODE) 2)
  else s)

/-- PARKED_NEIGHBOUR_RENDEZVOUS (R308): the port runs 1000BASE-X for the window, then listens at 25GBASE-R again. -/
def execParkedNeighbourRendezvous (p : RingPort) (b : RdvBody) (s : State) : Res :=
  .next (if ringOn s && decide (s.vault ≠ .alley) && flag s (portFld p RNE_CTL_ENABLE) &&
      flag s (portFld p RNE_STAT_NEIGH_PARKED) then
    let s1 := setFld (setFlag s (portFld p RNE_STAT_LINK) true) (portFld p RNE_STAT_RATE) 2
    let s2 := rdvOutside (sendRdv s1 p) b
    setFld (setFlag s2 (portFld p RNE_STAT_LINK) false) (portFld p RNE_STAT_RATE) 0
  else s)

end Sys2Proof.Machine
end

