-- ==== Sys2Proof/Machine/PassageOps.lean ====
section
/-! DEFINITION. What the Passage messages do (R113 to R134, R205, R211, R214, R215). -/
namespace Sys2Proof.Machine

/-! Receiving. -/

/-- Header bits [111:0] of R113. -/
def psgBits (typ : Nat) (h : PsgHdr) : Nat :=
  typ % 16 + h.rsvdLo.toNat * 2 ^ 4 + h.win.toNat * 2 ^ 10 + h.count.toNat * 2 ^ 22 + h.line.toNat * 2 ^ 28 +
    h.arg.toNat * 2 ^ 60 + h.mseq.toNat * 2 ^ 64 + h.rsvdHi.toNat * 2 ^ 96

/-- The Passage delivers: the data path runs, the Passage is up and accepts work (R375), no warm reset drains (R355). -/
def psgDelivers (s : State) : Bool := dataUp s && psgUp s && s.rst.drain.isNone && accepts s 0x28

/-- Lines that a message puts into the mirror queue (R117, R126, R128), and the DRAM lines it names. -/
def queuedLines (typ : Nat) (h : PsgHdr) : Nat := if typ = 1 ∨ typ = 3 ∨ typ = 0xA then lineCount h.count else 0
def namedLines (typ : Nat) (h : PsgHdr) : Nat :=
  if typ = 1 ∨ typ = 3 ∨ typ = 0xA ∨ typ = 0xB ∨ typ = 0xC then lineCount h.count else if typ = 8 ∨ typ = 9 then 1 else 0

/-- The mirror queue has no room for the message's lines (R117). -/
def queueFull (s : State) (typ : Nat) (h : PsgHdr) : Bool := decide (16384 < s.psg.mirrorQ.length + queuedLines typ h)

/-- A message of type `typ` with its data arrives: discarded with MSG_ERR where its CRC fails (R114), not yet whole where data
slots are missing (R24), kept in the receive buffer while others wait there or the mirror queue has no room for its lines
(log 24, DESIGN CHOICE), else `k`. -/
def psgReceive (typ : Nat) (h : PsgHdr) (data : List Slot128) (need : Nat) (s : State) (k : Res) : Res :=
  if !psgDelivers s then .next s
  else if headerCrc (psgBits typ h) ≠ h.crc.toNat then .next (raise s srcMsgErr)
  else if data.length < need then .next s
  else if !s.psg.held.isEmpty || queueFull s typ h then
    let kept : State := { s with psg := { s.psg with held := s.psg.held ++ [⟨typ, h, data, 0⟩] } }
    if namedLines typ h = 0 then .next kept else withLines s h.line.toNat (namedLines typ h) (.next kept)
  else k

/-- The lines of a message's data slots. -/
def dataLines (n : Nat) (data : List Slot128) : List Line :=
  (List.range n).map (fun k => slotsLine ((data.drop (4 * k)).take 4))

/-! Mirror lines (R116, R117, R126, R211). -/

/-- Promote the unit of a line that is not restored (R208, R211). -/
def promoteLine (s : State) (l : Nat) : State := if unitReady s (unitOf l) then s else promote s (unitOf l)

/-- One line enters the mirror queue, and the Plaza on an input of 24 to 27: which one is a free value (R76, R117; log 10, DESIGN
CHOICE). -/
def enqueueLine (s : State) (l : Nat) (d : Line) (masked : Bool) : State :=
  let (a, s1) := drawNat s
  let input := 24 + a % 4
  let c := plazaCycle s1.adm.plazaIn input s1.now
  let m : MirrorLine :=
    { line := l, data := d, masked := masked, at_ := s1.adm.nextId, stage := .plaza, input := input, inter := plazaInter input c,
      entered := c * cycleUnits }
  { s1 with psg := { s1.psg with mirrorQ := s1.psg.mirrorQ ++ [m] }, adm := { s1.adm with plazaIn := nset s1.adm.plazaIn input (c + 1) } }

/-- Lines l, l + 1, … enter the mirror queue in order. STREAM lines enter it too, so that the last to arrive is the newest
(R126; log 23, DEDUCED). -/
def enqueueLines (s : State) (l : Nat) (ls : List Line) (masked : Bool) : State :=
  ls.zipIdx.foldl (fun x e => promoteLine (enqueueLine x (l + e.2) e.1 masked) (l + e.2)) s

/-- MIRROR: the queue, then the acknowledgement (R117). -/
def mirrorIn (s : State) (h : PsgHdr) (ls : List Line) : State :=
  let s1 := enqueueLines s h.line.toNat ls false
  psgSend { s1 with psg := { s1.psg with rxMseq := h.mseq.toNat } } 2 h.mseq.toNat 0 0 0 0 []

/-- MSEQ `m` is covered by an acknowledgement of `a`: at or before it, modulo 2^32 (R114). -/
def covered (a m : Nat) : Bool := decide (m < 2 ^ 32) && decide ((a + 2 ^ 32 - m) % 2 ^ 32 < 2 ^ 31)

/-- MIRROR_ACK: forwarded lines are free again and the responses that waited leave (R116, R118). -/
def ackIn (s : State) (m : Nat) : State :=
  let fl := s.adm.flights.map (fun f => match f.ack with
    | some a => if covered m a then { f with ack := none } else f
    | none => f)
  settle { s with adm := { s.adm with flights := fl }, psg := { s.psg with fwd := s.psg.fwd.filter (fun e => !covered m e.1) } }

/-! FETCH (R129, R211, R214, R215). -/

/-- The unit of a line can be answered: restored, and not marked for a stream still to come (R129, R211). -/
def fetchReady (s : State) (l : Nat) : Bool := unitReady s (unitOf l) && !isDiverged s (unitOf l)

/-- The line's subchannel is offline: its content is abandoned (R105). -/
def abandoned (s : State) (l : Nat) : Bool := flag s ((DRC_SUB_OFFLINE.inst (subOf s l / 8)).nth (subOf s l % 8))

/-- One line of the answer: a message of its own, good or poisoned. A line of an offline subchannel has no content: it is answered as
poisoned (R105; log 53, DEDUCED). -/
def answerLine (s : State) (l : Nat) : State :=
  if abandoned s l then psgSend s 0xC 0 1 l 1 0 []
  else if isPoison s l then psgSend (poisonRead (touchRow s l) l) 0xC 0 1 l 1 0 []
  else psgSend (touchRow s l) 0xC 0 0 l 1 0 (lineSlots (readLine s l))

/-- Answer a FETCH of n lines, or keep it (R129). -/
def answerFetch (s : State) (l n : Nat) : State :=
  let ls := (List.range n).map (fun k => l + k)
  if ls.all (fetchReady s) then ls.foldl answerLine s
  else ls.foldl promoteLine { s with psg := { s.psg with fetchWait := s.psg.fetchWait ++ [(l, n)] } }

/-- Answer the kept FETCHes that can be answered now. -/
def answerWaiting (s : State) : State :=
  let w := s.psg.fetchWait
  w.foldl (fun x e => answerFetch x e.1 e.2) { s with psg := { s.psg with fetchWait := [] } }

/-- An APPLY that fetches gets one line; with the last one it ends (R215): 1 applied, 2 fetch failed (log 44, DEDUCED). -/
def reconLine (s : State) (i : Nat) (left : List Nat) (bad : Bool) (l : Nat) (d : Option Line) : State :=
  let s1 := match d with | some x => dramWrite s l x none | none => s
  let bad' := bad || d.isNone
  let left' := left.filter (fun x => x ≠ l)
  if left'.isEmpty then
    let log := s1.pwr.log.zipIdx.map (fun e => if e.2 = i then { e.1 with result := if bad' then 2 else 1 } else e.1)
    let s2 := pendEvent s1 0x30 0
    setFlag { s2 with pwr := { s2.pwr with log := log }, psg := { s1.psg with reconFetch := none } } IMG_RLOG_IDX_BUSY false
  else { s1 with psg := { s1.psg with reconFetch := some (i, left', bad') } }

/-- A line of a lost unit comes from the partner (R214): no write from the vault's own image, so the unit is dirty (R177), and
once it is restored too. -/
def fetchedLost (s : State) (l : Nat) (d : Option Line) : State :=
  let s1 := setDirty (restoreLine s l d) (unitOf l) true
  { s1 with img := { s1.img with dirtyOnRestore := lins (unitOf l) s1.img.dirtyOnRestore } }

/-- One line of FETCH_DATA: for a running APPLY, for a lost unit of the restore, or for a poisoned line (R129, R214, R215). -/
def fetchedLine (s : State) (l : Nat) (d : Option Line) : State :=
  match s.psg.reconFetch with
  | some (i, left, bad) => if left.contains l then reconLine s i left bad l d else poisonLine s l d
  | none => poisonLine s l d
where
  poisonLine (s : State) (l : Nat) (d : Option Line) : State :=
    if !unitReady s (unitOf l) then (if (newestEntry s (unitOf l)).lost then fetchedLost s l d else s)
    else match s.psg.fetches.find? (fun e => e.1 = l) with
      | none => s
      | some e =>
        let s1 := { s with psg := { s.psg with fetches := s.psg.fetches.filter (fun x => x.1 ≠ l) } }
        match d with
        | none => raise s1 (srcPsg 7)
        | some x => if e.2 then s1 else bump (dramWrite s1 l x none) PSG_POISON_FIXED_COUNT

/-! Ownership (R121 to R124). -/

/-- OWNER of windows first to last becomes side v. -/
def moveRange (s : State) (first last v : Nat) : State :=
  (List.range (last + 1 - first)).foldl (fun x k => moveOwner x (first + k) v) s

/-- OWN_REQ, OWN_GRANT and OWN_DONE carry the range and the new side (R114). -/
def sendOwn (s : State) (typ mseq first last sd : Nat) : State := psgSend s typ mseq sd last 0 first []

/-- PSG_OWN_CMD.GO (R121, R122). -/
def ownGo (s : State) : State :=
  let first := fld s PSG_OWN_CMD_FIRST
  let last := fld s PSG_OWN_CMD_LAST
  let tgt := fld s PSG_OWN_CMD_TARGET
  if s.psg.handshake.isSome then setFld s PSG_OWN_CMD_STATUS 3
  else if !psgUp s then setFld s PSG_OWN_CMD_STATUS 4
  else if last < first then setFld s PSG_OWN_CMD_STATUS 5
  else
    let give := decide (tgt ≠ side s)
    let hs : Handshake := ⟨first, last, decide (tgt = 1), give, s.now⟩
    let s1 := setFld { s with psg := { s.psg with handshake := some hs, moving := give } } PSG_OWN_CMD_STATUS 1
    if give then s1 else sendOwn s1 5 0 first last tgt

/-- The vault becomes the giver of a range (R121, step 2). -/
def giveRange (s : State) (first last : Nat) (sd : Bool) : State :=
  setFld { s with psg := { s.psg with handshake := some ⟨first, last, sd, true, s.now⟩, moving := true } } PSG_OWN_CMD_STATUS 1

/-- OWN_REQ (R121, R122): of two that cross for overlapping ranges the one of side 0 proceeds, the vault of side 1 refuses its
own. Two that cross for ranges apart refuse each other, since at each vault another handshake is running: the partner will refuse
this vault's, which ends with STATUS 3 (log 25, DEDUCED). A giver refuses it and goes on; a range upside down is refused. -/
def ownReqIn (s : State) (first last : Nat) (sd : Bool) : State :=
  match s.psg.handshake with
  | none => if last < first then setFld s PSG_OWN_CMD_STATUS 5 else giveRange s first last sd
  | some h =>
    if h.giver then s
    else if h.first ≤ last ∧ first ≤ h.last then (if side s = 1 then giveRange s first last sd else s)
    else setFld { s with psg := { s.psg with handshake := none } } PSG_OWN_CMD_STATUS 3

/-- Owner-only requests of a range that have not executed or are not acknowledged (R121, step 3). -/
def rangeBusy (s : State) (first last : Nat) : Bool :=
  s.adm.flights.any (fun f => ownerOnly f.opc && decide (first ≤ f.win) && decide (f.win ≤ last) &&
    (decide (0 < f.left) || f.ack.isSome))

/-- The giver's last MIRROR for a range; where it sent none, the spec states no MSEQ: a free value (log 4, DESIGN CHOICE). -/
def rangeMseq (s : State) (first last : Nat) : Nat × State :=
  match s.psg.winMseq.find? (fun e => decide (first ≤ e.1) && decide (e.1 ≤ last)) with
  | some e => (e.2, s)
  | none => let p := drawNat s; (p.1 % 2 ^ 32, p.2)

/-- The giver flips (R121, step 4). -/
def giverFlip (s : State) : State :=
  match s.psg.handshake with
  | some h =>
    if h.giver && s.psg.moving && !rangeBusy s h.first h.last then
      let (m, s1) := rangeMseq (moveRange s h.first h.last (b2n h.side)) h.first h.last
      sendOwn { s1 with psg := { s1.psg with moving := false } } 6 m h.first h.last (b2n h.side)
    else s
  | none => s

/-- OWN_GRANT: the taker flips and is done (R121, step 5); a returning vault may then enter SERVE (R132). A request of its own
for another range met the giver's handshake and was refused: STATUS 3 (R122; log 25, DEDUCED). -/
def ownGrantIn (s : State) (first last : Nat) (sd : Bool) : State :=
  let s1 := sendOwn (moveRange s first last (b2n sd)) 7 0 first last (b2n sd)
  let other := s.psg.handshake.any (fun h => decide (h.first ≠ first) || decide (h.last ≠ last))
  culdesacDone (setFld { s1 with psg := { s1.psg with handshake := none } } PSG_OWN_CMD_STATUS (if other then 3 else 2))

/-- OWN_DONE: the giver clears the moving mark (R121, step 6). -/
def ownDoneIn (s : State) (first last : Nat) : State :=
  match s.psg.handshake with
  | some h =>
    if h.giver && decide (h.first = first) && decide (h.last = last) then
      setFld { s with psg := { s.psg with handshake := none, moving := false } } PSG_OWN_CMD_STATUS 2
    else s
  | none => s

/-! Scrub with compare masks (R127, R128). -/

/-- The masked bytes of line l as the digest takes them: zero outside the mask. -/
def digestBytes (s : State) (l : Nat) : List Nat := bytesOf (maskedLine 0 (readLine s l) (maskOf s l)).toNat 64

/-- The digest of unit u (R127). With a poisoned line in it the spec states no digest: a free value (log 4, DESIGN CHOICE). -/
def unitDigest (s : State) (u : Nat) : Nat × State :=
  if (unitPoison s u).isEmpty then
    ((List.range 256).foldl (fun c k => (digestBytes s (256 * u + k)).foldl crc64Byte c) 0, s)
  else let p := drawWord s; (p.1.toNat, p.2)

/-- The scrub reads a unit: its rows, and its poisoned lines (R92, R97, R129). -/
def readUnit (s : State) (u : Nat) : State :=
  (List.range 256).foldl (fun x k =>
    let y := touchRow x (256 * u + k)
    if isPoison y (256 * u + k) then poisonRead y (256 * u + k) else y) s

/-- DIGEST: the partner's own copy against it (R128, steps 1 and 2); a mismatch starts the watch anew, one at a recheck keeps it,
a match ends it. -/
def digestIn (s : State) (l d : Nat) (recheck : Bool) : State :=
  let u := unitOf l
  let (own, s1) := unitDigest (readUnit s u) u
  let rest := s1.psg.watch.filter (fun e => e.1 ≠ u)
  if own = d then psgSend { s1 with psg := { s1.psg with watch := rest } } 9 0 0 (256 * u) 0 0 []
  else
    let w := if recheck && s1.psg.watch.any (fun e => e.1 = u) then s1.psg.watch else rest ++ [(u, [])]
    psgSend { s1 with psg := { s1.psg with watch := w } } 9 0 1 (256 * u) 0 0 []

/-- REPAIR of a unit, one message to the line; a poisoned line is never sent as data (R116, R128). -/
def sendRepair (s : State) (u : Nat) : State :=
  (List.range 256).foldl (fun x k =>
    let l := 256 * u + k
    if isPoison x l then poisonRead (touchRow x l) l else psgSend (touchRow x l) 0xA 0 0 l 1 0 (lineSlots (readLine x l))) s

/-- DIGEST_RESULT at the owner: the first mismatch waits SETTLE, the second repairs (R128, steps 2 to 4). -/
def digestResultIn (s : State) (l : Nat) (mismatch : Bool) : State :=
  let u := unitOf l
  let second := s.psg.recheck.contains u
  let s1 := { s with psg := { s.psg with recheck := ldel u s.psg.recheck } }
  if mismatch then
    if second then raise (setFld (sendRepair s1 u) PSG_LAST_MISMATCH_LINE (256 * u)) (srcPsg 6)
    else { s with psg := { s.psg with recheck := lins u s.psg.recheck } }
  else if second then bump s1 PSG_SCRUB_TRANSIENT_COUNT else s1

/-- SETTLE has passed: DIGEST again, as a recheck (R128, step 2). -/
def recheckSend (s : State) (u : Nat) : State :=
  if s.psg.recheck.contains u && psgUp s then
    let (d, s1) := unitDigest (readUnit s u) u
    psgSend s1 8 0 1 (256 * u) 0 0 [BitVec.ofNat 128 d]
  else s

/-! Streams, notices, generations (R123 to R134, R205). -/

/-- STREAM: the lines enter the mirror queue; those of an offline subchannel are its resync (R107, R126). -/
def streamIn (s : State) (l : Nat) (ls : List Line) : State :=
  let s1 := enqueueLines s l ls false
  let off := ((List.range ls.length).filter (fun k => abandoned s (l + k))).map (fun k => subOf s (l + k))
  { s1 with dram := { s1.dram with resynced := off.foldl (fun m n => nset m n 1) s1.dram.resynced } }

/-- STREAM_END: RD and EXM of unowned windows resume (R126, R206); an offline subchannel has its content again (R107); a
returning vault has caught up (R132). -/
def streamEndIn (s : State) : State :=
  let ended := (List.range 32).foldl (fun m n => if nget m n = 1 then nset m n 2 else m) s.dram.resynced
  let s1 := { s with psg := { s.psg with holdUnowned := false, holdAll := false }, dram := { s.dram with resynced := ended } }
  culdesacDone (setFlag s1 PSG_STAT_RESYNC_DST false)

/-- Stream of this vault ends (R125, R126): CATCHUP clears, and a WRD that waited since the Passage went down is sent again to
be acknowledged. -/
def streamSent (s : State) : State :=
  let s0 := setFld (setFlag s PSG_STAT_CATCHUP false) PSG_RESYNC_REMAIN 0
  let s1 := { s0 with psg := { s0.psg with needEnd := false, source := false } }
  let wait := s1.adm.flights.filter (fun f => f.ack = some (2 ^ 32))
  let s2 := wait.foldl (fun x f =>
    let y := mirrorOut x f.dline f.n (wrdSlots x f)
    updFlight y f.hdr.tag (fun g => { g with ack := some y.psg.txMseq })) s1
  answerWaiting s2

/-- NOTICE resync request (R132, R205): forward-all begins in SERVE, or once the vault is there again (log 25, DEDUCED). -/
def resyncAsk (s : State) : State :=
  let s1 := notePartner s .culdesac
  if s1.vault = .serve then beginForwardAll s1
  else { s1 with psg := { s1.psg with resyncAsked := true } }

/-- NOTICE SERVE entered (R133, R205). A vault that enters RESTORE sends it too; the registry says which. -/
def servedIn (s : State) : State :=
  let owed := s.psg.needEnd || s.psg.markDual
  let s1 := { s with psg := { s.psg with servedNotice := s.psg.servedNotice || flag s PSG_STAT_FWD_ALL, markDual := false,
                                         needEnd := owed, alone := false } }
  startCatchup (notePartner s1 (if s1.psg.partner = some .restore then .restore else .serve))

/-- NOTICE (R124, R132, R133). Other values of ARG have no meaning. -/
def noticeIn (s : State) (arg : Nat) : State :=
  if arg = 1 then notePartner s .fenced else
  if arg = 2 then notePartner s .sealed else
  if arg = 3 then resyncAsk s else
  if arg = 4 then servedIn s else s

/-- 66 us after forward-all began (R132, step 3): the service reserve, and the STREAM routine. -/
def resyncStart (s : State) : State :=
  if flag s PSG_STAT_FWD_ALL && s.psg.source then
    let s1 := setFld s PSG_RESYNC_REMAIN (streamUnits s)
    requestRoutine { s1 with adm := { s1.adm with serviceReserve := reserveInForce s1 } } 2 6
  else s

/-- GEN: the partner's G and T, answered once (R130); a vault in JOIN goes on (R205). -/
def genIn (s : State) (slot : Nat) : State :=
  let s1 := setFld (setFld s PSG_GEN_PARTNER_G (slot % 2 ^ 64)) PSG_TAKEOVER_PARTNER_T (bitsOf slot 95 64)
  let back := decide (fld s PSG_TAKEOVER_T ≤ bitsOf slot 95 64)
  joinDecide (sendGenOnce { s1 with psg := { s1.psg with genSeen := true, alone := s.psg.alone && !back } })

/-- The OWNER bits of all windows; a window that is not valid enters as zero (R123). -/
def ownBits (s : State) : Nat := (validWindows s).foldl (fun a w => a + (windowOf s w).owner * 2 ^ w) 0

/-- OWNSUM of this vault's table. -/
def ownSum (s : State) : Nat := crc64 (bytesOf (ownBits s) 512)

/-- FWD_END (R133): forward-all ends for every port. -/
def fwdEndOp (s : State) : State :=
  noteReserve (setFlag { s with psg := { s.psg with source := false, fwdEnded := [], servedNotice := false } } PSG_STAT_FWD_ALL false)

end Sys2Proof.Machine
end

