-- ==== Sys2Proof/Machine/Census.lean ====
section
/-! DEFINITION. The Census (R315 to R322): arming, the fill, the cut, the copy pass and the reports. -/
namespace Sys2Proof.Machine

/-- The snapshot windows (R316). -/
def snapWindows (s : State) : List Window := ((validWindows s).map (windowOf s)).filter (snapWindow s)

/-- Lines of the snapshot windows; 32 GiB are 2^29 lines (R316). -/
def snapLines (s : State) : Nat := (snapWindows s).foldl (fun a w => a + w.lines) 0

/-- The units a window covers. -/
def windowUnits (w : Window) : List Nat :=
  let a := unitOf w.dbase
  (List.range (unitOf (w.dbase + w.lines - 1) + 1 - a)).map (fun k => a + k)

/-- Units of the snapshot windows still to copy (R320, R330). -/
def snapUnitsLeft (s : State) : Nat :=
  (((snapWindows s).flatMap windowUnits).filter (fun u => !s.dram.census.get u)).length

def noteUnitsLeft (s : State) : State := setFld s CEN_PROG_UNITS_LEFT (snapUnitsLeft s)

/-- RESULT 2 or 3, with NO_SNAP (R317, R327). -/
def noSnap (s : State) (r : Nat) : State := raise (cenResult s r) (srcCen 1)

/-- CEN_STAT.EPOCH becomes C mod 4 (R318). -/
def flipEpoch (s : State) (c : BitVec 32) : State := setFld s CEN_STAT_EPOCH (c.toNat % 4)

/-- The first delivery of CEN_ARM: the first row of R317 that applies (log 38, DEDUCED). -/
def cenArmIn (s : State) (c : BitVec 32) (t : Word) : State :=
  let s1 := setFld s CEN_STAT_NUMBER c.toNat
  let st := fld s CEN_STAT_STATE
  if t.toNat ≤ podNs s then noSnap (flipEpoch s1 c) 3
  else
    let s2 := { s1 with cen := { s1.cen with armed := some (c, t), snap := false, filled := false, partial_ := false } }
    if !watchedState s.vault || decide (st ≠ 0) || decide (2 ^ 29 < snapLines s) then
      noSnap (if st = 0 then setFld s2 CEN_STAT_STATE 2 else s2) 2
    else
      let s3 := setFld (setFld s2 CEN_STAT_STATE 1) CEN_STAT_RESULT 0
      let s4 := { s3 with cen := { s3.cen with snap := true }, dram := { s3.dram with census := Bitmap.zero } }
      requestRoutine (noteReserve (noteUnitsLeft s4)) 3 9
where
  /-- SERVE or RESTORE. -/
  watchedState : VaultState → Bool
    | .serve | .restore => true
    | _ => false

/-- The capture half of a window. -/
def captureHalf (s : State) (w : Window) : List Nat :=
  (List.range w.lines).map (fun k => fldAt s CEN_WIN_SNAP_DBASE w.idx + k)

/-- CENSUS fills every capture line with the poison pattern (R317). The response to T waits for the end of the fill. -/
def censusFill (s : State) : State :=
  if s.cen.snap && !s.cen.filled && decide (fld s CEN_STAT_STATE = 1) then
    let cap := ((snapWindows s).flatMap (captureHalf s)).foldl (fun l k => lins k l) s.dram.capture
    noteReserve (setFld { s with cen := { s.cen with filled := true }, dram := { s.dram with capture := cap } } CEN_STAT_STATE 2)
  else s

/-- CEN_ARM of a master's Census leaves (R315). -/
def sendArm (s : State) (c : BitVec 32) (t : Word) : State := ringSend s 0x30 0 (.nums [c.toNat, t.toNat])

/-- A Census is armed or copying as far as this vault knows (R315). -/
def armBusy (s : State) : Bool :=
  censusBusy s || (s.cen.master && decide (fld s CEN_REPORT_DONE < fld s RNG_STAT_MEMBERS))

/-- A write of CEN_CTL.ARM (R315). -/
def armOp (s : State) : State :=
  let t := getReg s (CEN_T_T.key 0 0)
  let early := decide (t.toNat < podNs s + fld s CEN_CFG_LEAD_MS * 1000000)
  if !flag s RNG_STAT_MASTER || early || armBusy s || !accepts s 0x93 then setFlag s CEN_STAT_ARM_REFUSED true
  else
    let c : BitVec 32 := BitVec.ofNat 32 (fld s CEN_STAT_NUMBER + 1)
    let s1 := setFld (setFld s CEN_REPORT_DONE 0) CEN_REPORT_MISSING 0
    let s2 := { s1 with cen := { s1.cen with master := true, reports := [] } }
    cenArmIn (sendArm s2 c t) c t

/-- ARM (R315). -/
def execArm (q : Requester) (s : State) : Res := .next (guarded s q 0x93 (armOp s))

/-- CEN_ARM_REBROADCAST (R315). -/
def execCenArmRebroadcast (s : State) : Res :=
  .next (match s.cen.armed with
    | some (c, t) => if s.cen.master && ringOn s then sendArm s c t else s
    | none => s)

/-- CEN_ARM (R317): a number seen before is no first delivery. -/
def execCenArm (p : RingPort) (f : FrameHdr) (c : BitVec 32) (t : Word) (s : State) : Res :=
  .next (frameIn s p 0x30 f (.nums [c.toNat, t.toNat]) (fun x =>
    if fld x CEN_STAT_NUMBER = c.toNat then x else cenArmIn x c t))

/-- The epoch flips at T (R318); a fill that has not ended is abandoned (R317). -/
def censusCutOp (s : State) (c : BitVec 32) : State :=
  let s1 := flipEpoch { s with cen := { s.cen with armed := none } } c
  if s1.cen.snap then
    if s1.cen.filled then s1
    else noSnap (noteReserve (setFld { s1 with cen := { s1.cen with snap := false } } CEN_STAT_STATE 0)) 2
  else if fld s1 CEN_STAT_STATE = 4 then s1 else setFld s1 CEN_STAT_STATE 0

/-- CENSUS_CUT (R318). -/
def execCensusCut (s : State) : Res :=
  .next (match s.cen.armed with
    | some (c, _) => if dataUp s then censusCutOp s c else s
    | none => s)

/-- Requests of an old epoch still wait for their response (R320). -/
def oldEpochWaits (s : State) : Bool := s.adm.flights.any (fun f => f.epoch.toNat ≠ fld s CEN_STAT_EPOCH)

/-- CENSUS_PASS_START (R320). -/
def execCensusPassStart (s : State) : Res :=
  .next (if dataUp s && s.cen.snap && s.cen.filled && s.cen.armed.isNone && decide (fld s CEN_STAT_STATE = 2) &&
      !oldEpochWaits s then
    noteUnitsLeft (setFld { s with cen := { s.cen with passStart := s.pod } } CEN_STAT_STATE 3)
  else s)

/-- COPY path 3 of the CENSUS routine copied a unit: its bit sets and it takes no further copies on write (R320). -/
def censusUnitDone (s : State) (u : Nat) : State :=
  if decide (fld s CEN_STAT_STATE = 3) && s.cen.snap then
    noteUnitsLeft { s with dram := { s.dram with census := s.dram.census.set u true } }
  else s

/-- A report reaches the ring master (R321; log 38, DEDUCED). -/
def noteReport (s : State) (id : Word) : State :=
  if s.cen.master && !s.cen.reports.contains id then
    let r := s.cen.reports ++ [id]
    setFld { s with cen := { s.cen with reports := r } } CEN_REPORT_DONE r.length
  else s

/-- The pass ends (R320, R321): COMPLETE, or PARTIAL where a window moved, COPY_OVER beyond 250 ms, and the report. -/
def censusPassEnd (s : State) : State :=
  if decide (fld s CEN_STAT_STATE = 3) && s.cen.snap then
    let us := (s.pod - s.cen.passStart) / usUnits
    let r := if s.cen.partial_ then 5 else 1
    let s1 := noteReserve (cenResult { s with cen := { s.cen with snap := false } } r)
    let s2 := setFld (setFld s1 CEN_STAT_STATE 4) CEN_PROG_PASS_US (min (2 ^ 32 - 1) us)
    let s3 := if 250000 < us then raise s2 (srcCen 2) else s2
    let units := ((snapWindows s).flatMap windowUnits).length
    if s.cen.master then noteReport s3 (vaultId s3)
    else ringSend s3 0x31 (BitVec.ofNat 64 (fld s3 RNG_MASTER_ID)) (.nums [fld s3 CEN_STAT_NUMBER, r, units])
  else s

/-- CEN_DONE (R321). -/
def execCenDone (p : RingPort) (f : FrameHdr) (c : BitVec 32) (result : BitVec 4) (units : BitVec 32) (s : State) : Res :=
  .next (frameIn s p 0x31 f (.nums [c.toNat, result.toNat, units.toNat]) (fun x =>
    if c.toNat = fld x CEN_STAT_NUMBER then noteReport x f.origin else x))

/-- CEN_REPORT_TIMEOUT (R321). -/
def execCenReportTimeout (s : State) : Res :=
  .next (if s.cen.master && ringOn s then
    setFld { s with cen := { s.cen with master := false } } CEN_REPORT_MISSING
      (fld s RNG_STAT_MEMBERS - fld s CEN_REPORT_DONE)
  else s)

/-- RELEASE (R322). -/
def execCenRelease (q : Requester) (s : State) : Res :=
  .next (guarded s q 0x93 (if fld s CEN_STAT_STATE = 4 then setFld s CEN_STAT_STATE 0 else s))

end Sys2Proof.Machine
end

