-- ==== Sys2Proof/Machine/SeqOps.lean ====
section
/-! DEFINITION. The Sundug sequencer (R242 to R267): the control store and its checks, starts and ends of routines, interrupts,
hooks, faults and the issue of a microword. -/
namespace Sys2Proof.Machine

/-- Sources of the SEQ page (R265). -/
def srcSeq (b : Nat) : Nat := srcNo 0x80 b

/-! The control store (R245, R246, R260, R261). -/

/-- Word a of bank b: 0 A, 1 B. -/
def bankWord (s : State) (b a : Nat) : BitVec 128 := sget 0 (if b = 0 then s.seq.bankA else s.seq.bankB) a

def setBankWord (s : State) (b a : Nat) (w : BitVec 128) : State :=
  if b = 0 then { s with seq := { s.seq with bankA := sset 0 s.seq.bankA a w } }
  else { s with seq := { s.seq with bankB := sset 0 s.seq.bankB a w } }

/-- CRC-32C over n words from word `first`, each 16 bytes little-endian, word `skip` taken as zero (R246, R260). -/
def bankCrc (s : State) (b first n skip : Nat) : Nat :=
  ((List.range n).foldl (fun c k =>
    (bytesOf (if first + k = skip then 0 else (bankWord s b (first + k)).toNat) 16).foldl (crcDownByte 0x82F63B78) c)
    0xFFFFFFFF) ^^^ 0xFFFFFFFF

/-- The CRC of a whole bank. -/
def wholeCrc (s : State) (b : Nat) : Nat := bankCrc s b 0 16384 1

/-- The customer region of a bank is empty (R260). -/
def custEmpty (s : State) (b : Nat) : Bool := decide (bitsOf (bankWord s b 0x3000).toNat 63 32 = 0)

/-- A non-empty customer region passes (R261). -/
def custPasses (s : State) (b : Nat) : Bool :=
  let w := (bankWord s b 0x3000).toNat
  decide (bitsOf w 63 32 = 0x43555331) && decide (bitsOf w 31 16 = bitsOf (bankWord s b 0).toNat 31 16) &&
    decide (bitsOf (bankWord s b 0x3001).toNat 31 0 = bankCrc s b 0x3000 4096 0x3001)

/-- The check of R246 as SWITCH_RESULT codes it: 1 passes. -/
def bankVerdict (s : State) (b : Nat) : Nat :=
  let h := (bankWord s b 0).toNat
  if bitsOf h 63 32 ≠ 0x53444731 then 2 else
  if bitsOf h 31 16 ≠ fld s SEQ_STAT_HW_ABI then 3 else
  if bitsOf (bankWord s b 1).toNat 31 0 ≠ wholeCrc s b then 4 else
  if !custEmpty s b && !custPasses s b then 6 else 1

def bankPasses (s : State) (b : Nat) : Bool := decide (bankVerdict s b = 1)

/-! Contexts. -/

/-- The bank new routines start on (R258). -/
def activeBank (s : State) : Nat := fld s SEQ_CTL_ACTIVE

/-- The bank a context runs on (R258). -/
def ctxBank (s : State) (c : Fin 4) : Nat := b2n (bitAt (fld s SEQ_STAT_CTX_BANK) c.val)
def setCtxBank (s : State) (c : Fin 4) (b : Nat) : State :=
  setFld s SEQ_STAT_CTX_BANK (withBits (fld s SEQ_STAT_CTX_BANK) c.val c.val b)

/-- The sequencer runs (R266). -/
def seqOn (s : State) : Bool := dataUp s && flag s SEQ_CTL_ENABLE && pageRuns s 0x80

/-- A field of SEQ_CTXn. -/
def ctxF (c : Fin 4) (f : Fld) : Fld := f.nth c.val

/-- SEQ_CTXn.RESULT is written, with its event (R377). -/
def writeResult (s : State) (c : Fin 4) (r : Nat) : State := pendEvent (setFld s (ctxF c SEQ_CTX_RESULT) r) 0x80 1

/-- The first word of a routine (R243). -/
def vectorOf (r : Nat) : Nat := if r < 16 then 0x10 + r else 0x3004 + (r - 16)

/-- Routines that a routine that is not preemptible ends (R243). -/
def preemptible (r : Nat) : Bool := decide (r = 4) || decide (r = 5) || decide (r = 7) || decide (16 ≤ r)

/-- The vault serves without a loss declared. -/
def steady (s : State) : Bool := decide (s.vault = .serve) || decide (s.vault = .restore)

/-- The state a routine needs before it starts: the one its starter of R243 names, and the Passage for STREAM and SCRUB
(R251). Context 1 starts nothing while its PAUSE lasts. -/
def mayStart (s : State) (c : Fin 4) (r : Nat) : Bool :=
  !((getCtx s c).events.contains evPause) &&
  (if r = 0 then decide (s.vault = .dump) else
   if r = 1 then decide (s.vault = .ride) else
   if r = 3 then decide (s.vault = .restore) else
   if r = 6 then serving s && psgUp s else
   if r = 7 then decide (s.vault = .serve) && psgUp s && decide (s.psg.partner ≠ some .restore) else
   if r = 8 then dataUp s else
   if r = 2 ∨ r = 4 ∨ r = 5 ∨ r = 9 ∨ r = 10 ∨ 16 ≤ r then steady s else false)

/-- What the start of a routine does beside the context (R143, R147, R317); an abort seen since DUMP was entered reaches the DUMP
routine (R159, R160). -/
def onStart (s : State) (r : Nat) : State :=
  if r = 0 then (if s.pwr.abortSeen && !s.pwr.committed then raiseEvent s 0 evAbort else s) else
  if r = 1 then setFld (setFlag s PWR_STAT_SPEC true) PWR_DUMP_STAT_PHASE 1 else
  if r = 9 then censusFill s else s

/-- A routine starts at its vector on the active bank (R243, R258). A customer routine starts with zero registers (R264). -/
def startRoutine (s : State) (c : Fin 4) (r : Nat) : State :=
  let x := getCtx s c
  let x1 := { x with run := 1, routine := BitVec.ofNat 5 r, pc := BitVec.ofNat 14 (vectorOf r), stack := [], blocks := 0,
                     desc := 0, irq := none, hook := none, commitAt := none, stopReq := false, pend := ldel r x.pend,
                     g := if 16 ≤ r then List.replicate 16 0 else x.g }
  onStart (setCtxBank (setFld (setCtx s c x1) (ctxF c SEQ_CTX_RESTARTS) 0) c (activeBank s)) r

/-- What the end of a routine does beside the context: SPEC and CKPT of PWR_STAT clear, but that of a checkpoint whose commit
record the commit engine holds (R144, R147). -/
def onEnd (s : State) (r : Nat) : State :=
  if r = 1 then
    let s1 := setFlag s PWR_STAT_SPEC false
    if fld s1 PWR_DUMP_STAT_PHASE = 1 then setFld s1 PWR_DUMP_STAT_PHASE 0 else s1
  else if r = 2 ∧ s.img.closing.isNone then
    let s1 := noteReserve (setFlag s PWR_STAT_CKPT false)
    if fld s1 PWR_DUMP_STAT_PHASE = 2 then setFld s1 PWR_DUMP_STAT_PHASE 0 else s1
  else s

/-- The routine ends with a result (R249, R251): the context is idle; what waited for this routine alone is gone. -/
def endRoutine (s : State) (c : Fin 4) (result : Nat) : State :=
  let x := getCtx s c
  let x1 := { x with run := 0, blocks := 0, desc := 0, irq := none, hook := none, commitAt := none, stopReq := false,
                     events := x.events.filter (fun e => decide (e = evDump) || decide (e = evPause)) }
  onEnd (writeResult (bump (setCtx s c x1) SEQ_COUNTS_ROUTINES) c result) x.routine.toNat

/-! The Plaza entries of a context (R78, R253). -/

/-- The restore writes of block b (R207): their sequence number is the block's, so that a restarted routine's duplicates are
discarded (R78, R254). -/
def plazaRestore (s : State) (client b : Nat) (lines : List (Nat × Option Line)) : State :=
  plazaEnter s client b true (subOf s (64 * b)) 30 lines

/-- Cancel the entries of a context that have not been granted (R253, step 1). -/
def cancelEntries (s : State) (c : Fin 4) : State :=
  let mine := fun (e : PlazaEntry) => decide (e.client = c.val) && decide (e.stage = .plaza)
  let n := (s.adm.plaza.filter mine).length
  bumpBy { s with adm := { s.adm with plaza := s.adm.plaza.filter (fun e => !mine e) } } PLZ_CANCEL_DONE n

/-! Stripes open for writing (R171, R253). -/

/-- The ledger entry and the directory entry that the open generation began with. -/
def entryBefore (s : State) (u : Nat) : LedgerEntry :=
  match s.img.closing.bind (fun c => c.ledger.find? (fun e => e.1 = u)) with
  | some e => e.2
  | none => sget LedgerEntry.zero s.img.committed u
def spanBefore (s : State) (k : Nat) : DirEntry :=
  sget DirEntry.none_ ((s.img.closing.map (fun c => c.dirs.dir)).getD s.img.commDir.dir) k

/-- IMG voids every stripe of the context that has no parity written, and sets the dirty bit of its units; a ledger page in one is
to be written again (R253, step 2). -/
def voidStripes (s : State) (c : Fin 4) : State :=
  let mine := s.img.openStripes.filter (fun o => o.ctx = c.val)
  let unit := fun (x : State) (u : Nat) =>
    let e := newestEntry x u
    setDirty (setOpened x u { entryBefore x u with lost := e.lost, diverged := e.diverged }) u true
  let span := fun (x : State) (k : Nat) =>
    respan (setOpenDir x (fun g => { g with dir := sset DirEntry.none_ g.dir k (spanBefore x k) })) [k]
  let s1 := { s with img := { s.img with openStripes := s.img.openStripes.filter (fun o => o.ctx ≠ c.val) } }
  (mine.flatMap (fun o => o.spans)).foldl span ((mine.flatMap (fun o => o.units)).foldl unit s1)

/-! Faults (R253, R256, R257). -/

/-- SEQ_FAULT_LOG (R266). -/
def logSeqFault (s : State) (c : Fin 4) (cause pc : Nat) : State :=
  setFld (setFld (setFld (setFld s SEQ_FAULT_LOG_CTX c.val) SEQ_FAULT_LOG_BANK (ctxBank s c)) SEQ_FAULT_LOG_CAUSE cause)
    SEQ_FAULT_LOG_PC pc

/-- The source of a cause (R265). -/
def causeSrc (cause : Nat) : Nat :=
  srcSeq (if cause = 1 then 1 else if cause = 4 then 3 else if cause = 5 then 4 else if cause = 6 then 5 else 2)

/-- What step 3 of R253 clears. -/
def CtxSt.cleared (x : CtxSt) : CtxSt :=
  { x with g := List.replicate 16 0, flags := Flags.zero, stack := [], blocks := 0, desc := 0, irq := none, hook := none,
           stopReq := false }

/-- A fault in a routine (R253): the cancels, the stripes, the registers, the log, and the restart at the vector, or after
COMMIT at the word behind it with the registers held there (R256). Beyond RESTART_MAX the routine ends FAULTED (R257). A
customer routine is never restarted (R264), and an H0 poll that faults just ends. -/
def seqFault (s : State) (c : Fin 4) (cause : Nat) : State :=
  let x := getCtx s c
  if x.run = 0 then s else
    let s1 := voidStripes (cancelEntries s c) c
    let s2 := setCtx s1 c x.cleared
    let s3 := logSeqFault s2 c cause x.pc.toNat
    let s4 := if cause = 1 then bump s3 SEQ_CS_ERR_UNCORR else s3
    let more := if x.commitAt.isSome ∧ cause ≠ 6 then [causeSrc cause, srcSeq 5] else [causeSrc cause]
    let s5 := raiseAll s4 more
    let y := getCtx s5 c
    if y.run = 0 then s5
    else if x.hook.any (fun h => h.fromIdle) then setCtx s5 c { y with run := 0 }
    else if 16 ≤ x.routine.toNat then endRoutine s5 c 6
    else if fld s5 (ctxF c SEQ_CTX_RESTARTS) < fld s5 SEQ_LIMITS_RESTART_MAX then
      let s6 := bump (bump s5 (ctxF c SEQ_CTX_RESTARTS)) SEQ_COUNTS_RESTARTS
      match x.commitAt with
      | some (g, pc) => setCtx s6 c { y with g := g, pc := pc, run := 5 }
      | none => setCtx s6 c { y with pc := BitVec.ofNat 14 (vectorOf x.routine.toNat), run := 1 }
    else raise (endRoutine s5 c 6) (srcSeq 6)

/-! Hooks (R262, R263). -/

/-- A checkpoint request or a promotion that a hook's G0 asks for (R262). -/
def hookResult (s : State) (h1 : Bool) (g0 : Word) : State :=
  if h1 then (if g0.toNat < installedUnits s then promote s g0.toNat else s)
  else if g0.toNat % 2 = 1 then requestCheckpoint s else s

/-- The default of a hook (R262). -/
def hookDefault (h1 : Bool) : Word := if h1 then BitVec.allOnes 64 else 0

/-- A hook ends with G0 (R263): all that HOOK saved but G0 comes back. -/
def endHook (s : State) (c : Fin 4) (g0 : Word) : State :=
  let x := getCtx s c
  match x.hook with
  | none => s
  | some h =>
    let x1 := { x with g := if h.fromIdle then h.regs else h.regs.set 0 g0, flags := h.flags, stack := h.stack, pc := h.pc,
                       hook := none, run := if h.fromIdle then 0 else x.run, blocks := 0, desc := 0 }
    hookResult (setCtx s c x1) h.index g0

/-- Units of a window, for H1: its class and its last unit; outside every window 3 and all ones (R262). -/
def h1Inputs (s : State) (u : Word) : List Word :=
  match dramWindow s (256 * u.toNat) with
  | some w => [u, BitVec.ofNat 64 w.cls, BitVec.ofNat 64 (unitOf (w.dbase + w.lines - 1))]
  | none => [u, 3, BitVec.allOnes 64]

/-- The inputs of H0 (R262). With no commit yet the spec states no seconds: a free value (log 4, DESIGN CHOICE). -/
def h0Inputs (s : State) : List Word × State :=
  let (secs, s1) := if s.pwr.lastGen = 0 then drawNat s else ((s.pod + 1 - s.pwr.lastGen) / nsUnits / 1000000000, s)
  ([BitVec.ofNat 64 (dirtyUnits s), BitVec.ofNat 64 (podNs s), BitVec.ofNat 64 s.seq.dirtied, BitVec.ofNat 64 secs],
   { s1 with seq := { s1.seq with dirtied := 0 } })

/-- Hook `h1` may run on bank b: enabled, and the region is not empty (R260, R262). -/
def hookRuns (s : State) (h1 : Bool) (b : Nat) : Bool :=
  flag s (if h1 then SEQ_CUST_H1_EN else SEQ_CUST_H0_EN) && !custEmpty s b

/-- The context enters a hook (R263): inputs in the low registers, the others zero, an empty stack; a post-commit section goes on
(R255). -/
def enterHook (s : State) (c : Fin 4) (h1 : Bool) (inputs : List Word) (back : BitVec 14) (fromIdle : Bool) : State :=
  let x := getCtx s c
  let fr : HookFrame :=
    { regs := x.g, flags := x.flags, stack := x.stack, pc := back, used := 0, index := h1, fromIdle := fromIdle }
  setCtx s c { x with g := padTake 0 16 inputs, flags := Flags.zero, stack := [], hook := some fr, run := if x.run = 5 then 5 else 1,
                      pc := if h1 then 0x3003 else 0x3002 }

/-- A customer violation (R261): logged; the hook ends with its default, a customer routine with an unstated result, and
elsewhere the word has no effect. -/
def custViolation (s : State) (c : Fin 4) : State :=
  let x := getCtx s c
  let s1 := raise (logSeqFault s c 7 x.pc.toNat) (srcSeq 7)
  match x.hook with
  | some h => endHook s1 c (hookDefault h.index)
  | none =>
    if 16 ≤ x.routine.toNat then let p := drawNat s1; endRoutine p.2 c (p.1 % 256)
    else let y := getCtx s1 c; setCtx s1 c { y with pc := y.pc + 1 }

/-- After a microword of a hook (R263): beyond BUDGET it ends with its default. -/
def hookBudget (s : State) (c : Fin 4) : State :=
  let x := getCtx s c
  match x.hook with
  | some h =>
    if x.irq.isNone && decide (fld s SEQ_CUST_BUDGET ≤ h.used) then
      endHook (raise (logSeqFault s c 8 x.pc.toNat) (srcSeq 8)) c (hookDefault h.index)
    else s
  | none => s

/-! Issue of a microword (R242, R247 to R249, R252, R255, R261). -/

/-- OPC and the fields of a control-store word (R247); the reserved bits do not matter. -/
def microOf (w : BitVec 128) : Nat × Micro :=
  let n := w.toNat
  (bitsOf n 127 122,
   { cond := BitVec.ofNat 4 (bitsOf n 121 118), rd := BitVec.ofNat 4 (bitsOf n 117 114),
     ra := BitVec.ofNat 4 (bitsOf n 113 110), rb := BitVec.ofNat 4 (bitsOf n 109 106),
     rc := BitVec.ofNat 4 (bitsOf n 105 102), mod := BitVec.ofNat 6 (bitsOf n 101 96),
     target := BitVec.ofNat 14 (bitsOf n 77 64), imm := BitVec.ofNat 64 (bitsOf n 63 0) })

/-- The word at the context's PC. -/
def ctxWord (s : State) (c : Fin 4) : BitVec 128 := bankWord s (ctxBank s c) (getCtx s c).pc.toNat

/-- The context is ready, and the word at its PC is this one (R242; log 47, DESIGN CHOICE). -/
def issues (s : State) (c : Fin 4) (opc : Nat) (m : Micro) : Bool :=
  let x := getCtx s c
  seqOn s && (decide (x.run = 1) || decide (x.run = 3) || decide (x.run = 5)) && decide (microOf (ctxWord s c) = (opc, m))

/-- COND holds (R248); 11 to 15 are reserved. -/
def condHolds (f : Flags) (cond : Nat) : Bool :=
  if cond = 0 then true else if cond = 1 then f.z else if cond = 2 then !f.z else if cond = 3 then f.c else
  if cond = 4 then !f.c else if cond = 5 then !f.c && !f.z else if cond = 6 then f.c || f.z else
  if cond = 7 then f.n != f.v else if cond = 8 then f.n == f.v else if cond = 9 then !f.f else f.f

/-- Instructions that run in the customer region (R249, R261): a hook may not WAITE or END, and only a hook may RETH. -/
def custAllowed (opc : Nat) (inHook : Bool) : Bool :=
  decide (opc ≤ 0x11) || decide (opc = 0x1D) || (decide (opc = 0x1C) && !inHook) || (decide (opc = 0x21) && !inHook) ||
    (decide (opc = 0x1F) && inHook)

/-- COPY, SCATTER, HOOK, COMMIT and END are illegal in a handler (R252). -/
def handlerBars (opc : Nat) : Bool := [0x14, 0x15, 0x1E, 0x1A, 0x21].contains opc

/-- Instructions that yield (R251), which the post-commit section may not contain (R255). -/
def yields (opc : Nat) : Bool := [0x14, 0x15, 0x18, 0x19, 0x1C].contains opc

/-- The PC lies in the customer region (R261). -/
def inCust (x : CtxSt) : Bool := decide (0x3000 ≤ x.pc.toNat)

/-- An illegal instruction or scratch address: in the customer region a violation, elsewhere a fault (R253, R261). -/
def seqTrap (s : State) (c : Fin 4) (cause : Nat) : State :=
  if inCust (getCtx s c) then custViolation s c else seqFault s c cause

/-- The PC moves to the next word. -/
def retire (s : State) (c : Fin 4) : State :=
  let x := getCtx s c
  setCtx s c { x with pc := x.pc + 1 }

/-- One microword more of the hook's budget; those of a handler in between do not count. -/
def countHook (s : State) (c : Fin 4) : State :=
  let x := getCtx s c
  match x.hook with
  | some h => if x.irq.isNone then setCtx s c { x with hook := some { h with used := h.used + 1 } } else s
  | none => s

/-- The microword issues (R247): its command has no effect unless the word stands at the PC of a ready context. `k` is the
instruction's own work, the PC's advance included. -/
def seqIssue (s : State) (c : Fin 4) (opc : Nat) (m : Micro) (k : State → Res) : Res :=
  if !issues s c opc m then .next s else
    let s0 := countHook s c
    let x := getCtx s0 c
    let done : Res → Res := fun r => match r with
      | .next t => .next (hookBudget t c)
      | r => r
    if 10 < m.cond.toNat then done (.next (seqTrap s0 c 2))
    else if !condHolds x.flags m.cond.toNat then done (.next (retire s0 c))
    else if inCust x && !custAllowed opc x.hook.isSome then done (.next (custViolation s0 c))
    else if (decide (x.run = 3) && handlerBars opc) || (decide (x.run = 5) && yields opc) then done (.next (seqTrap s0 c 2))
    else done (k s0)

/-- A general register. -/
def greg (x : CtxSt) (i : BitVec 4) : Word := x.g.getD i.toNat 0

/-- B: IMM when MOD bit 0 is one, else RB (R249). -/
def operandB (x : CtxSt) (m : Micro) : Word := if m.mod.toNat % 2 = 1 then m.imm else greg x m.rb

/-- RD := v, and the next word. -/
def putReg (s : State) (c : Fin 4) (rd : BitVec 4) (v : Word) : State :=
  let x := getCtx s c
  setCtx s c { x with g := x.g.set rd.toNat v, pc := x.pc + 1 }

/-- Z, C, N and V; F stays (R248). -/
def putFlags (s : State) (c : Fin 4) (z cy n v : Bool) : State :=
  let x := getCtx s c
  setCtx s c { x with flags := { x.flags with z := z, c := cy, n := n, v := v } }

/-- F reports a status: set where it is not OK (R248). Which instructions report one: log 19, DEDUCED. -/
def putStatus (s : State) (c : Fin 4) (ok : Bool) : State :=
  let x := getCtx s c
  setCtx s c { x with flags := { x.flags with f := !ok } }

/-- The flags of an addition (R248). -/
def addFlags (s : State) (c : Fin 4) (a b : Word) : State :=
  let r := a + b
  putFlags s c (decide (r = 0)) (decide (2 ^ 64 ≤ a.toNat + b.toNat)) r.msb (a.msb == b.msb && r.msb != a.msb)

/-- The flags of a subtraction or compare (R248). -/
def subFlags (s : State) (c : Fin 4) (a b : Word) : State :=
  let r := a - b
  putFlags s c (decide (r = 0)) (decide (a.toNat < b.toNat)) r.msb (a.msb != b.msb && r.msb != a.msb)

/-- The scratch address lies in the customer slice (R242). -/
def inSlice (c : Fin 4) (a : Nat) : Bool := decide ((if c = 3 then 0x400 else 0x700) ≤ a) && decide (a ≤ 0x7FF)

/-- A scratch access (R249, R253, R261). -/
def withScratch (s : State) (c : Fin 4) (a : Word) (k : State) : State :=
  if inCust (getCtx s c) && !inSlice c a.toNat then custViolation s c
  else if 2047 < a.toNat then seqFault s c 3 else k

/-- A branch or call target (R261). -/
def targetOk (x : CtxSt) (t : BitVec 14) : Bool := !inCust x || decide (0x3002 ≤ t.toNat)

/-! Interrupts and events (R251, R252, R255). -/

/-- The context takes a vectored interrupt. -/
def enterHandler (s : State) (c : Fin 4) (v : Nat) : State :=
  let x := getCtx s c
  let fr : IrqFrame := { pc := x.pc, flags := x.flags, blocks := x.blocks, desc := x.desc, high := x.g.drop 12 }
  setCtx s c { x with irq := some fr, g := x.g.take 12 ++ x.hand, pc := BitVec.ofNat 14 v, run := 3, blocks := 0, desc := 0 }

/-- The handler's vector of an event (R251). -/
def vectorOfEvent (c : Fin 4) (e : Nat) : Nat :=
  if e = evTick then 0x24 + c.val else if e = evDoorbell then 0x28 + c.val else 0x2C

/-- The events a WAITE at the PC waits for (R249). -/
def waitMask (s : State) (c : Fin 4) : Nat := (microOf (ctxWord s c)).2.imm.toNat % 65536

/-- The events raised, as a word; bit numbers in R251's order (log 20, DESIGN CHOICE). -/
def eventBits (l : List Nat) : Nat := l.foldl (fun a e => a + 2 ^ e) 0

/-- WAITE ends: RD := the events of the mask, which are taken (R249). -/
def finishWait (s : State) (c : Fin 4) (m : Micro) : State :=
  let x := getCtx s c
  let mine := x.events.filter (fun e => bitAt m.imm.toNat e && decide (e < 16))
  putReg (setCtx s c { x with run := 1, events := x.events.filter (fun e => !mine.contains e) }) c m.rd
    (BitVec.ofNat 64 (eventBits mine))

/-- A vectored event reaches a context (R251, R252): held in a handler and after COMMIT, given to a WAITE that waits for it,
else taken; none where no routine runs. A paused context holds it until RESUME. -/
def vectored (s : State) (c : Fin 4) (e : Nat) : State :=
  let x := getCtx s c
  if x.run = 0 then s
  else if x.run = 1 then enterHandler s c (vectorOfEvent c e)
  else if x.run = 2 then
    if bitAt (waitMask s c) e then finishWait (raiseEvent s c e) c (microOf (ctxWord s c)).2
    else enterHandler s c (vectorOfEvent c e)
  else raiseEvent s c e

/-- The first held vectored event is taken once the context runs again. -/
def takeHeld (s : State) (c : Fin 4) : State :=
  let x := getCtx s c
  match x.events.find? (fun e => decide (evTick ≤ e)) with
  | some e => if x.run = 1 then vectored (setCtx s c { x with events := ldel e x.events }) c e else s
  | none => s

/-- The routine can end or halt here: between microwords or blocks, outside a handler and a post-commit section. -/
def atYield (x : CtxSt) : Bool := decide (x.run = 1) || decide (x.run = 2) || decide (x.run = 4)

/-- At a unit boundary (R251). -/
def atUnit (x : CtxSt) : Bool := atYield x && decide (x.desc = 0) && decide (x.blocks % 4 = 0)

/-- The event is no longer held. -/
def dropEvent (s : State) (c : Fin 4) (e : Nat) : State :=
  let x := getCtx s c
  setCtx s c { x with events := ldel e x.events }

end Sys2Proof.Machine
end

