-- ==== Sys2Proof/Machine/SeqImage.lean ====
section
/-! DEFINITION. What COPY, SCATTER, LEDGER, CLOSE, RECORD, COMMIT and MSG move: the sequencer's work on DRAM, image and Passage
(R105, R106, R182, R183, R187, R190, R207, R211 to R214, R249, R250, R255). COPY moves one block of 4 KiB, SCATTER one descriptor,
each time its command is given, so that every block's end is a yield point (log 21, DESIGN CHOICE). -/
namespace Sys2Proof.Machine

/-- The image takes writes: its scan is done, a generation is open, the key is unwrapped, and a group is not closed (R170, R176, R182,
R196). -/
def imageWrites (s : State) : Bool :=
  flag s IMG_STAT_READY && decide (fld s IMG_GEN_OPEN_G ≠ 0) && s.img.key.isSome && !(openGroups s none).isEmpty

/-- The unit touches an offline subchannel: its lines' upper subchannel bits are those of the unit (R106). -/
def touchesOffline (s : State) (u : Nat) : Bool :=
  (List.range 32).any (fun n => flag s ((DRC_SUB_OFFLINE.inst (n / 8)).nth (n % 8)) && decide (subOf s (256 * u) / 4 = n / 4))

/-- The 64 lines of block j of unit u. -/
def blockLines (u j : Nat) : List Nat := (List.range 64).map (fun i => 256 * u + 64 * j + i)

/-- A block is done: the next one, or the end of the instruction with status OK (R251). -/
def blockDone (s : State) (c : Fin 4) (n : Nat) : State :=
  let x := getCtx s c
  if x.blocks + 1 < n then setCtx s c { x with blocks := x.blocks + 1 }
  else retire (putStatus (setCtx s c { x with blocks := 0 }) c true) c

/-- The instruction ends with a status that is not OK. -/
def blockFails (s : State) (c : Fin 4) : State :=
  let x := getCtx s c
  retire (putStatus (setCtx s c { x with blocks := 0, desc := 0 }) c false) c

/-- The sequencer reads n lines from line a: their rows, and the poisoned ones (R92, R97). -/
def readLines (s : State) (a n : Nat) : State :=
  (List.range n).foldl (fun x i =>
    let y := touchRow x (a + i)
    if isPoison y (a + i) then poisonRead y (a + i) else y) s

/-! Path 0: DRAM to image. -/

/-- A unit's copy starts: its dirty bit clears (R177). A unit on an offline subchannel is not written but marked lost (R106). -/
def copyStart (s : State) (u : Nat) : State :=
  let s1 := setDirty s u false
  if touchesOffline s u then markLost s1 u else s1

/-- A unit's copy ends: its page or pages of the open generation, and the ledger pages the copy has passed (R170, R172, R182, R183).
None where no stripe can take it. -/
def copyFinish (s : State) (c : Fin 4) (u : Nat) : Option State :=
  if touchesOffline s u then some s
  else (writeCopy s c.val u none (unitLines s u) (poisonBits (unitPoison s u))).map (fun x =>
    passSpans (rebuilt (bumpBy x PWR_DUMP_STAT_UNITS_WRITTEN 1) u) c.val u)

/-- Block k of path 0 from unit u0. A unit that cannot be written stays dirty. -/
def copyOut (s : State) (c : Fin 4) (u0 k n : Nat) : Res :=
  let u := u0 + k / 4
  withLine s (256 * u)
    (.next (if !imageWrites s then blockFails s c else
      let s1 := readLines (if k % 4 = 0 then copyStart s u else s) (256 * u + 64 * (k % 4)) 64
      if k % 4 = 3 ∨ k + 1 = n then
        match copyFinish s1 c u with
        | some s2 => blockDone s2 c n
        | none => blockFails (setDirty s1 u true) c
      else blockDone s1 c n))

/-! Path 1: image to DRAM. -/

/-- Lines of block j that a page gives, decrypted (R175); its poisoned lines are written poisoned (R214). -/
def pageLines (k : ImageKey) (h : PageHeader) (ls : List Line) (u j : Nat) : List (Nat × Option Line) :=
  (blockLines u j).zip (((xtsDecrypt k h.tseq h.unit (64 * j) ((ls.drop (64 * j)).take 64)).zipIdx).map (fun e =>
    if bitAt h.poison.toNat (64 * j + e.2) then none else some e.1))

/-- The pages read for a unit's content: its own, or the readable ones of its stripe (R163, R190). -/
def readFrom (s : State) (p : FlashPage) : State :=
  if pageLost s p then
    ((stripePages s p.stripe).filter (fun x => !pageLost s x)).foldl (fun y x => sendRead y x.stripe x.member) s
  else sendRead s p.stripe p.member

/-- A lost unit's block is fetched from a partner that serves (R214): FETCH of 64 lines. -/
def fetchLost (s : State) (u j : Nat) : State :=
  if psgUp s && partnerServes s then psgSend s 0xB 0 0 (256 * u + 64 * j) 0 0 [] else s

/-- The unit becomes dirty once it is restored (R189, R190). -/
def dirtyLater (s : State) (u : Nat) : State :=
  { s with img := { s.img with dirtyOnRestore := lins u s.img.dirtyOnRestore } }

/-- The header and payload of the copy an entry names, with its page and whether another copy or parity gave it. -/
def unitContent (s : State) (e : LedgerEntry) : Option (FlashPage × Bool × PageHeader × List Line) :=
  (copyOf s e).bind (fun c => (pageRead s c.1).map (fun r => (c.1, c.2, r.1, r.2)))

/-- One block of a restore (R190, R207, R214): zeros, the page, its reconstruction, or the partner's lines. A unit whose content
stands in DRAM takes no restore write. None without the image key. -/
def restoreBlock (s : State) (c : Fin 4) (u j : Nat) : Option State :=
  if unitReady s u then some s else
    let e := newestEntry s u
    if e.lost then some (fetchLost s u j)
    else if !e.written then some (plazaRestore s c.val (4 * u + j) ((blockLines u j).map (fun l => (l, some 0))))
    else match unitContent s e with
      | none => some (fetchLost (markLost s u) u j)
      | some (p, second, h, ls) => s.img.key.map (fun k =>
        let s1 := if second then dirtyLater s u else s
        let s2 := if j ≠ 0 then s1 else readFrom (if pageLost s p then bump s1 JCT_RECON_COUNT else s1) p
        plazaRestore (junction s2 64) c.val (4 * u + j) (pageLines k h ls u j))

/-- Block k of path 1 from unit u0. -/
def copyIn (s : State) (c : Fin 4) (u0 k n : Nat) : Res :=
  let u := u0 + k / 4
  withLine s (256 * u) (.next (match restoreBlock s c u (k % 4) with
    | some s1 => blockDone s1 c n
    | none => blockFails s c))

/-! Path 2: DRAM to Passage. -/

/-- A unit has been sent: its divergence bit clears, what waited for it is answered, and a resync comes nearer its end (R126,
R129, R136). -/
def unitStreamed (s : State) (u : Nat) : State :=
  let s1 := answerWaiting (setDiverged s u false)
  if flag s1 PSG_STAT_FWD_ALL then setFld s1 PSG_RESYNC_REMAIN (fld s1 PSG_RESYNC_REMAIN - 1) else s1

/-- The block's lines leave as STREAM; a poisoned line is never sent as data. -/
def streamLines (s : State) (l0 : Nat) : State :=
  (List.range 64).foldl (fun x i =>
    let l := l0 + i
    if abandoned x l then x
    else if isPoison x l then poisonRead (touchRow x l) l
    else psgSend (touchRow x l) 3 0 0 l 1 0 (lineSlots (readLine x l))) s

/-- Block k of path 2 from line a; a unit is streamed only once its content stands in DRAM (R214). -/
def copyStream (s : State) (c : Fin 4) (a k n : Nat) : Res :=
  let l := a + 64 * k
  withLines s l 64
    (.next (if !psgUp s || !unitReady s (unitOf l) then blockFails s c else
      let s1 := streamLines s l
      blockDone (if (l + 64) % 256 = 0 then unitStreamed s1 (unitOf l) else s1) c n))

/-! Paths 3 and 5: DRAM to DRAM, zero to DRAM. -/

/-- The content of n lines from line a, as writes to lines from b. -/
def movedLines (s : State) (a b n : Nat) : List (Nat × Option Line) :=
  (List.range n).map (fun i => (b + i, if isPoison s (a + i) then none else some (readLine s (a + i))))

/-- Block k of path 3; at a unit's end the Census routine marks it copied (R320). -/
def copyLines (s : State) (c : Fin 4) (a b k n : Nat) : Res :=
  let l := a + 64 * k
  withLines s l 64 (withLines s (b + 64 * k) 64
    (.next (
      let s1 := plazaWrites (readLines s l 64) c.val (movedLines s l (b + 64 * k) 64)
      let cut := c = 3 ∧ (getCtx s c).routine = 9 ∧ ((l + 64) % 256 = 0 ∨ k + 1 = n)
      blockDone (if cut then censusUnitDone s1 (unitOf l) else s1) c n)))

/-- Block k of path 5: zero fill, as restore writes where the unit is unrestored (R213, R214). -/
def copyZero (s : State) (c : Fin 4) (b k n : Nat) : Res :=
  let l := b + 64 * k
  withLines s l 64
    (.next (
      let zeros := (List.range 64).map (fun i => (l + i, some (0 : Line)))
      let s1 := if unitReady s (unitOf l) then plazaWrites s c.val zeros else plazaRestore s c.val (l / 64) zeros
      blockDone s1 c n))

/-! Path 4: image to image. -/

/-- A unit's copy moves within the image: ciphertext and TSEQ unchanged (R174), a new page of the open generation. -/
def relocateUnit (s : State) (c : Fin 4) (u : Nat) : Option State :=
  let e := newestEntry s u
  if !e.written then none else
  (unitContent s e).bind (fun r =>
    (writeCopy (readFrom s r.1) c.val u (some r.2.2.1.tseq) r.2.2.2 r.2.2.1.poison).map (fun x =>
      passSpans (bump (rebuilt x u) IMG_COUNTS_RELOCATED) c.val u))

/-- Block k of path 4 from unit u0: its bytes pass the Junction on the way in, and on the way out with the page, which is programmed
with the unit's last block. -/
def copyMove (s : State) (c : Fin 4) (u0 k n : Nat) : Res :=
  let u := u0 + k / 4
  withLine s (256 * u)
    (.next (if !imageWrites s then blockFails s c
      else if k % 4 = 3 ∨ k + 1 = n then
        match relocateUnit (junction s 64) c u with
        | some s1 => blockDone s1 c n
        | none => blockFails s c
      else blockDone (junction s 64) c n))

/-- COPY (R249): RC blocks, 1 to 4,096; another count is no COPY (log 22, DEDUCED). -/
def copyStep (s : State) (c : Fin 4) (m : Micro) (k : Nat → Nat → Nat → Nat → Res) : Res :=
  let x := getCtx s c
  let n := (greg x m.rc).toNat
  if n = 0 ∨ 4096 < n then .next (seqTrap s c 2)
  else k (greg x m.ra).toNat (greg x m.rb).toNat x.blocks n

/-! SCATTER. -/

/-- One descriptor (R249): source line, then destination line and count. -/
def scatterStep (s : State) (c : Fin 4) (m : Micro) : Res :=
  let x := getCtx s c
  let n := (greg x m.rc).toNat
  let a := (greg x m.ra).toNat + 2 * x.desc
  if n ≤ x.desc then .next (retire (putStatus (setCtx s c { x with desc := 0 }) c true) c)
  else if 2047 < a + 1 then .next (seqFault s c 3)
  else
    let src := (sget 0 x.scratch a).toNat
    let d := (sget 0 x.scratch (a + 1)).toNat
    let dst := bitsOf d 63 32
    let cnt := lineCount (BitVec.ofNat 6 d)
    withLines s src cnt (withLines s dst cnt
      (.next (
        let s1 := plazaWrites (readLines s src cnt) c.val (movedLines s src dst cnt)
        let y := getCtx s1 c
        if x.desc + 1 < n then setCtx s1 c { y with desc := x.desc + 1 }
        else retire (putStatus (setCtx s1 c { y with desc := 0 }) c true) c)))

/-! LEDGER, CLOSE, RECORD and COMMIT. -/

/-- LEDGER (R249): LOST and DIVERGED of a unit's open entry; IMG_LOST follows, and a new LOST is reported (R195). -/
def ledgerOp (s : State) (u md : Nat) : State :=
  let e := newestEntry s u
  let lost := if bitAt md 1 then true else if bitAt md 2 then false else e.lost
  let div := if bitAt md 3 then true else if bitAt md 4 then false else e.diverged
  let s1 := setOpened s u { e with lost := lost, diverged := div }
  let s2 := setFld s1 IMG_LOST_UNITS (lostUnits s1).length
  if lost && !e.lost then raise s2 srcLost else s2

/-- A dump with a subchannel offline marks every unit that touches it lost (R106, R151). -/
def markOffline (s : State) : State :=
  if (List.range 32).any (fun n => flag s ((DRC_SUB_OFFLINE.inst (n / 8)).nth (n % 8))) then
    ((List.range (installedUnits s)).filter (touchesOffline s)).foldl
      (fun x u => if (newestEntry x u).lost then x else markLost x u) s
  else s

/-- CLOSE (R183, steps 2 to 4): each of its steps ends with no stripe open. Ledger pages not yet written behind the copy come first. -/
def closeOp (s : State) (ctx md : Nat) (dump : Bool) : State :=
  let s0 := if dump then setFld (if bitAt md 1 then markOffline s else s) PWR_DUMP_STAT_PHASE 5 else s
  let s1 := if bitAt md 1 then fillStripes (s0.img.spans.foldl (fun x k => writeLedgerPage x ctx k) s0) else s0
  let s2 := if bitAt md 2 ∧ dump then fillStripes (writeLogPages s1 ctx) else s1
  let s3 := if bitAt md 3 then fillStripes (writeSideDir (writeWearPages s2 ctx) ctx) else s2
  let s4 := if bitAt md 4 then fillStripes (writeDirPages s3 ctx) else s3
  { s4 with img := { s4.img with closed := s4.img.closed ||| BitVec.ofNat 4 (md / 2) } }

/-- The stripes of the next batch, in the order in which they will be opened (R187; log 9, DESIGN CHOICE). -/
def planBatch (s : State) : List (BitVec 32) × State :=
  (List.range 4096).foldl (fun x i =>
    let gs := openGroups x.2 none
    match (gs[i % max 1 gs.length]?).bind (nextStripe x.2) with
    | some r => (x.1 ++ [r.1], r.2)
    | none => x) ([], s)

/-- The intent record of the next batch names its stripes, on both anchor copies; not before every stripe of the last batch is
closed (R187). -/
def intentRecord (s : State) : Option State :=
  if !s.img.batch.isEmpty || !s.img.openStripes.isEmpty then none else
    let p := planBatch s
    let s1 := writeRecord p.2 { blankRecord p.2 0x12 (fld s IMG_GEN_OPEN_G) with stripes := p.1 }
    some { s1 with img := { s1.img with batch := p.1 } }

/-- Every member of the stripe reads valid, and the parity matches (R187). -/
def stripeWhole (s : State) (st : BitVec 32) : Bool :=
  let ms := stripeMembers s st
  let q := stripeQ s st
  let data := (dataSlots st q ms).zipIdx.filterMap (fun e => (readable s st e.1).map (fun p => (e.2, p.bits)))
  let par := fun (k : Nat) => ((parityMember st ms k).bind (readable s st)).map FlashPage.bits
  !ms.isEmpty && ms.all (fun m => (readable s st m).isSome) && decide (par 0 = some (sumP data)) &&
    (!q || decide (par 1 = some (sumQ data)))

/-- The void record lists the stripes of an intent record that are not whole (R187). -/
def voidRecord (s : State) : State :=
  let last := ((recordsOf s 0x12).getLast?.map (fun r => r.stripes)).getD []
  writeRecord s { blankRecord s 0x13 (fld s IMG_GEN_OPEN_G) with stripes := last.filter (fun st => !stripeWhole s st) }

/-- RECORD (R249). -/
def recordOp (s : State) (c : Fin 4) (write : State → Option State) : State :=
  match if flag s IMG_STAT_READY then write s else none with
  | some s1 => retire (putStatus s1 c true) c
  | none => retire (putStatus s c false) c

/-- COMMIT (R147, R159, R183, R255): the commit point. For a checkpoint the commit engine first programs the open record of
G + 2. Without an open generation, or while the engine works, the status is not OK. The COMMIT of a dump waits until DRAM is frozen,
since accepted writes belong to the image (R13, R150; log 54, DEDUCED). -/
def commitOp (s : State) (c : Fin 4) : State :=
  let x := getCtx s c
  let dump := decide (x.routine = 0)
  if !imageWrites s || s.img.closing.isSome then retire (putStatus s c false) c
  else if dump && !s.dram.frozen then s
  else
    let s1 := closeGeneration s dump
    let s2 := if dump then setFld s1 PWR_DUMP_STAT_PHASE 6 else writeOpenRecord s1
    let s3 := { s2 with pwr := { s2.pwr with committed := s2.pwr.committed || dump } }
    let y := getCtx s3 c
    retire (putStatus (setCtx s3 c { y with commitAt := some (y.g, y.pc + 1), run := 5 }) c true) c

/-! MSG. -/

/-- MSG (R249). COUNT and WIN have no source in the microword: free values for the types that use them (log 4, DESIGN CHOICE). -/
def msgOp (s : State) (c : Fin 4) (m : Micro) : State :=
  let x := getCtx s c
  let t := bitsOf m.mod.toNat 4 1
  if !psgUp s then retire (putStatus s c false) c else
    let (a, s1) := drawNat s
    let uses := decide (t = 1) || decide (t = 3) || decide (t = 0xA) || decide (t = 0xB) || decide (t = 0xC)
    let cnt := if uses then a % 64 else 0
    let win := if t = 5 ∨ t = 6 ∨ t = 7 then a % 4096 else 0
    let slots := decide (t = 8) || decide (t = 0xE) || decide (t = 0xF) || (uses && decide (t ≠ 0xB))
    let p := (greg x m.rc).toNat
    let d : Slot128 := BitVec.ofNat 128 ((sget 0 x.scratch p).toNat + (sget 0 x.scratch (p + 1)).toNat * 2 ^ 64)
    let s2 := psgSend s1 t ((greg x m.rb).toNat % 2 ^ 32) (bitsOf m.imm.toNat 3 0) ((greg x m.ra).toNat % 2 ^ 32) cnt win
      (if slots then [d] else [])
    let s3 := if t = 4 then streamSent s2 else s2
    retire (putStatus s3 c true) c

/-! FINDR. -/

/-- The unit can be restored now: a lost one only while the partner gives its lines (R214), so that it holds up no other channel's
units (R208). -/
def restorable (s : State) (u : Nat) : Bool :=
  !isRestored s u && (!(newestEntry s u).lost || (psgUp s && partnerServes s))

/-- The next unit to restore: the demand queue first (R208), then the restore order (R213). -/
def nextRestore (s : State) : Option Nat :=
  match s.pwr.demand.find? (restorable s) with
  | some u => some u
  | none => ((List.range (installedUnits s)).filter (restorable s)).foldl
      (fun a u => match a with
        | none => some u
        | some v => if orderBefore s u v then some u else some v) none

end Sys2Proof.Machine
end

