-- ==== Sys2Proof/Machine/SeqCmds.lean ====
section
/-! DEFINITION. The microwords of the sequencer (R247 to R250, R252, R255, R263), one command each: the word at the PC of a ready
context issues. -/
namespace Sys2Proof.Machine

/-- An instruction that writes RD and leaves the flags. -/
def aluOp (c : Fin 4) (m : Micro) (f : Word → Word → Word) (s : State) : Res :=
  let x := getCtx s c
  .next (putReg s c m.rd (f (greg x m.ra) (operandB x m)))

/-- NOP (R249). -/
def execSeqNop (c : Fin 4) (m : Micro) (s : State) : Res := seqIssue s c 0x00 m (fun t => .next (retire t c))

/-- MOV (R249). -/
def execSeqMov (c : Fin 4) (m : Micro) (s : State) : Res := seqIssue s c 0x01 m (aluOp c m (fun _ b => b))

/-- ADD (R248, R249). -/
def execSeqAdd (c : Fin 4) (m : Micro) (s : State) : Res :=
  seqIssue s c 0x02 m (fun t =>
    let x := getCtx t c
    aluOp c m (fun a b => a + b) (addFlags t c (greg x m.ra) (operandB x m)))

/-- SUB (R248, R249). -/
def execSeqSub (c : Fin 4) (m : Micro) (s : State) : Res :=
  seqIssue s c 0x03 m (fun t =>
    let x := getCtx t c
    aluOp c m (fun a b => a - b) (subFlags t c (greg x m.ra) (operandB x m)))

/-- AND (R249). -/
def execSeqAnd (c : Fin 4) (m : Micro) (s : State) : Res := seqIssue s c 0x04 m (aluOp c m (fun a b => a &&& b))
/-- OR (R249). -/
def execSeqOr (c : Fin 4) (m : Micro) (s : State) : Res := seqIssue s c 0x05 m (aluOp c m (fun a b => a ||| b))
/-- XOR (R249). -/
def execSeqXor (c : Fin 4) (m : Micro) (s : State) : Res := seqIssue s c 0x06 m (aluOp c m (fun a b => a ^^^ b))
/-- SHL (R249): by B mod 64. -/
def execSeqShl (c : Fin 4) (m : Micro) (s : State) : Res := seqIssue s c 0x07 m (aluOp c m (fun a b => a <<< (b.toNat % 64)))
/-- SHR (R249): by B mod 64. -/
def execSeqShr (c : Fin 4) (m : Micro) (s : State) : Res := seqIssue s c 0x08 m (aluOp c m (fun a b => a >>> (b.toNat % 64)))

/-- CMP (R248, R249). -/
def execSeqCmp (c : Fin 4) (m : Micro) (s : State) : Res :=
  seqIssue s c 0x09 m (fun t => let x := getCtx t c; .next (retire (subFlags t c (greg x m.ra) (operandB x m)) c))

/-- BR (R249, R261). -/
def execSeqBr (c : Fin 4) (m : Micro) (s : State) : Res :=
  seqIssue s c 0x0A m (fun t =>
    let x := getCtx t c
    .next (if targetOk x m.target then setCtx t c { x with pc := m.target } else custViolation t c))

/-- CALL (R249, R261): a fifth level is illegal. -/
def execSeqCall (c : Fin 4) (m : Micro) (s : State) : Res :=
  seqIssue s c 0x0B m (fun t =>
    let x := getCtx t c
    .next (if !targetOk x m.target then custViolation t c
      else if 4 ≤ x.stack.length then seqTrap t c 2
      else setCtx t c { x with stack := (x.pc + 1) :: x.stack, pc := m.target }))

/-- RET (R249): an empty stack is illegal. -/
def execSeqRet (c : Fin 4) (m : Micro) (s : State) : Res :=
  seqIssue s c 0x0C m (fun t =>
    let x := getCtx t c
    .next (match x.stack with
      | [] => seqTrap t c 2
      | p :: rest => setCtx t c { x with stack := rest, pc := p }))

/-- LDS (R249). -/
def execSeqLds (c : Fin 4) (m : Micro) (s : State) : Res :=
  seqIssue s c 0x0D m (fun t =>
    let x := getCtx t c
    let a := greg x m.ra + m.imm
    .next (withScratch t c a (putReg t c m.rd (sget 0 x.scratch a.toNat))))

/-- STS (R249). -/
def execSeqSts (c : Fin 4) (m : Micro) (s : State) : Res :=
  seqIssue s c 0x0E m (fun t =>
    let x := getCtx t c
    let a := greg x m.ra + m.imm
    .next (withScratch t c a
      (setCtx t c { x with scratch := sset 0 x.scratch a.toNat (greg x m.rb), pc := x.pc + 1 })))

/-- LDL (R249, R261). What a poisoned line gives is not stated: a free value (log 4, DESIGN CHOICE). -/
def execSeqLdl (c : Fin 4) (m : Micro) (s : State) : Res :=
  seqIssue s c 0x0F m (fun t =>
    let x := getCtx t c
    let l := (greg x m.ra).toNat
    if inCust x && (decide (l < fld t SEQ_CUST_WIN_BASE) || decide (fld t SEQ_CUST_WIN_LIMIT < l)) then
      .next (custViolation t c)
    else withLine t l
      (.next (match readEcc (touchRow t l) (subOf t l) l .clean false with
        | (t1, some d) => putReg t1 c m.rd (BitVec.ofNat 64 (d.toNat / 2 ^ (64 * (m.imm.toNat % 8))))
        | (t1, none) => let p := drawWord t1; putReg p.2 c m.rd p.1)))

/-- TIME (R249, R312). -/
def execSeqTime (c : Fin 4) (m : Micro) (s : State) : Res :=
  seqIssue s c 0x10 m (fun t => .next (putReg t c m.rd (BitVec.ofNat 64 (podNs t))))

/-- The word MAP returns (R249). -/
def mapWord (s : State) (l : Nat) : Nat :=
  match dramWindow s l with
  | none => 0
  | some w => w.idx + 2 ^ 12 + b2n (owns s w) * 2 ^ 13 + w.cls * 2 ^ 14 + w.layout * 2 ^ 16 + (w.dbase + w.lines - 1) * 2 ^ 32

/-- MAP (R249). -/
def execSeqMap (c : Fin 4) (m : Micro) (s : State) : Res :=
  seqIssue s c 0x11 m (fun t =>
    .next (putReg t c m.rd (BitVec.ofNat 64 (mapWord t (greg (getCtx t c) m.ra).toNat))))

/-- A unit as a register holds it; all ones for none (R249). -/
def unitWord (u : Option Nat) : Word :=
  match u with
  | some u => BitVec.ofNat 64 u
  | none => BitVec.allOnes 64

/-- FINDD (R249). -/
def execSeqFindd (c : Fin 4) (m : Micro) (s : State) : Res :=
  seqIssue s c 0x12 m (fun t =>
    let a := (greg (getCtx t c) m.ra).toNat
    let map := if bitAt m.mod.toNat 1 then t.dram.diverged else t.dram.dirty
    .next (putReg t c m.rd (unitWord (map.next a (installedUnits t)))))

/-- FINDR (R208, R213, R249). -/
def execSeqFindr (c : Fin 4) (m : Micro) (s : State) : Res :=
  seqIssue s c 0x13 m (fun t => .next (putReg t c m.rd (unitWord (nextRestore t))))

/-- The path of a COPY (R250). -/
def copyPath (m : Micro) : Nat := bitsOf m.mod.toNat 3 1

/-- COPY on one path: a microword of another path is not this command. -/
def copyIssue (c : Fin 4) (m : Micro) (path : Nat) (s : State) (k : State → Nat → Nat → Nat → Nat → Res) : Res :=
  if copyPath m ≠ path then .next s else seqIssue s c 0x14 m (fun t => copyStep t c m (k t))

/-- COPY, path 0 (R250). -/
def execCopyDramToImage (c : Fin 4) (m : Micro) (s : State) : Res :=
  copyIssue c m 0 s (fun t a _ k n => copyOut t c a k n)
/-- COPY, path 1 (R250). -/
def execCopyImageToDram (c : Fin 4) (m : Micro) (s : State) : Res :=
  copyIssue c m 1 s (fun t a _ k n => copyIn t c a k n)
/-- COPY, path 2 (R250). -/
def execCopyDramToPassage (c : Fin 4) (m : Micro) (s : State) : Res :=
  copyIssue c m 2 s (fun t a _ k n => copyStream t c a k n)
/-- COPY, path 3 (R250). -/
def execCopyDramToDram (c : Fin 4) (m : Micro) (s : State) : Res :=
  copyIssue c m 3 s (fun t a b k n => copyLines t c a b k n)
/-- COPY, path 4 (R250). -/
def execCopyImageToImage (c : Fin 4) (m : Micro) (s : State) : Res :=
  copyIssue c m 4 s (fun t a _ k n => copyMove t c a k n)
/-- COPY, path 5 (R250). -/
def execCopyZeroToDram (c : Fin 4) (m : Micro) (s : State) : Res :=
  copyIssue c m 5 s (fun t _ b k n => copyZero t c b k n)

/-- SCATTER (R249). -/
def execSeqScatter (c : Fin 4) (m : Micro) (s : State) : Res := seqIssue s c 0x15 m (fun t => scatterStep t c m)

/-- DIGEST (R127, R249). -/
def execSeqDigest (c : Fin 4) (m : Micro) (s : State) : Res :=
  seqIssue s c 0x16 m (fun t =>
    let u := (greg (getCtx t c) m.ra).toNat
    withLine t (256 * u)
      (.next (let p := unitDigest (readUnit t u) u; putReg p.2 c m.rd (BitVec.ofNat 64 p.1))))

/-- LEDGER (R249): without a generation that takes entries the status is not OK. -/
def execSeqLedger (c : Fin 4) (m : Micro) (s : State) : Res :=
  seqIssue s c 0x17 m (fun t =>
    let u := (greg (getCtx t c) m.ra).toNat
    withLine t (256 * u)
      (.next (if imageWrites t then retire (putStatus (ledgerOp t u m.mod.toNat) c true) c
        else retire (putStatus t c false) c)))

/-- CLOSE (R183, R249). -/
def execSeqClose (c : Fin 4) (m : Micro) (s : State) : Res :=
  seqIssue s c 0x18 m (fun t =>
    .next (if imageWrites t then
        retire (putStatus (closeOp t c.val m.mod.toNat (decide ((getCtx t c).routine = 0))) c true) c
      else retire (putStatus t c false) c))

/-- RECORD of one kind (R249). -/
def recordIssue (c : Fin 4) (m : Micro) (kind : Nat) (s : State) (write : State → Option State) : Res :=
  if bitsOf m.mod.toNat 2 1 ≠ kind then .next s else seqIssue s c 0x19 m (fun t => .next (recordOp t c write))

/-- RECORD, the open record (R180, R182, R249). -/
def execRecordOpen (c : Fin 4) (m : Micro) (s : State) : Res := recordIssue c m 0 s (fun t => some (writeOpenRecord t))
/-- RECORD, an intent record (R187, R249). -/
def execRecordIntent (c : Fin 4) (m : Micro) (s : State) : Res := recordIssue c m 1 s intentRecord
/-- RECORD, a void record (R187, R249). -/
def execRecordVoid (c : Fin 4) (m : Micro) (s : State) : Res := recordIssue c m 2 s (fun t => some (voidRecord t))

/-- COMMIT (R255). -/
def execSeqCommit (c : Fin 4) (m : Micro) (s : State) : Res := seqIssue s c 0x1A m (fun t => .next (commitOp t c))

/-- MSG (R249). -/
def execSeqMsg (c : Fin 4) (m : Micro) (s : State) : Res :=
  seqIssue s c 0x1B m (fun t =>
    let p := (greg (getCtx t c) m.rc).toNat
    .next (if 2047 < p + 1 then seqFault t c 3 else msgOp t c m))

/-- WAITE (R249). -/
def execSeqWaite (c : Fin 4) (m : Micro) (s : State) : Res :=
  seqIssue s c 0x1C m (fun t =>
    let x := getCtx t c
    .next (if x.events.any (fun e => bitAt m.imm.toNat e && decide (e < 16)) then finishWait t c m
      else setCtx t c { x with run := if x.run = 1 then 2 else x.run }))

/-- EVT (R249, R377). -/
def execSeqEvt (c : Fin 4) (m : Micro) (s : State) : Res :=
  seqIssue s c 0x1D m (fun t =>
    let b := m.imm.toNat % 8
    .next (retire (pendEvent (setFld t SEQ_EVT_EVT (withBits (fld t SEQ_EVT_EVT) b b 1)) 0x80 0) c))

/-- HOOK (R260, R262, R263): a hook that does not run is skipped with its default. -/
def execSeqHook (c : Fin 4) (m : Micro) (s : State) : Res :=
  seqIssue s c 0x1E m (fun t =>
    let h1 := bitAt m.imm.toNat 0
    let x := getCtx t c
    .next (if hookRuns t h1 (ctxBank t c) then
        if h1 then enterHook t c true (h1Inputs t (greg x 0)) (x.pc + 1) false
        else let p := h0Inputs t; enterHook p.2 c false p.1 (x.pc + 1) false
      else putReg t c 0 (hookDefault h1)))

/-- RETH (R263): only in a hook. -/
def execSeqReth (c : Fin 4) (m : Micro) (s : State) : Res :=
  seqIssue s c 0x1F m (fun t =>
    let x := getCtx t c
    .next (if x.hook.isSome ∧ x.irq.isNone then endHook t c (greg x 0) else seqTrap t c 2))

/-- RETI (R252): what was saved comes back, and what the handler held up is taken. -/
def execSeqReti (c : Fin 4) (m : Micro) (s : State) : Res :=
  seqIssue s c 0x20 m (fun t =>
    let x := getCtx t c
    .next (match x.irq with
      | none => seqTrap t c 2
      | some h =>
        let y := { x with g := x.g.take 12 ++ h.high, hand := x.g.drop 12, pc := h.pc, flags := h.flags, blocks := h.blocks,
                          desc := h.desc, irq := none, run := 1 }
        if x.stopReq then endRoutine (setCtx t c y) c 4 else takeHeld (setCtx t c y) c))

/-- What END does for its routine: a DUMP that ends ABANDONED (R159), the Census pass (R320). -/
def routineDone (s : State) (r result : Nat) : State :=
  if r = 0 ∧ result = 2 ∧ !s.pwr.committed then abandonDump s else if r = 9 then censusPassEnd s else s

/-- Events held since COMMIT are taken (R255): ABORT is discarded, DUMP starts DUMP, LOSS starts SPEC. -/
def takeAfterCommit (s : State) (c : Fin 4) (held : List Nat) : State :=
  let s1 := if held.contains evAbort then
      setFld { s with pwr := { s.pwr with abortSeen := false } } PWR_DUMP_STAT_ABORT_RESULT 2 else s
  if held.contains evDump then startRoutine (dropEvent s1 c evDump) c 0
  else if held.contains evLoss then startRoutine s1 c 1 else s1

/-- END (R249, R255, R257). -/
def execSeqEnd (c : Fin 4) (m : Micro) (s : State) : Res :=
  seqIssue s c 0x21 m (fun t =>
    let x := getCtx t c
    let result := m.imm.toNat % 256
    let t1 := setFld (endRoutine t c result) (ctxF c SEQ_CTX_RESTARTS) 0
    let t2 := routineDone t1 x.routine.toNat result
    .next (if x.run = 5 then takeAfterCommit t2 c x.events else t2))

end Sys2Proof.Machine
end

