-- ==== Sys2Proof/Machine/SeqEvents.lean ====
section
/-! DEFINITION. Commands of the sequencer beside its microwords: starts, events, faults, bank switches, customer starts, polls and
the control-store window (R244, R251 to R253, R256 to R262, R264, R266, R267). -/
namespace Sys2Proof.Machine

/-- The pending routine of lowest vector that may start: any in an idle context, one that is not preemptible in a busy one. -/
def nextStart (s : State) (c : Fin 4) : Option Nat :=
  let x := getCtx s c
  x.pend.find? (fun r => mayStart s c r && (decide (x.run = 0) || !preemptible r))

/-- ROUTINE_START (R244): an idle context starts its pending routine of lowest vector; one that is not preemptible ends a
preemptible routine with PREEMPTED, whose request stays pending unless it is a customer's. -/
def execRoutineStart (c : Fin 4) (s : State) : Res :=
  .next (if !seqOn s || !accepts s 0x80 then s else
    let x := getCtx s c
    match nextStart s c with
    | none => s
    | some r =>
      let old := x.routine.toNat
      if x.run = 0 then startRoutine s c r
      else if atYield x && x.hook.isNone && preemptible old then
        let s1 := endRoutine s c 5
        startRoutine (if old < 16 then requestRoutine s1 c old else s1) c r
      else s)

/-- DUMP_EVENT (R251). -/
def execDumpEvent (s : State) : Res :=
  .next (
    let x := s.seq.ctx0
    if !seqOn s || !x.events.contains evDump then s
    else if x.run = 0 then startRoutine (dropEvent s 0 evDump) 0 0
    else if atUnit x then startRoutine (dropEvent (endRoutine s 0 3) 0 evDump) 0 0 else s)

/-- RETURN_EVENT (R144, R251): SPEC ends with STOPPED; a start of SPEC that is still pending is dropped. -/
def execReturnEvent (s : State) : Res :=
  .next (
    let x := s.seq.ctx0
    if !seqOn s || !x.events.contains evReturn then s
    else
      let s1 := dropEvent s 0 evReturn
      let y := getCtx s1 0
      let s2 := setCtx s1 0 { y with pend := ldel 1 y.pend }
      if x.run = 0 then setFlag s2 PWR_STAT_SPEC false
      else if atUnit x then (if x.routine = 1 then endRoutine s2 0 4 else s2)
      else s)

/-- LOSS_EVENT (R147, R251). -/
def execLossEvent (s : State) : Res :=
  .next (
    let x := s.seq.ctx0
    if !seqOn s || !x.events.contains evLoss then s
    else if x.run = 0 then dropEvent s 0 evLoss
    else if atUnit x then
      (if x.routine = 2 then startRoutine (endRoutine (dropEvent s 0 evLoss) 0 3) 0 1 else dropEvent s 0 evLoss)
    else s)

/-- ABORT_EVENT (R159, R251): the abandon vector of DUMP. -/
def execAbortEvent (s : State) : Res :=
  .next (
    let x := s.seq.ctx0
    if seqOn s && x.events.contains evAbort && decide (x.routine = 0) && decide (x.run ≠ 0) && atUnit x then
      setCtx s 0 { x with events := ldel evAbort x.events, pc := 0x20, blocks := 0, desc := 0, run := 1 }
    else s)

/-- PAUSE_EVENT (R251): the running routine halts with its progress; a pause of SCRUB halts SCRUB alone (R211). An idle context
keeps it, and starts nothing. -/
def execPauseEvent (c : Fin 4) (s : State) : Res :=
  .next (
    let x := getCtx s c
    if !seqOn s || !x.events.contains evPause then s
    else if c = 2 ∧ x.routine ≠ 7 then dropEvent s c evPause
    else if x.run = 1 ∨ x.run = 2 then
      (if x.hook.isNone then setCtx s c { x with events := ldel evPause x.events, run := 4 } else s)
    else s)

/-- RESUME_EVENT (R251). -/
def execResumeEvent (c : Fin 4) (s : State) : Res :=
  .next (
    let x := getCtx s c
    if !seqOn s || !x.events.contains evResume then s
    else
      let ev := ldel evPause (ldel evResume x.events)
      if x.run = 4 then takeHeld (setCtx s c { x with events := ev, run := 1 }) c
      else setCtx s c { x with events := ev })

/-- LEAVE_EVENT (R251): the routine ends with STOPPED; a STREAM request stays pending. FETCHSRV does not need the Passage. -/
def execLeaveEvent (c : Fin 4) (s : State) : Res :=
  .next (
    let x := getCtx s c
    if !seqOn s || !x.events.contains evLeave then s
    else if x.run = 0 ∨ (x.routine = 8 ∧ serving s) then dropEvent s c evLeave
    else if !atYield x then s
    else
      let s1 := dropEvent s c evLeave
      if x.hook.any (fun h => h.fromIdle) then endHook s1 c (hookDefault false)
      else if x.routine = 6 then requestRoutine (endRoutine s1 c 4) c 6
      else endRoutine s1 c 4)

/-- TICK_EVENT (R251). -/
def execTickEvent (c : Fin 4) (s : State) : Res := .next (if seqOn s then vectored s c evTick else s)

/-- DOORBELL (R251, R266). -/
def execDoorbell (q : Requester) (c : Fin 4) (s : State) : Res :=
  .next (guarded s q 0x80 (if seqOn s then vectored s c evDoorbell else s))

/-- MSGIN (R251). -/
def execMsgin (s : State) : Res := .next (if seqOn s && psgUp s then vectored s 2 evMsgin else s)

/-- The fault causes of R253 and R266. -/
def causeCode : SeqCause → Nat
  | .csUncorr => 1 | .illegal => 2 | .scratch => 3 | .regErr => 5

/-- SEQ_FAULT (R253). An illegal word or address of the customer region is a violation (R261). -/
def execSeqFault (c : Fin 4) (cause : SeqCause) (s : State) : Res :=
  .next (if !seqOn s || decide ((getCtx s c).run = 0) then s else
    match cause with
    | .illegal => hookBudget (seqTrap s c 2) c
    | .scratch => hookBudget (seqTrap s c 3) c
    | _ => seqFault s c (causeCode cause))

/-- WATCHDOG (R257): not during WAITE, nor in a paused context. -/
def execWatchdog (c : Fin 4) (s : State) : Res :=
  .next (
    let x := getCtx s c
    if seqOn s && (decide (x.run = 1) || decide (x.run = 3) || decide (x.run = 5)) then seqFault s c 4 else s)

/-- POST_COMMIT_TIMEOUT (R256). -/
def execPostCommitTimeout (c : Fin 4) (s : State) : Res :=
  .next (if seqOn s && decide ((getCtx s c).run = 5) then seqFault s c 6 else s)

/-- SEQ_CTXn.STOP (R266): ignored for context 0; in a handler the stop waits for RETI (R252). -/
def stopOp (s : State) (c : Fin 4) : State :=
  let x := getCtx s c
  if c = 0 ∨ x.run = 0 then s
  else if x.hook.any (fun h => h.fromIdle) then s
  else if atYield x then endRoutine s c 4
  else setCtx s c { x with stopReq := true }

/-- CONTEXT_STOP (R266). -/
def execContextStop (q : Requester) (c : Fin 4) (s : State) : Res := .next (guarded s q 0x80 (stopOp s c))

/-- SEQ_CTL.SWITCH (R258). -/
def switchOp (s : State) : State :=
  let other := 1 - activeBank s
  let r := if s.vault = .ride ∨ s.vault = .dump then 5 else if flag s SEQ_STAT_SWITCH_BUSY then 7 else bankVerdict s other
  let s1 := setFld s SEQ_STAT_SWITCH_RESULT r
  if r = 1 then setFld s1 SEQ_CTL_ACTIVE other else raise s1 (srcSeq 9)

/-- SWITCH (R258). -/
def execBankSwitch (q : Requester) (s : State) : Res := .next (guarded s q 0x80 (switchOp s))

/-- SEQ_CTL.CHECK (R259, R266). -/
def checkOp (s : State) : State := setFld (setFld s SEQ_CS_CHECK_CRC_A (wholeCrc s 0)) SEQ_CS_CHECK_CRC_B (wholeCrc s 1)

/-- CHECK (R259). -/
def execBankCheck (q : Requester) (s : State) : Res := .next (guarded s q 0x80 (checkOp s))

/-- SEQ_CUST.START (R260, R264): refused with an empty region, and outside SERVE and RESTORE. -/
def custStartOp (s : State) : State :=
  if custEmpty s (activeBank s) || !steady s then writeResult s 3 7
  else requestRoutine s 3 (16 + fld s SEQ_CUST_START_IDX)

/-- CUSTOMER_START (R264). -/
def execCustomerStart (q : Requester) (s : State) : Res := .next (guarded s q 0x80 (custStartOp s))

/-- CKPT_POLL (R262): a poll that finds context 3 busy, or the hook not enabled, is skipped. -/
def execCkptPoll (s : State) : Res :=
  .next (if seqOn s && steady s && decide (s.seq.ctx3.run = 0) && hookRuns s false (activeBank s) then
      let p := h0Inputs (setCtxBank s 3 (activeBank s))
      hookBudget (enterHook p.2 3 false p.1 (getCtx s 3).pc true) 3
    else s)

/-! The control-store window (R259, R267, R378): each requester has its own index and word registers. -/

/-- SEQ_CS_IDX (R267). -/
def csIndexOp (s : State) (q : Requester) (v : Word) : State :=
  let b := reqBank q
  let s1 := writeRw s 0x81 0x800 0 b v
  let w := bankWord s1 (fldIn s1 SEQ_CS_IDX_BANK 0 b) (fldIn s1 SEQ_CS_IDX_ADDR 0 b)
  setFldIn (setFldIn s1 SEQ_CS_W0_WORD_LO 0 b (w.toNat % 2 ^ 64)) SEQ_CS_W1_WORD_HI 0 b (w.toNat / 2 ^ 64)

/-- CS_INDEX_WRITE (R267). -/
def execCsIndexWrite (q : Requester) (v : Word) (s : State) : Res := .next (guardedIdx s q 0x81 (csIndexOp s q v))

/-- A bank that a write may not change: the active one, and one that a context runs on (R259). -/
def bankHeld (s : State) (b : Nat) : Bool :=
  decide (activeBank s = b) || (List.finRange 4).any (fun c => decide ((getCtx s c).run ≠ 0) && decide (ctxBank s c = b))

/-- SEQ_CS_W1 (R259, R267). -/
def csWordOp (s : State) (q : Requester) (v : Word) : State :=
  let k := reqBank q
  let b := fldIn s SEQ_CS_IDX_BANK 0 k
  let a := fldIn s SEQ_CS_IDX_ADDR 0 k
  let s1 := setFldIn s SEQ_CS_W1_WORD_HI 0 k v.toNat
  if bankHeld s b then raise s1 (srcSeq 10)
  else
    let lo := fldIn s SEQ_CS_W0_WORD_LO 0 k
    setFldIn (setBankWord s1 b a (BitVec.ofNat 128 (lo + v.toNat * 2 ^ 64))) SEQ_CS_IDX_ADDR 0 k ((a + 1) % 16384)

/-- CS_WORD_WRITE (R267). -/
def execCsWordWrite (q : Requester) (v : Word) (s : State) : Res := .next (guarded s q 0x81 (csWordOp s q v))

end Sys2Proof.Machine
end

