-- ==== Sys2Proof/Machine/BootCmds.lean ====
section
/-! DEFINITION. Power-up, clocks, resets, the boot ladder's end, and the transitions of the power watch (R14 to R16, R137 to
R162, R200 to R203, R352 to R361, R365, R390, R391, R397). -/
namespace Sys2Proof.Machine

def srcBoot (b : Nat) : Nat := srcNo 0x02 b
def srcClk (b : Nat) : Nat := srcNo 0x01 b

def withPins (s : State) (f : Pins → Pins) : State := { s with pins := f s.pins }
def withRst (s : State) (f : ResetSt → ResetSt) : State := { s with rst := f s.rst }

/-! Power-up (R390). -/

/-- Domain 25 leaves power-on reset on its internal oscillator, and raises EN_MR and EN_PCIE. -/
def powerOnReset (s : State) : State :=
  if s.rst.ao then s else
    setFlag (withRst (withPins s (fun p => { p with enMr := true, enPcie := true })) (fun r => { r with ao := true }))
      CLK_STAT_RC_FALLBACK true

/-- POWER_ON_RESET_END (R390). -/
def execPowerOnResetEnd (s : State) : Res := .next (powerOnReset s)

/-- PG_RISE (R390): the next enables, or in ALLEY the wake of the ring (R323). -/
def execPgRise (pin : PgPin) (s : State) : Res :=
  .next (
    if !pgEnabled s.pins pin || pgHigh s.pins pin then s
    else if s.vault = .alley ∧ !logicFailed s then
      (if pin = .mr then wake (withPins s (fun p => setPg p .mr true)) else s)
    else if sequencing s then withPins s (fun p => raiseNext (setPg p pin true))
    else if s.vault = .fenced ∨ s.vault = .sealed then withPins s (fun p => setPg p pin true)
    else s)

/-- The last PG is due: every enable is high, and the PGs before it. -/
def lastPgDue (s : State) : Bool :=
  sequencing s && s.pins.allEnabled && s.pins.pgMr && s.pins.pgPcie && s.pins.pgCore

def allPgHigh (p : Pins) : Pins := { p with pgMr := true, pgPcie := true, pgCore := true, pgDram := true, pgFlash := true }

/-- The wake write to a pack port's charger (R363): CHG_V and 100 mA, where the port shows a pack below 6.0 V. Which ports do is a
free value (log 41, DESIGN CHOICE): no command before it says what PAKx_PRES_N and PAKx_VS read. -/
def wakeWrite (s : State) (p : PackId) : State :=
  let d := drawNat s
  if d.1 % 2 = 0 then d.2 else
    let dev := match p with | .a => fld s MEAS_AUTH_CHG_A | .b => fld s MEAS_AUTH_CHG_B
    emit (emit d.2 (.smbus 2 (dev * 256 + 0x15) (fld s MEAS_CHG_CHG_V))) (.smbus 2 (dev * 256 + 0x14) 100)

/-- Logic power-good: a power-up, the end of a fenced reset, or of a return from ALLEY (R352, R390; log 17, DEDUCED). -/
def powerGood (s : State) : State :=
  let s1 := withPins s allPgHigh
  match s1.vault with
  | .off | .ship => wakeWrite (wakeWrite (startBoot (setVault s1 .boot) .powerUp) .a) .b
  | .fenced => bootBy s1 .fenced false
  | _ => startBoot (resetBlocks s1 .alley false) .alley

/-- POWER_GOOD (R390). -/
def execPowerGood (s : State) : Res := .next (if lastPgDue s then powerGood s else s)

/-- A power-up's enables rise. -/
def poweringUp (s : State) : Bool := (decide (s.vault = .off) || decide (s.vault = .ship)) && s.rst.ao && !s.rst.offLatched

/-- PG_TIMEOUT (R390): a power-up drops every enable and retries; a raise outside it is the fall of the rails (R391). -/
def execPgTimeout (pin : PgPin) (s : State) : Res :=
  .next (
    if !pgEnabled s.pins pin || pgHigh s.pins pin then s
    else if poweringUp s then withRst (withPins s dropEnables) (fun r => { r with retry := true })
    else if sequencing s || decide (s.vault = .alley) || decide (s.vault = .fenced) || decide (s.vault = .sealed) then logicFall s
    else s)

/-- POWER_UP_RETRY (R390): again from step 2. -/
def execPowerUpRetry (s : State) : Res :=
  .next (if s.rst.retry then
    withRst (withPins s (fun p => { p with enMr := true, enPcie := true })) (fun r => { r with retry := false })
  else s)

/-- LOGIC_RAIL_FALL (R391): watched after logic power-good. -/
def execLogicRailFall (pin : PgPin) (s : State) : Res :=
  .next (if pgEnabled s.pins pin && pgHigh s.pins pin && aoUp s then logicFall (withPins s (fun p => setPg p pin false)) else s)

/-- DOMAIN25_SUPPLY_LOSS (R14): a vault in SHIP stays shipped. -/
def execDomain25SupplyLoss (s : State) : Res := .next (supplyLost s (if s.vault = .ship then .ship else .off))

/-! Clocks. -/

/-- XTAL_STOP (R365). -/
def execXtalStop (s : State) : Res :=
  .next (if s.rst.ao then raise (setFlag (setFlag s CLK_STAT_RC_FALLBACK true) CLK_STAT_XTAL_OK false) (srcClk 5) else s)

/-- XTAL_SWITCH (R397): to the crystal, or the XTAL source, held until domain 20 runs. -/
def execXtalSwitch (stable : Bool) (s : State) : Res :=
  .next (
    if !s.rst.ao then s
    else if stable then setFlag (setFlag s CLK_STAT_RC_FALLBACK false) CLK_STAT_XTAL_OK true
    else if mgtUp s then raise s (srcClk 5)
    else withRst s (fun r => { r with xtalHeld := true }))

/-- The lock bit of a PLL (R367). -/
def pllField : Pll → Fld
  | .core => CLK_STAT_CORE
  | .serdes => CLK_STAT_SERDES_TX
  | .mgt => CLK_STAT_MGT
  | .ring => CLK_STAT_RING
  | .pcie => CLK_STAT_PCIE
  | .quad q => { CLK_STAT_QUAD with hi := CLK_STAT_QUAD.lo + q.val, lo := CLK_STAT_QUAD.lo + q.val }

/-- The clock domain of the PLL is powered (R14). -/
def pllUp (s : State) : Pll → Bool
  | .core | .serdes | .quad _ => dataUp s
  | .mgt => mgtUp s
  | .ring => ringUp s
  | .pcie => aoUp s && !logicFailed s && !s.rst.raising && decide (s.vault ≠ .alley)

/-- A PLL loses lock (R365, R367): the loss of the ring PLL wraps both ports. -/
def pllLoss (s : State) (p : Pll) : State :=
  let s1 := bump (setFlag s (pllField p) false) CLK_LOCK_LOSS_COUNT
  match p with
  | .core => raise s1 (srcClk 0)
  | .serdes => raise s1 (srcClk 1)
  | .mgt => raise s1 (srcClk 2)
  | .ring => raise (wrapPort (wrapPort s1 .east true) .west true) (srcClk 3)
  | .pcie => raise s1 (srcClk 4)
  | .quad _ => s1

/-- PLL_LOCK_LOSS (R365). -/
def execPllLockLoss (p : Pll) (s : State) : Res := .next (if pllUp s p then pllLoss s p else s)

/-! Resets outside the vault's own (R353). -/

/-- PCIE_RESET (R353): the endpoint alone. -/
def execPcieReset (s : State) : Res := .next (emit s .endpointReset)

/-- TEST_LOGIC_RESET (R353): the test logic alone (log 55, DEDUCED). -/
def execTestLogicReset (s : State) : Res := .next (emit s .testLogicReset)

/-! Warm and fenced resets (R16, R352, R355 to R358). -/

/-- Steps 1 to 3 of R355: the mirror queue goes, contexts stop, and no accepted request is answered any more. -/
def takeReset (s : State) : State :=
  let d : Drain := ⟨s.vault, s.psg.mirrorQ.isEmpty⟩
  let s1 := stopContexts { s with psg := { s.psg with mirrorQ := [] },
                                  adm := { s.adm with flights := s.adm.flights.map (fun f => { f with ack := some (2 ^ 33) }) } }
  withRst s1 (fun r => { r with drain := some d })

/-- A warm reset in BOOT restarts the ladder with no drain (R352). The vault still reached BOOT as it did (R130;
log 51, DEDUCED). -/
def restartBoot (s : State) : State := withRst (bootBy s .warm false) (fun r => { r with fromFenced := s.rst.fromFenced })

/-- A reset is requested (R16, R352): taken, held, discarded or ignored by state. -/
def requestReset (s : State) : State :=
  if logicFailed s || s.rst.drain.isSome then s else
  match s.vault with
  | .serve | .restore | .culdesac | .join => takeReset s
  | .boot => if s.rst.raising then s else restartBoot s
  | .ride | .dump => setFlag s BOOT_STAT_RESET_HELD true
  | .alley => setFlag s PWR_STAT_RESET_DISCARD true
  | .fenced => withRst (withPins s (fun p => { p with enCore := true })) (fun r => { r with fencedReq := true })
  | .off | .ship | .sealed => s

/-- WARM_RESET (R352): BOOT_CTL.WARM_RESET. In ALLEY the page is asleep but during a rendezvous (R371). -/
def execWarmReset (q : Requester) (s : State) : Res := .next (guarded s q 0x02 (requestReset s))

/-- SYS_RST_N_LOW (R352). -/
def execSysRstNLow (s : State) : Res := .next (if aoUp s then requestReset s else s)

/-- HELD_RESET_TAKEN (R16). -/
def execHeldResetTaken (s : State) : Res :=
  .next (if (s.vault = .serve ∨ s.vault = .restore) ∧ flag s BOOT_STAT_RESET_HELD ∧ !logicFailed s ∧ s.rst.drain.isNone then
    takeReset (setFlag s BOOT_STAT_RESET_HELD false)
  else s)

/-- The reset takes effect (R355, step 5; R357, R358). -/
def resetEffect (s : State) (d : Drain) (drainNs : Nat) : State :=
  let s1 := drainItems s
  let kept := decide (d.from_ = .serve) && decide (drainNs ≤ 4000) && d.mirrorEmpty
  let empty := !s1.img.pages.any (fun p => p.header.any (fun h => decide (h.typ = 1) && decide (h.gen = fld s1 IMG_GEN_OPEN_G)))
  let s2 := bootBy s1 .warm (kept && empty)
  let s3 := setFlag (setFlag (setFlag s2 BOOT_STAT_DRAM_KEPT kept) BOOT_STAT_BITMAP_KEPT (kept && empty))
    BOOT_STAT_MIRROR_DISCARD (!d.mirrorEmpty)
  let s4 := setFld { s3 with pwr := { s3.pwr with bitmapLost := kept && !empty } } BOOT_TIME_DRAIN_NS (min (2 ^ 32 - 1) drainNs)
  if drainNs ≤ 4000 then s4 else raise s4 (srcBoot 0)

/-- WARM_RESET_EFFECT (R357). -/
def execWarmResetEffect (drainNs : Nat) (s : State) : Res :=
  .next (match s.rst.drain with
    | some d => if logicFailed s then s else resetEffect s d drainNs
    | none => s)

/-- FENCED_RESET (R342, R352, R390): the enables rise in order, and with the last PG the vault boots (log 51, DEDUCED). -/
def execFencedReset (s : State) : Res :=
  .next (if s.vault = .fenced ∧ s.rst.fencedReq ∧ !logicFailed s then
    powerGood (withPins s (fun p => { p with enCore := true, enDram := true, enFlash := true }))
  else s)

/-! The end of BOOT (R296, R359 to R361). -/

/-- The first failing condition of R360; 0 is none. -/
def doneRefuse (s : State) : Nat :=
  let trained := (List.range 32).all (fun n => flag s (DRP_STAT_TRAINED_A.inst n) && flag s (DRP_STAT_TRAINED_B.inst n))
  if fld s DRC_MAP_DENSITY = 0 then 1
  else if !trained then 2
  else if !(flag s SEQ_CTL_ENABLE && bankPasses s (activeBank s)) then 3
  else if fld s IMG_STAT_BOOT_RESULT = 0 then 4
  else if !flag s JCT_CTL_ENABLE then 5
  else if !locked s 0x0B then 6
  else 0

/-- A pack authenticates on entry to JOIN unless it has failed (R233). -/
def joinAuth (s : State) (p : PackId) : State := if fld s (pakF p PAK_STAT_AUTH) = 3 then s else authStart s p

/-- BOOT → JOIN (R359, step 8). -/
def enterJoin (s : State) : State :=
  let ms := (s.now - s.rst.bootAt) / (1000 * usUnits)
  let s1 := enter (setFld s BOOT_TIME_JOIN_MS (min (2 ^ 32 - 1) ms)) .join
  let s2 := setFlag (setFlag s1 (portFld .east RNE_CTL_ENABLE) true) (portFld .west RNE_CTL_ENABLE) true
  let s3 := { s2 with pwr := { s2.pwr with regWaited := false, joinWaited := false },
                      psg := { s2.psg with genSeen := false, otherRing := false },
                      ring := { s2.ring with member := false, firstSync := true } }
  joinDecide (joinAuth (joinAuth ((List.range 9).foldl linkTrainOp s3) .a) .b)

/-- BOOT_CTL.BOOT_DONE (R360). -/
def bootDoneOp (s : State) : State :=
  if s.vault ≠ .boot then s else
    let r := doneRefuse s
    if r = 0 then enterJoin (setFld s BOOT_STAT_DONE_REFUSE 0)
    else raise (setFld s BOOT_STAT_DONE_REFUSE r) (srcBoot 1)

/-- BOOT_DONE (R360). -/
def execBootDone (q : Requester) (s : State) : Res := .next (guarded s q 0x02 (bootDoneOp s))

/-- Ring-ready (R296): KERB_HOLD driven, both ports enabled, with link at 25GBASE-R. -/
def ringReady (s : State) : Bool :=
  s.pins.kerbHold && [RingPort.east, .west].all (fun p =>
    flag s (portFld p RNE_CTL_ENABLE) && portLink s p && decide (fld s (portFld p RNE_STAT_RATE) = 1))

/-- JOIN_LATE (R359). -/
def execJoinLate (s : State) : Res := .next (if dataUp s && !ringReady s then raise s (srcBoot 2) else s)

/-- REG_WAIT_EXPIRE (R361). -/
def execRegWaitExpire (s : State) : Res :=
  .next (if s.vault = .join ∧ dataUp s then joinDecide { s with pwr := { s.pwr with regWaited := true } } else s)

/-- JOIN_WAIT_EXPIRE (R204, row 7; R205). In the hold of R201 the wait ends the same way. -/
def execJoinWaitExpire (s : State) : Res :=
  .next (if (s.vault = .join ∨ (s.vault = .dump ∧ flag s IMG_RST_STAT_HOLD)) ∧ dataUp s then
    joinDecide { s with pwr := { s.pwr with joinWaited := true } }
  else s)

end Sys2Proof.Machine
end

