-- ==== Sys2Proof/Machine/MgtOps.lean ====
section
/-! DEFINITION. The management core's registers: table loads, and the commands of the code flash (R48, R75, R273 to R290). -/
namespace Sys2Proof.Machine

def srcMgt (b : Nat) : Nat := srcNo 0x00 b
def srcNvc (b : Nat) : Nat := srcNo 0x88 b

/-! Table loads (R48, R75, R273). -/

/-- A STATUS that ends a load, or refuses it: the MGT event (R377), and TL_ERR for 3 to 8. -/
def loadStatus (s : State) (r : Nat) : State :=
  let s1 := pendEvent (setFld s MGT_TL_STAT_STATUS r) 0x00 0
  if 3 ≤ r then raise s1 (srcMgt 3) else s1

/-- The first check that fails (R48, R273); 0 is none (log 45, DESIGN CHOICE). -/
def loadCheck (s : State) (w : Window) (line bytes : Nat) : Nat :=
  if s.vault ≠ .serve then 8
  else if bytes = 0 ∨ bytes % 64 ≠ 0 then 3
  else if !w.valid then 6
  else if line < w.base ∨ w.limit < line then 4
  else if w.limit < line + bytes / 64 - 1 then 5
  else 0

/-- MGT_TL_CTL.GO. -/
def tableLoadOp (s : State) : State :=
  if s.mgt.load.isSome then s else
    let wi := fld s MGT_TL_CTL_WIN
    let w := windowOf s wi
    let line := fld s MGT_TL_LINE_LINE
    let bytes := fld s MGT_TL_LEN_BYTES
    let r := loadCheck s w line bytes
    if r ≠ 0 then loadStatus s r else
      let src := if flag s MGT_TL_CTL_SRC_SRAM then some (64 * fld s MGT_TL_SRC_ADDR) else none
      let s1 := setFld (setFld s MGT_TL_STAT_STATUS 1) MGT_TL_STAT_DONE 0
      { s1 with mgt := { s1.mgt with load := some ⟨wi, w.dbase + (line - w.base), bytes / 64, src, none⟩ } }

/-- n bytes of the management SRAM from offset a, low first. -/
def sramNum (s : State) (a : Nat) : Nat → Nat
  | 0 => 0
  | n + 1 => (sget 0 s.mgt.sram a).toNat + 256 * sramNum s (a + 1) n

/-- The lines a load moves: from the SRAM, or those the host memory gave. -/
def loadLines (s : State) (t : TableLoad) (given : List Line) : List Line :=
  match t.sram with
  | some a => (List.range t.lines).map (fun k => BitVec.ofNat 512 (sramNum s (a + 64 * k) 64))
  | none => given.take t.lines

/-- A Zoning commit held for the load's window is checked and taken as any commit is (R75). -/
def releaseCommit (s : State) : State :=
  match s.mgt.heldCommit with
  | none => s
  | some (w, a, b, c, d) => commitWindow { s with mgt := { s.mgt with heldCommit := none } } w a b c d

/-- The load has ended once its source has and none of its lines waits in the Plaza: DONE, STATUS, and the held commit (R75, R273). -/
def finishLoad (s : State) : State :=
  match s.mgt.load.bind (fun t => t.ending) with
  | none => s
  | some (n, r) =>
    if s.adm.plaza.any (fun e => e.client = 5) then s
    else releaseCommit (loadStatus (setFld { s with mgt := { s.mgt with load := none } } MGT_TL_STAT_DONE n) r)

/-- The source of a load ends: its lines enter the Plaza at input 31 as client 5, to be written as internal traffic (R76, R177, R273;
log 45, DESIGN CHOICE). -/
def tableLoadEnd (s : State) (t : TableLoad) (given : List Line) (bad : Bool) : State :=
  let ls := if serving s then loadLines s t given else []
  let r := if s.vault ≠ .serve then 8 else if bad || decide (ls.length < t.lines) then 7 else 2
  let s1 := plazaRuns s 5 31 (ls.zipIdx.map (fun e => (t.dline + e.2, some e.1)))
  { s1 with mgt := { s1.mgt with load := some { t with ending := some (ls.length, r) } } }

/-! The unlock (R280). -/

def requesterCode : Requester → Nat
  | .core => 1 | .pcie => 2 | .ring => 3

/-- The requester holds the unlock. -/
def holdsUnlock (s : State) (q : Requester) : Bool := flag s NVC_STAT_UNLOCKED && decide (fld s NVC_CTL_OWNER = requesterCode q)

/-- Another requester holds the unlock. -/
def nvcBarred (s : State) (q : Requester) : Bool := flag s NVC_STAT_UNLOCKED && decide (fld s NVC_CTL_OWNER ≠ requesterCode q)

/-- A wrong sequence; the third since the last core restart locks the unlock out. -/
def keyWrong (s : State) : State :=
  let s1 := { s with mgt := { s.mgt with keyStep := none, keyFails := s.mgt.keyFails + 1 } }
  if 3 ≤ s1.mgt.keyFails then raise (setFlag s1 NVC_STAT_KEY_LOCKOUT true) (srcNvc 8) else s1

/-- A write to NVC_KEY. While an unlock is held, or locked out, it does nothing (log 46, DESIGN CHOICE). -/
def keyOp (s : State) (q : Requester) (v : BitVec 32) : State :=
  if flag s NVC_STAT_KEY_LOCKOUT || flag s NVC_STAT_UNLOCKED then s
  else if s.mgt.keyStep = some q then
    (if v = 0x9D2E07A1 then
      setFld (setFlag { s with mgt := { s.mgt with keyStep := none } } NVC_STAT_UNLOCKED true) NVC_CTL_OWNER (requesterCode q)
    else keyWrong s)
  else if v = 0x4E56434B then { s with mgt := { s.mgt with keyStep := some q } }
  else keyWrong s

/-- NVC_CTL.LOCK: the holder gives up the unlock. -/
def lockOp (s : State) (q : Requester) : State :=
  if holdsUnlock s q then setFld (setFlag s NVC_STAT_UNLOCKED false) NVC_CTL_OWNER 0 else s

/-! The array (R274, R275, R282, R288, R289). -/

/-- Sector of a byte address. -/
def sectorOf (a : Nat) : Nat := a / 4096
def optionArea (sec : Nat) : Bool := decide (1008 ≤ sec) && decide (sec ≤ 1023)
def keyAreaSec (sec : Nat) : Bool := decide (2032 ≤ sec) && decide (sec ≤ 2047)

/-- Firmware sectors of half h, and its microcode slot. -/
def fwSector (h : Bool) (sec : Nat) : Bool := decide (sec / 1024 = b2n h) && decide (sec % 1024 < 768)
def slotSector (h : Bool) (sec : Nat) : Bool := decide (sec / 1024 = b2n h) && decide (768 ≤ sec % 1024) && decide (sec % 1024 < 832)

/-- The half that runs (R277, R362). -/
def runningHalf (s : State) : Bool := flag s MGT_STAT_HALF

/-- The option area has been written since it was last erased. -/
def optionWritten (s : State) : Bool := s.mgt.next || s.mgt.trial || decide (s.mgt.level ≠ 0)

/-- A word as it reads: a word of undefined content, and a written option area, whose layout the spec does not give, read free
values (log 4, DESIGN CHOICE). -/
def readWord (s : State) (w : Nat) : Word × State :=
  if s.mgt.dubious.contains w || (optionArea (w / 512) && optionWritten s) then drawWord s else (flashWord s w, s)

/-- Why a change of a sector by q is refused (R274, R289): WPROT, LEVEL, or not at all. -/
def protect (s : State) (q : Requester) (sec : Nat) : Option Nat :=
  let h := runningHalf s
  if optionArea sec || keyAreaSec sec then some 4
  else if flag s NVC_PROT_ACTIVE_WP && fwSector h sec then some 4
  else if q ≠ .core ∧ s.mgt.level ≠ 0 ∧ !(fwSector (!h) sec || slotSector (!h) sec) then some 9
  else none

/-- A sector reads erased. -/
def sectorBlank (s : State) (sec : Nat) : Bool × State :=
  let listed := s.mgt.flash.any (fun e => decide (e.1 / 512 = sec))
  if keyAreaSec sec then (s.mgt.keyArea.isEmpty && s.mgt.imageSlot.isEmpty, s)
  else if optionArea sec then (!optionWritten s, s)
  else if listed then (false, s)
  else if s.mgt.dubious.any (fun w => decide (w / 512 = sec)) then let p := drawNat s; (decide (p.1 % 2 = 0), p.2)
  else (true, s)

/-! Commands (R281, R283 to R285, R287, R289, R290). -/

/-- A command is refused; an operation that runs goes on. -/
def nvcRefuse (s : State) (r : Nat) : State := pendEvent (setFld s NVC_STAT_RESULT r) 0x88 0

/-- RIDE, DUMP and ALLEY refuse every change (R283); KEY_PROGRAM runs in BOOT only. -/
def nvcState (s : State) (cmd : Nat) : Bool :=
  s.vault = .ride || s.vault = .dump || s.vault = .alley || (decide (cmd = 7) && decide (s.vault ≠ .boot))

/-- A change of the array: PROGRAM, SECTOR_ERASE, SET_BOOT, SET_LEVEL, KEY_PROGRAM. -/
def changes (cmd : Nat) : Bool := cmd ≠ 3 && cmd ≠ 4

/-- The target sector of an erase is suspended, or another erase is asked for (R284). -/
def suspendBars (s : State) (cmd addr : Nat) : Bool :=
  match s.mgt.suspended with
  | none => false
  | some op => decide (cmd = 2) || ((decide (cmd = 1) || decide (cmd = 3) || decide (cmd = 4)) && decide (sectorOf addr = sectorOf op.addr))

/-- SET_LEVEL to v (R289): refused with LEVEL or STATE, or not. -/
def levelRefuse (s : State) (v : Nat) : Option Nat :=
  let l := s.mgt.level.toNat
  if v = 3 then some 9
  else if l ≤ v then none
  else if l = 1 then (if s.vault = .boot then none else some 10)
  else some 9

/-- The first ground on which a command is refused, as its RESULT. The spec gives no order among them (log 29, DESIGN CHOICE). -/
def nvcWhyNot (s : State) (q : Requester) (cmd addr data : Nat) : Option Nat :=
  let word := decide (cmd = 1) || decide (cmd = 3) || decide (cmd = 7)
  if s.mgt.op.isSome || suspendBars s cmd addr then some 8
  else if changes cmd && nvcState s cmd then some 10
  else if changes cmd && !holdsUnlock s q then some 3
  else if changes cmd && flag s NVC_STAT_GUARD then some 7
  else if word && decide (addr % 8 ≠ 0) then some 5
  else if (cmd = 2 ∨ cmd = 4) ∧ addr % 4096 ≠ 0 then some 5
  else if cmd = 1 ∨ cmd = 2 then protect s q (sectorOf addr)
  else if cmd = 3 ∧ (keyAreaSec (sectorOf addr) ∨ (q ≠ .core ∧ s.mgt.level ≠ 0)) then some 9
  else if cmd = 6 then levelRefuse s (data % 4)
  else if cmd = 7 ∧ (q ≠ .core ∨ !keyAreaSec (sectorOf addr)) then some 4
  else if cmd = 7 ∧ s.mgt.keyArea.any (fun e => e.1 = addr / 8) then some 6
  else none

/-- An operation starts; its end is NVC_OP_DONE. -/
def nvcBegin (s : State) (q : Requester) (cmd addr : Nat) (data : Word) : State :=
  let s1 := setFld (setFlag { s with mgt := { s.mgt with op := some ⟨cmd, addr, data, q⟩ } } NVC_STAT_BUSY true) NVC_STAT_RESULT 0
  if cmd = 2 then setFld s1 NVC_SUSP_COUNT 0 else s1

/-- PROGRAM of a word that does not read erased is refused (R275). -/
def programOp (s : State) (q : Requester) (addr : Nat) (data : Word) : State :=
  let (v, s1) := readWord s (addr / 8)
  if v = allOnes then nvcBegin s1 q 1 addr data else nvcRefuse s1 6

/-- A command runs (R281). -/
def nvcRun (s : State) (q : Requester) (cmd : Nat) : State :=
  let addr := fld s NVC_ADDR_ADDR
  let data := BitVec.ofNat 64 (fld s NVC_DATA_DATA)
  match nvcWhyNot s q cmd addr data.toNat with
  | some r => if r = 7 then raise (nvcRefuse s 7) (srcNvc 4) else nvcRefuse s r
  | none =>
    if cmd = 1 then programOp s q addr data
    else if cmd = 3 then
      let (v, s1) := readWord s (addr / 8)
      nvcResult (setFld s1 NVC_DATA_DATA v.toNat) 1
    else if cmd = 4 then
      let (b, s1) := sectorBlank s (sectorOf addr)
      nvcResult s1 (if b then 1 else 6)
    else nvcBegin s q cmd addr data

/-- NVC_CMD.GO with CMD; from another requester than the unlock's holder the write is discarded (R280). -/
def nvcGo (s : State) (q : Requester) (cmd : Nat) : State :=
  if nvcBarred s q then raise s (srcNvc 9) else nvcRun (setFld s NVC_CMD_CMD cmd) q cmd

/-- A write to NVC_DATA; with AUTO each starts a PROGRAM (R281). -/
def nvcDataOp (s : State) (q : Requester) (v : Word) : State :=
  if nvcBarred s q then raise s (srcNvc 9) else
    let s1 := setFld s NVC_DATA_DATA v.toNat
    if flag s1 NVC_CMD_AUTO then nvcRun s1 q 1 else s1

/-- The option area holds NEXT, TRIAL and the level (R277). -/
def setOption (s : State) (next trial : Bool) : State := { s with mgt := { s.mgt with next := next, trial := trial } }

/-- A mass erase with level 0 (R289, R290): the array, the option area and both keys. -/
def massErase (s : State) : State :=
  { s with mgt := { s.mgt with flash := [], dubious := [], keyArea := [], imageSlot := [], next := false, trial := false, level := 0 },
           img := { s.img with key := none } }

/-- An operation ends with OK (R281, R282, R289). -/
def opOk (s : State) (op : NvcOp) : State :=
  let w := op.addr / 8
  let sec := sectorOf op.addr
  if op.cmd = 1 then
    let s1 := setFlashWord { s with mgt := { s.mgt with dubious := ldel w s.mgt.dubious } } w op.data
    bump (setFld s1 NVC_ADDR_ADDR ((op.addr + 8) % 2 ^ 23)) NVC_COUNTS_PROGRAMS
  else if op.cmd = 2 then
    bump { s with mgt := { s.mgt with flash := s.mgt.flash.filter (fun e => e.1 / 512 ≠ sec),
                                      dubious := s.mgt.dubious.filter (fun x => x / 512 ≠ sec) } } NVC_COUNTS_ERASES
  else if op.cmd = 5 then setOption s (bitAt op.data.toNat 0) (bitAt op.data.toNat 1)
  else if op.cmd = 6 then
    (if op.data.toNat % 4 < s.mgt.level.toNat then massErase s
    else { s with mgt := { s.mgt with level := BitVec.ofNat 2 op.data.toNat } })
  else { s with mgt := { s.mgt with keyArea := sput w op.data s.mgt.keyArea } }

/-- NVC_OP_DONE: RESULT, PULSES of a PROGRAM, and the sources of R291. -/
def nvcDone (s : State) (ok : Bool) (pulses : Nat) : State :=
  match s.mgt.op with
  | none => s
  | some op =>
    let s0 := { s with mgt := { s.mgt with op := none } }
    let s1 := if op.cmd = 1 then setFld s0 NVC_STAT_PULSES pulses else s0
    if ok then nvcResult (opOk s1 op) 1
    else
      let s2 := nvcResult (opUndefined s1 op) 2
      if op.cmd = 1 then raise s2 (srcNvc 0) else if op.cmd = 2 then raise s2 (srcNvc 1) else s2

/-- SUSPEND (R284, R285): a running erase; ERASE_STARVED as COUNT reaches STARVE_TH. -/
def suspendOp (s : State) (q : Requester) : State :=
  if nvcBarred s q then raise s (srcNvc 9) else
  match s.mgt.op with
  | some op =>
    if op.cmd = 2 then
      let s1 := bump (setFlag (setFlag { s with mgt := { s.mgt with op := none, suspended := some op } } NVC_STAT_BUSY false)
        NVC_STAT_SUSPENDED true) NVC_SUSP_COUNT
      if fld s1 NVC_SUSP_COUNT = fld s1 NVC_SUSP_STARVE_TH then raise s1 (srcNvc 6) else s1
    else s
  | none => s

/-- RESUME (R284): the next segment, unless another operation runs or the guard is tripped (R287; log 46, DESIGN CHOICE). -/
def resumeOp (s : State) (q : Requester) : State :=
  if nvcBarred s q then raise s (srcNvc 9) else
  match s.mgt.suspended with
  | some op =>
    if s.mgt.op.isSome then s
    else if flag s NVC_STAT_GUARD then raise s (srcNvc 4)
    else setFlag (setFlag { s with mgt := { s.mgt with op := some op, suspended := none } } NVC_STAT_BUSY true) NVC_STAT_SUSPENDED false
  | none => s

/-- The pump guard trips (R287, R288): a running operation ends with GUARD and is recorded. -/
def guardTrip (s : State) : State :=
  let s1 := setFlag s NVC_STAT_GUARD true
  match s1.mgt.op with
  | none => s1
  | some op =>
    let p := recordIntr (nvcResult { s1 with mgt := { s1.mgt with op := none } } 7) op
    raiseAll p.1 (srcNvc 4 :: p.2)

/-! The core (R271, R277). -/

/-- MGT_CTL.BOOT_OK: a trial boot is confirmed. -/
def bootOkOp (s : State) : State :=
  if s.mgt.trialRun then setFlag { s with mgt := { s.mgt with trial := false, trialRun := false } } MGT_STAT_TRIAL false else s

/-- The trial-boot watchdog expires: the core restarts on the other half, to which NEXT reverts. TRIAL of the option area is not
cleared (log 30, DEDUCED). -/
def wdogExpire (s : State) : State :=
  let s1 := setFlag { s with mgt := { s.mgt with next := !runningHalf s, trial := false, trialRun := false } } MGT_STAT_FALLBACK true
  let p := coreStart s1 2
  let s2 := { p.1 with mgt := { p.1.mgt with trial := s.mgt.trial } }
  raiseAll (emit s2 .coreRestarted) (p.2 ++ [srcFwFallback])

/-- The pages with a bit set in both IRQ_PEND and IRQ_EN (R271). -/
def irqPages (s : State) : List Nat :=
  allPages.filter (fun p => decide (getReg s (rkey 0 0 p 0x048) &&& getReg s (rkey 0 0 p 0x040) ≠ 0))

end Sys2Proof.Machine
end

