-- ==== Sys2Proof/Machine/PassageCmds.lean ====
section
/-! DEFINITION. Commands of the Passage: the messages of R114, the steps of the handshake, the scrub and the resync, and the
writes of PSG_OWN_CMD and FWD_END. -/
namespace Sys2Proof.Machine

/-- FETCH (R129): the FETCHSRV routine is due (R243), and the answer leaves once it may. -/
def fetchIn (s : State) (l n : Nat) : State := answerFetch (requestRoutine s 2 8) l n

/-- FETCH_DATA (R129, R214, R215): every line good or every line poisoned. -/
def fetchDataIn (s : State) (h : PsgHdr) (data : List Slot128) : State :=
  let good := decide (h.arg.toNat = 0)
  (List.range (lineCount h.count)).foldl (fun x k =>
    fetchedLine x (h.line.toNat + k) (if good then some (slotsLine ((data.drop (4 * k)).take 4)) else none)) s

/-- OWNSUM (R123): a difference sets OWN_SPLIT. -/
def ownsumIn (s : State) (slot : Slot128) : State := if slot.toNat % 2 ^ 64 = ownSum s then s else raise s (srcPsg 5)

/-- What a whole message of type `typ` does (R114). -/
def psgEffect (typ : Nat) (h : PsgHdr) (data : List Slot128) (s : State) : Res :=
  let n := lineCount h.count
  let line := h.line.toNat
  let first := h.win.toNat
  let last := bitsOf line 11 0
  let sd := bitAt h.arg.toNat 0
  match typ with
  | 0x1 => withLines s line n (.next (mirrorIn s h (dataLines n data)))
  | 0x2 => .next (ackIn s h.mseq.toNat)
  | 0x3 => withLines s line n (.next (streamIn s line (dataLines n data)))
  | 0x4 => .next (streamEndIn s)
  | 0x5 => .next (ownReqIn s first last sd)
  | 0x6 => .next (ownGrantIn s first last sd)
  | 0x7 => .next (ownDoneIn s first last)
  | 0x8 => withLine s line (.next (digestIn s line ((data.getD 0 0).toNat % 2 ^ 64) sd))
  | 0x9 => withLine s line (.next (digestResultIn s line (h.arg.toNat = 1)))
  | 0xA => withLines s line n (.next (enqueueLines s line (dataLines n data) true))
  | 0xB => withLines s line n (.next (fetchIn s line n))
  | 0xC => withLines s line n (.next (fetchDataIn s h data))
  | 0xD => .next (noticeIn s h.arg.toNat)
  | 0xE => .next (genIn s (data.getD 0 0).toNat)
  | 0xF => .next (ownsumIn s (data.getD 0 0))
  | _ => .next s

/-- Messages that wait in the receive buffer are carried out in order while the mirror queue has room (R112, R117). -/
def psgRelease : Nat → State → Res
  | 0, s => .next s
  | n + 1, s =>
    match s.psg.held with
    | [] => .next s
    | m :: rest =>
      if !psgDelivers s || queueFull s m.typ m.hdr then .next s
      else
        andThen (psgEffect m.typ m.hdr m.data (freeRx { s with psg := { s.psg with held := rest } } 8 m.slots))
          (fun t => psgRelease n (returnCredit t 8))

/-- MIRROR (R117). -/
def execMirror (h : PsgHdr) (data : List Slot128) (s : State) : Res :=
  psgReceive 1 h data (4 * lineCount h.count) s (psgEffect 1 h data s)

/-- MIRROR_ACK (R116). -/
def execMirrorAck (h : PsgHdr) (s : State) : Res := psgReceive 2 h [] 0 s (psgEffect 2 h [] s)

/-- STREAM (R126, R132). -/
def execStream (h : PsgHdr) (data : List Slot128) (s : State) : Res :=
  psgReceive 3 h data (4 * lineCount h.count) s (psgEffect 3 h data s)

/-- STREAM_END (R126). -/
def execStreamEnd (h : PsgHdr) (s : State) : Res := psgReceive 4 h [] 0 s (psgEffect 4 h [] s)

/-- OWN_REQ (R121). -/
def execOwnReq (h : PsgHdr) (s : State) : Res := psgReceive 5 h [] 0 s (psgEffect 5 h [] s)

/-- OWN_GIVER_FLIP (R121, step 4). -/
def execOwnGiverFlip (s : State) : Res := .next (if psgDelivers s then giverFlip s else s)

/-- OWN_GRANT (R121, step 5). -/
def execOwnGrant (h : PsgHdr) (s : State) : Res := psgReceive 6 h [] 0 s (psgEffect 6 h [] s)

/-- OWN_DONE (R121, step 6). -/
def execOwnDone (h : PsgHdr) (s : State) : Res := psgReceive 7 h [] 0 s (psgEffect 7 h [] s)

/-- DIGEST (R128). -/
def execDigest (h : PsgHdr) (data : List Slot128) (s : State) : Res := psgReceive 8 h data 1 s (psgEffect 8 h data s)

/-- DIGEST_RESULT (R128). -/
def execDigestResult (h : PsgHdr) (s : State) : Res := psgReceive 9 h [] 0 s (psgEffect 9 h [] s)

/-- SCRUB_RECHECK (R128, step 2). -/
def execScrubRecheck (unit : Nat) (s : State) : Res := .next (if dataUp s then recheckSend s unit else s)

/-- REPAIR (R128, step 3): the lines wait in the mirror queue and are compared as they are written. -/
def execRepair (h : PsgHdr) (data : List Slot128) (s : State) : Res :=
  psgReceive 0xA h data (4 * lineCount h.count) s (psgEffect 0xA h data s)

/-- FETCH (R129). -/
def execFetch (h : PsgHdr) (s : State) : Res := psgReceive 0xB h [] 0 s (psgEffect 0xB h [] s)

/-- FETCH_DATA (R129, R214, R215). -/
def execFetchData (h : PsgHdr) (data : List Slot128) (s : State) : Res :=
  psgReceive 0xC h data (if h.arg.toNat = 0 then 4 * lineCount h.count else 0) s (psgEffect 0xC h data s)

/-- NOTICE (R124, R132, R133). -/
def execNotice (h : PsgHdr) (s : State) : Res := psgReceive 0xD h [] 0 s (psgEffect 0xD h [] s)

/-- RESYNC_STREAM_START (R132, step 3). -/
def execResyncStreamStart (s : State) : Res := .next (if dataUp s then resyncStart s else s)

/-- GEN (R130). -/
def execGen (h : PsgHdr) (data : List Slot128) (s : State) : Res := psgReceive 0xE h data 1 s (psgEffect 0xE h data s)

/-- OWNSUM (R123). -/
def execOwnsum (h : PsgHdr) (data : List Slot128) (s : State) : Res := psgReceive 0xF h data 1 s (psgEffect 0xF h data s)

/-- OWNSUM_SEND (R123). -/
def execOwnsumSend (s : State) : Res :=
  .next (if dataUp s then psgSend s 0xF 0 0 0 0 0 [BitVec.ofNat 128 (ownSum s)] else s)

/-- OWN_HANDSHAKE_GO (R121, R122). -/
def execOwnHandshakeGo (q : Requester) (s : State) : Res := .next (guarded s q 0x28 (ownGo s))

/-- FORCE (R124). -/
def execForce (q : Requester) (s : State) : Res := .next (guarded s q 0x28 (takeover s))

/-- FWD_END (R133). -/
def execFwdEnd (q : Requester) (s : State) : Res := .next (guarded s q 0x28 (fwdEndOp s))

/-- SCRUB_PACE (R127, R128): the SCRUB routine is due; it pauses while either vault of the square is in RESTORE (R211). -/
def execScrubPace (s : State) : Res :=
  .next (if dataUp s && flag s PSG_CTL_SCRUB_EN && decide (s.vault ≠ .restore) && decide (s.psg.partner ≠ some .restore) &&
      serving s then requestRoutine s 2 7 else s)

end Sys2Proof.Machine
end

