-- ==== Sys2Proof/Machine/DramCmds.lean ====
section
/-! DEFINITION. Commands of the DRAM controllers and PHYs (R67, R83 to R111). -/
namespace Sys2Proof.Machine

/-- DRC_SUBn of subchannel n: OFFLINE, READY, EST_MS (R109). -/
def subOffline (n : Nat) : Fld := (DRC_SUB_OFFLINE.inst (n / 8)).nth (n % 8)
def subReady (n : Nat) : Fld := (DRC_SUB_READY.inst (n / 8)).nth (n % 8)
def subEst (n : Nat) : Fld := (DRC_SUB_EST_MS.inst (n / 8)).nth (n % 8)

/-- A write refused under R86, R100, R105, R107 or R111. -/
def drcCfgErr (s : State) (q : Nat) : State := raise s (srcDrc q 7)

/-- Effect of a device or timer event of the data path: nothing while the data path is not powered (log 5, DESIGN CHOICE). -/
def whenData (s : State) (s' : State) : State := if dataUp s then s' else s

/-- A write to DRC_MAP on quadrant 0's page (R86; log 35, DEDUCED). -/
def mapOp (s : State) (v : Word) : State :=
  if s.vault = .boot then writeRw s 0x20 0x110 0 0 v else drcCfgErr s 0

/-- DRC_MAP_WRITE (R86): the pages of quadrants 1 to 3 ignore it. -/
def execDrcMapWrite (q : Requester) (quad : Fin 4) (v : Word) (s : State) : Res :=
  .next (guarded s q (0x20 + quad.val) (if quad = 0 then mapOp s v else s))

/-- COMMAND_SLOT (R87). -/
def execCommandSlot (sub : Fin 32) (eccs : List Ecc) (s : State) : Res :=
  let t := if pageRuns s (0x20 + sub.val / 8) then finishLoad (commandSlotOp s sub.val eccs) else s
  psgRelease t.psg.held.length t

/-! Refresh (R67, R89). -/

/-- The refresh of a subchannel falls due: time reaches it; its booking, the projected counts, and the next due time. None where no
origin is set, as in a disabled quadrant and in self-refresh; an offline subchannel books none and keeps its phase (R89, R105;
log 53, DEDUCED). -/
def refreshDueOp (s0 : State) (sub : Nat) : State :=
  let q := sub / 8
  let d := nget s0.dram.refDue sub
  if d = 0 then s0 else
    let due := d - 1
    let s := pass (due - s0.now) s0
    let iv := trefi s q
    if flag s (subOffline sub) then { s with dram := { s.dram with refDue := nset s.dram.refDue sub (due + iv + 1) } } else
    let c := costsOf s q (activeSet s q)
    let it : Item :=
      { id := s.adm.nextId, sub := sub, bank := 0, row := 0, line := 0, dl := due + 8 * iv, cb := 0, ca := 0, ck := c.rfc,
        acts := 0, hint := false, work := .refresh, tag := none, stage := .queue, input := 0, inter := 0, entered := s.now,
        urgency := 0 }
    let raa := (List.range 16).foldl (fun m b =>
      nset m (bankKey sub b) (nget m (bankKey sub b) - fld s ADM_REF_RAA_REF_DEC)) s.adm.raaProj
    { s with adm := { s.adm with items := s.adm.items ++ [it], nextId := s.adm.nextId + 1, raaProj := raa },
             dram := { s.dram with refDue := nset s.dram.refDue sub (due + iv + 1) } }

/-- REFRESH_DUE (R67, R89). -/
def execRefreshDue (sub : Fin 32) (s : State) : Res := .next (whenData s (refreshDueOp s sub.val))

/-- A booked refresh passes its eight-interval deadline: time reaches it (R89). -/
def refLateOp (s : State) (sub : Nat) : State :=
  match leastBy Item.dl (s.adm.items.filter (fun it => decide (it.sub = sub) && decide (it.work = .refresh))) with
  | some it => raise (pass (it.dl - s.now) s) (srcDrc (sub / 8) 3)
  | none => s

/-- REF_LATE (R89). -/
def execRefLate (sub : Fin 32) (s : State) : Res := .next (whenData s (refLateOp s sub.val))

/-- Set the refresh origin of quadrant q to now (R89): subchannel n of it falls due n × tREFI / 8 later. -/
def setOrigin (s : State) (q : Nat) : State :=
  let iv := trefi s q
  let due := (List.range 8).foldl (fun m n => nset m (8 * q + n) (s.now + n * iv / 8 + 1)) s.dram.refDue
  { s with dram := { s.dram with refDue := due } }

/-! Temperature, refresh rate and frequency steps (R90, R91, R100 to R103). -/

/-- Set PENDING of a quadrant. -/
def setPending (s : State) (q : Nat) (b : Bool) : State :=
  let p := fld s ADM_FSTEP_PENDING
  setFld s ADM_FSTEP_PENDING (withBits p q q (b2n b))

/-- Announce a step of quadrant q to a set: S is 66 us away (R101). -/
def announceStep (s : State) (q set : Nat) : State :=
  let s1 := { s with dram := { s.dram with stepAt := nset s.dram.stepAt q (s.now + 66 * usUnits + 1),
                                            stepTo := nset s.dram.stepTo q (set + 1) } }
  setFld (setPending s1 q true) (DRC_STAT_STEP_STATE.inst q) 1

/-- Every subchannel of the quadrant in service is trained for the set (R100, R106). -/
def quadTrained (s : State) (q set : Nat) : Bool :=
  (List.range 8).all (fun n =>
    flag s (subOffline (8 * q + n)) ||
      flag s (if set = 0 then DRP_STAT_TRAINED_A.inst (8 * q + n) else DRP_STAT_TRAINED_B.inst (8 * q + n)))

/-- A step request is ignored and counted while a step is announced or in progress (R101). -/
def ignoreStep (s : State) (q : Nat) : State := bump s (DRC_STEPS_IGNORED.inst q)

/-- A step request to a set: refused without training (R100). -/
def requestStep (s : State) (q set : Nat) : State :=
  if quadTrained s q set then announceStep s q set else drcCfgErr s q

/-- A thermal step (R103). -/
def thermalStep (s : State) (q set : Nat) : State :=
  if quadTrained s q set then raise (announceStep s q set) (srcDrc q 5) else drcCfgErr s q

/-- The thermal step conditions (R103): a step to A that is announced when STEP_HI is reached is withdrawn while S has not come; any
other trigger for the other set than the announced or running step's is ignored and counted (R101; log 53, DEDUCED). -/
def checkThermal (s : State) (q : Nat) (temp : Int) : State :=
  let st := fld s (DRC_STAT_STEP_STATE.inst q)
  let hi := decide ((fld s (DRC_THERM_STEP_HI.inst q) : Int) ≤ temp)
  let lo := decide (temp ≤ (fld s (DRC_THERM_STEP_LO.inst q) : Int))
  if !flag s (DRC_THERM_STEP_EN.inst q) then s
  else if hi && decide (st = 1) && decide (stepTarget s q = 0) && decide (s.now + 1 < nget s.dram.stepAt q) then
    thermalStep (setFld (setPending s q false) (DRC_STAT_STEP_STATE.inst q) 0) q 1
  else if decide (st ≠ 0) then
    (if (hi && decide (stepTarget s q = 0)) || (lo && decide (stepTarget s q = 1)) then ignoreStep s q else s)
  else if hi && decide (activeSet s q = 0) then thermalStep s q 1
  else if lo && decide (activeSet s q = 1) then thermalStep s q 0
  else s

/-- The refresh rate conditions (R90), while no change is announced (log 53, DEDUCED). -/
def checkRate (s : State) (q : Nat) (temp : Int) : State :=
  let double := flag s (DRC_STAT_RATE2X.inst q)
  let ann := fun (k : Nat) => setFlag { s with dram := { s.dram with rateTo := nset s.dram.rateTo q k } }
    (DRC_STAT_RATE_PEND.inst q) true
  if flag s (DRC_STAT_RATE_PEND.inst q) then s
  else if decide ((fld s (DRC_THERM_RATE_HI.inst q) : Int) ≤ temp) && !double then ann 1
  else if decide (temp ≤ (fld s (DRC_THERM_RATE_LO.inst q) : Int)) && double then ann 2
  else s

/-- The highest of readings. -/
def hottest : List Int → Option Int
  | [] => none
  | x :: l =>
    match hottest l with
    | none => some x
    | some y => some (max x y)

/-- A quadrant's temperature: the highest of its subchannels', each the highest of its three devices' (R90); the readings are those
of devices 0 to 2 of subchannel 0, then of 1, and so on. -/
def quadTemp (temps : List Int) : Option Int :=
  hottest ((List.range 8).filterMap (fun n => hottest ((temps.drop (3 * n)).take 3)))

/-- The quadrant's temperature is read (R90, R103). -/
def tempOp (s : State) (q : Nat) (temp : Int) : State :=
  checkThermal (checkRate (setFld s (DRC_STAT_TEMP.inst q) (ofSigned 8 temp)) q temp) q temp

/-- MR4_READ (R90): the readings of the quadrant's 24 devices in degrees C. -/
def execMr4Read (quad : Fin 4) (temps : List Int) (s : State) : Res :=
  .next (whenData s (match quadTemp temps with
    | some t => tempOp s quad.val t
    | none => s))

/-- RATE_CHANGE_EFFECT (R91): 66 us after the announcement. -/
def execRateChangeEffect (quad : Fin 4) (s : State) : Res :=
  .next (whenData s (if flag s (DRC_STAT_RATE_PEND.inst quad.val) then
    let s1 := setFlag s (DRC_STAT_RATE2X.inst quad.val) (nget s.dram.rateTo quad.val = 1)
    setFlag { s1 with dram := { s1.dram with rateTo := nset s1.dram.rateTo quad.val 0 } } (DRC_STAT_RATE_PEND.inst quad.val) false
  else s))

/-- ZQ_LATCH (R94): housekeeping of the devices' impedance; no state of the vault changes. -/
def execZqLatch (sub : Fin 32) (s : State) : Res := .next (let _ := sub; s)

/-- DQS_OSC_READ (R100): drift in 1/64 tCK; up to 8 is corrected in place. A drift the field cannot hold reads a free value
(log 4, DESIGN CHOICE). -/
def execDqsOscRead (sub : Fin 32) (drift : Int) (s : State) : Res :=
  .next (whenData s
    (let fits := decide (-128 ≤ drift) && decide (drift ≤ 127)
     let p := drawNat s
     let s1 := if fits then setFld s (DRP_STAT_DRIFT.inst sub.val) (ofSigned 8 drift)
       else setFld p.2 (DRP_STAT_DRIFT.inst sub.val) (p.1 % 256)
     if 8 < drift.natAbs then raise s1 (srcDrp sub.val 1) else s1))

/-- STEP_REQ (R101): ignored and counted while a step is announced or in progress; the controller of a disabled quadrant takes none
(R109; log 53, DEDUCED). -/
def stepReqOp (s : State) (q : Nat) : State :=
  if !flag s (DRC_CTL_ENABLE.inst q) then s
  else if fld s (DRC_STAT_STEP_STATE.inst q) ≠ 0 then ignoreStep s q
  else requestStep s q (fld s (DRC_CTL_TARGET.inst q))

def execStepReq (q : Requester) (quad : Fin 4) (s : State) : Res :=
  .next (guarded s q (0x20 + quad.val) (stepReqOp s quad.val))

/-- FREQ_STEP_START (R101, step 4): self-refresh; outstanding refreshes and their bookings are dropped, all banks are
precharged. -/
def stepStartOp (s : State) (q : Nat) : State :=
  if fld s (DRC_STAT_STEP_STATE.inst q) ≠ 1 then s else
    let keep := s.adm.items.filter (fun it => !(decide (it.sub / 8 = q) && decide (it.work = .refresh)))
    let s1 := { s with adm := { s.adm with items := keep },
                       dram := { s.dram with refDue := (List.range 8).foldl (fun m n => nset m (8 * q + n) 0) s.dram.refDue } }
    let s2 := (List.range 8).foldl (fun x n => closeRows x (8 * q + n) (List.range 16)) s1
    setFld s2 (DRC_STAT_STEP_STATE.inst q) 2

def execFreqStepStart (quad : Fin 4) (s : State) : Res := .next (whenData s (stepStartOp s quad.val))

/-- FREQ_STEP_RESUME (R101, step 9): the target set, a new refresh origin, PENDING cleared; the PHYs have relocked (R110). -/
def stepResumeOp (s : State) (q : Nat) : State :=
  if fld s (DRC_STAT_STEP_STATE.inst q) ≠ 2 then s else
    let s1 := setFld s (DRC_STAT_ACTIVE_SET.inst q) (stepTarget s q)
    let s2 := setOrigin (setFld (setPending s1 q false) (DRC_STAT_STEP_STATE.inst q) 0) q
    let s3 := (List.range 8).foldl (fun x n =>
      if flag x (DRP_CTL_ENABLE.inst (8 * q + n)) then setFlag x (DRP_STAT_LOCKED.inst (8 * q + n)) true else x) s2
    bump { s3 with dram := { s3.dram with stepAt := nset s3.dram.stepAt q 0, stepTo := nset s3.dram.stepTo q 0 } }
      (DRC_STEPS_DONE.inst q)

def execFreqStepResume (quad : Fin 4) (s : State) : Res := .next (whenData s (stepResumeOp s quad.val))

/-- STEP_FAIL (R101): the PLL has not relocked by S + G; the quadrant stays in self-refresh. -/
def execStepFail (quad : Fin 4) (s : State) : Res :=
  .next (whenData s (if fld s (DRC_STAT_STEP_STATE.inst quad.val) = 2 then raise s (srcDrc quad.val 6) else s))

/-! Patrol scrub (R98). -/

/-- The k-th line of subchannel n in DRAM line order. -/
def lineOfSub (s : State) (n k : Nat) : Nat :=
  let base := k / 64 * 2048
  let x := if bitAt (fld s DRC_MAP_XOR_MODE) 1 then n ^^^ bitsOf base 23 19 else n
  base + x * 64 + k % 64

/-- Lines of a subchannel. -/
def subLines (s : State) : Nat := installedLines s / 32

/-- One patrol read, housekeeping within its share of the reserve (R94): in SERVE, RIDE and RESTORE, restored units only, capture lines skipped; the position moves on. -/
def patrolOp (s : State) (sub : Nat) (ecc : Ecc) : State :=
  if !serving s || !flag s (DRC_SCRUB_ENABLE.inst (sub / 8)) || flag s (subOffline sub) || !subServes s sub ||
      decide (subLines s = 0) then s
  else
    let s0 := rollWindow s
    let k := nget s0.dram.patrol sub
    let l := lineOfSub s0 sub k
    let c := internalCost s0 l false
    let s1 := { s0 with dram := { s0.dram with patrol := nset s0.dram.patrol sub ((k + 1) % subLines s0) } }
    if !unitReady s1 (unitOf l) || s1.dram.capture.contains l then s1
    else if !hkRoom s0 sub c then s0
    else (readEcc (touchRow (takeService s1 sub c true) l) sub l ecc true).1

/-- PATROL_SCRUB_STEP (R98). -/
def execPatrolScrubStep (sub : Fin 32) (ecc : Ecc) (s : State) : Res := .next (whenData s (patrolOp s sub.val ecc))

/-! PHYs and training (R99, R100, R108, R110, R111). -/

/-- PHY_LOCK_LOSS (R108, R110): a fault while the vault serves. -/
def execPhyLockLoss (sub : Fin 32) (s : State) : Res :=
  .next (whenData s (let s1 := setFlag s (DRP_STAT_LOCKED.inst sub.val) false
                     if serving s then raise s1 (srcDrp sub.val 2) else s1))

/-- PHY_LOCKED (R110): the delay lines of an enabled PHY lock. -/
def execPhyLocked (sub : Fin 32) (s : State) : Res :=
  .next (whenData s (if flag s (DRP_CTL_ENABLE.inst sub.val) then setFlag s (DRP_STAT_LOCKED.inst sub.val) true else s))

/-- Start a helper action (R99); one runs at a time. -/
def trainGo (s : State) (sub mode : Nat) : State :=
  let s1 := setFld s (DRP_TRAIN_CTL_MODE.inst sub) mode
  if flag s1 (DRP_TRAIN_CTL_BUSY.inst sub) || !accepts s1 (0x40 + sub) then s1
  else setFlag (setFlag s1 (DRP_TRAIN_CTL_BUSY.inst sub) true) (DRP_TRAIN_CTL_DONE.inst sub) false

def trainCmd (q : Requester) (sub : Fin 32) (mode : Nat) (s : State) : Res :=
  .next (guarded s q (0x40 + sub.val) (trainGo s sub.val mode))

/-- CS_SAMPLING (R99, MODE 1). -/
def execCsSampling (q : Requester) (sub : Fin 32) (s : State) : Res := trainCmd q sub 1 s
/-- CA_SAMPLING (R99, MODE 2). -/
def execCaSampling (q : Requester) (sub : Fin 32) (s : State) : Res := trainCmd q sub 2 s
/-- WRITE_LEVELLING (R99, MODE 3). -/
def execWriteLevelling (q : Requester) (sub : Fin 32) (s : State) : Res := trainCmd q sub 3 s
/-- READ_GATE (R99, MODE 4). -/
def execReadGate (q : Requester) (sub : Fin 32) (s : State) : Res := trainCmd q sub 4 s
/-- READ_EYE (R99, MODE 5). -/
def execReadEye (q : Requester) (sub : Fin 32) (s : State) : Res := trainCmd q sub 5 s
/-- WRITE_EYE (R99, MODE 6). -/
def execWriteEye (q : Requester) (sub : Fin 32) (s : State) : Res := trainCmd q sub 6 s
/-- READ_VREF_POINT (R99, MODE 7). -/
def execReadVrefPoint (q : Requester) (sub : Fin 32) (s : State) : Res := trainCmd q sub 7 s
/-- WRITE_VREF_POINT (R99, MODE 8). -/
def execWriteVrefPoint (q : Requester) (sub : Fin 32) (s : State) : Res := trainCmd q sub 8 s

/-- The bits of PASS a mode reports (R99). -/
def passMask (mode pass : Nat) : Nat :=
  if mode = 1 then pass % 2 else if mode = 2 then pass % 2 ^ 14 else
  if mode = 3 ∨ mode = 4 then bitsOf pass 44 40 * 2 ^ 40 else pass % 2 ^ 40

/-- Modes 6 and 8 write BURSTS lines of the array with the pattern of DRP_TRAIN_PAT (R99, R357); which lines the spec does not say:
a free value (log 4, DESIGN CHOICE; log 35, DEDUCED). -/
def writeArray (s : State) (sub mode : Nat) : State :=
  if (mode = 6 ∨ mode = 8) ∧ 0 < subLines s then
    let (p, s1) := drawNat s
    (List.range (fld s (DRP_TRAIN_CTL_BURSTS.inst sub))).foldl (fun x i =>
      let l := lineOfSub x sub ((p + i) % subLines x)
      writeLine (dropWriteBack x l) l (Config.patternLine (getReg x (rkey 0 0 (0x40 + sub) 0x118)) i)) s1
  else s

/-- TRAIN_ACTION_DONE (R99, R108). -/
def trainDoneOp (s : State) (sub : Nat) (pass : Nat) (final : Bool) : State :=
  if !flag s (DRP_TRAIN_CTL_BUSY.inst sub) then s else
    let mode := fld s (DRP_TRAIN_CTL_MODE.inst sub)
    let m := passMask mode pass
    let s1 := writeArray s sub mode
    let s2 := setFld (setFlag (setFlag s1 (DRP_TRAIN_CTL_BUSY.inst sub) false) (DRP_TRAIN_CTL_DONE.inst sub) true)
      (DRP_TRAIN_RES_PASS.inst sub) m
    if final ∧ m = 0 then raise s2 (srcDrp sub 0) else s2

def execTrainActionDone (sub : Fin 32) (pass : BitVec 45) (finalSweep : Bool) (s : State) : Res :=
  .next (whenData s (trainDoneOp s sub.val pass.toNat finalSweep))

/-- DRP_CTL.MARK (R100, R110): bit 0 marks set A trained, bit 1 set B. -/
def markOp (s : State) (sub sets : Nat) : State :=
  let s1 := if bitAt sets 0 then setFlag s (DRP_STAT_TRAINED_A.inst sub) true else s
  if bitAt sets 1 then setFlag s1 (DRP_STAT_TRAINED_B.inst sub) true else s1

/-- MARK (R100). -/
def execMark (q : Requester) (sub : Fin 32) (sets : BitVec 2) (s : State) : Res :=
  .next (guarded s q (0x40 + sub.val) (markOp s sub.val sets.toNat))

/-- DEV_RESET (R110): only while offline or in BOOT. -/
def devResetOp (s : State) (sub : Nat) : State :=
  if s.vault = .boot ∨ flag s (subOffline sub) then emit s (.devReset sub) else s

def execDevReset (q : Requester) (sub : Fin 32) (s : State) : Res :=
  .next (guarded s q (0x40 + sub.val) (devResetOp s sub.val))

/-- The fields of DRP_DLY a pin has (R110): VREF on DQ pins, RX_DLY on DQ and DQS pins. -/
def dlyMask (pin v : Nat) : Nat :=
  bitsOf v 8 0 + (if pin < 45 then bitsOf v 24 16 * 2 ^ 16 else 0) + (if pin < 40 then bitsOf v 39 32 * 2 ^ 32 else 0)

/-- A write to DRP_DLY (R111): of the set in use only while offline or in BOOT. The entry of pin p of set e is p + 64 × e. -/
def dlyOp (s : State) (sub pin : Nat) (v : Word) : State :=
  let e := fld s (DRP_CTL_SET_EDIT.inst sub)
  if 59 < pin then s
  else if activeSet s (sub / 8) = e ∧ s.vault ≠ .boot ∧ !flag s (subOffline sub) then drcCfgErr s (sub / 8)
  else setReg s (rkey (pin + 64 * e) 0 (0x40 + sub) 0x808) (BitVec.ofNat 64 (dlyMask pin v.toNat))

/-- DRP_DLY_WRITE (R111). -/
def execDrpDlyWrite (q : Requester) (sub : Fin 32) (v : Word) (s : State) : Res :=
  .next (guarded s q (0x40 + sub.val) (dlyOp s sub.val (indexOf s q (DRP_DLY_IDX_PIN.inst sub.val)) v))

/-! Taking a subchannel offline (R105 to R107). -/

/-- EST_MS begins to run: at OFFLINE, and anew where it is written while offline (log 57, DESIGN CHOICE). -/
def estRuns (s : State) (sub : Nat) : State := { s with dram := { s.dram with offAt := nset s.dram.offAt sub (s.now + 1) } }

/-- Setting OFFLINE (R105): at most one of the vault. Refresh and refresh management stop: those booked are not issued. -/
def offlineOp (s : State) (sub est : Nat) : State :=
  if (List.range 32).any (fun n => decide (n ≠ sub) && flag s (subOffline n)) then drcCfgErr s (sub / 8)
  else if flag s (subOffline sub) then estRuns (setFld s (subEst sub) est) sub
  else
    let s1 := setFld (setFlag s (subOffline sub) true) (subEst sub) est
    let s2 := setFlag (setFlag s1 (DRP_STAT_TRAINED_A.inst sub) false) (DRP_STAT_TRAINED_B.inst sub) false
    let keep := s2.adm.items.filter (fun it => !(decide (it.sub = sub) && (decide (it.work = .refresh) || decide (it.work = .rfm))))
    settleReady (estRuns { s2 with adm := { s2.adm with items := keep },
                                   dram := { s2.dram with resynced := nset s2.dram.resynced sub 0 } } sub) sub

/-- SUBCHANNEL_OFFLINE (R105). -/
def execSubchannelOffline (q : Requester) (sub : Fin 32) (estMs : BitVec 16) (s : State) : Res :=
  .next (guarded s q (0x20 + sub.val / 8) (offlineOp s sub.val estMs.toNat))

/-- SUBCHANNEL_READY (R105): the booked work is served. -/
def execSubchannelReady (sub : Fin 32) (s : State) : Res := .next (whenData s (settleReady s sub.val))

/-- The resync of an offline subchannel has completed: the stream that carried its lines has ended, and none of them waits in the
mirror queue (R107; log 53, DEDUCED). -/
def resyncDone (s : State) (sub : Nat) : Bool :=
  decide (nget s.dram.resynced sub = 2) && !s.psg.mirrorQ.any (fun m => decide (subOf s m.line = sub))

/-- The first due time plus one, in steps of iv, that is not past: the phase stays (R89). -/
def nextDue (s : State) (d iv : Nat) : Nat :=
  if d = 0 ∨ iv = 0 ∨ s.now < d then d else d + (s.now + 1 - d + iv - 1) / iv * iv

/-- Clearing OFFLINE (R107): refused before the resync has completed or without training of both sets. -/
def onlineOp (s : State) (sub est : Nat) : State :=
  if !flag s (subOffline sub) then setFld s (subEst sub) est
  else if !resyncDone s sub ∨ !flag s (DRP_STAT_TRAINED_A.inst sub) ∨ !flag s (DRP_STAT_TRAINED_B.inst sub) then
    drcCfgErr s (sub / 8)
  else
    let s1 := setFld (setFlag (setFlag s (subOffline sub) false) (subReady sub) false) (subEst sub) est
    { s1 with dram := { s1.dram with refDue := nset s1.dram.refDue sub (nextDue s1 (nget s1.dram.refDue sub) (trefi s1 (sub / 8))),
                                     offAt := nset s1.dram.offAt sub 0 } }

/-- SUBCHANNEL_ONLINE (R107). -/
def execSubchannelOnline (q : Requester) (sub : Fin 32) (estMs : BitVec 16) (s : State) : Res :=
  .next (guarded s q (0x20 + sub.val / 8) (onlineOp s sub.val estMs.toNat))

end Sys2Proof.Machine
end

