-- ==== Sys2Proof/Machine/FaultCmds.lean ====
section
/-! DEFINITION. Commands of the fault collector (R333, R335, R339, R344, R349, R351). -/
namespace Sys2Proof.Machine

/-- FLT_FORCE_WRITE (R333). -/
def execFltForceWrite (q : Requester) (pg : Nat) (v : Word) (s : State) : Res :=
  .next (guardedHdr s q pg (forceSources s pg v.toNat))

/-- FLT_STICKY_CLEAR (R339). -/
def execFltStickyClear (q : Requester) (pg : Nat) (v : Word) (s : State) : Res :=
  .next (guardedHdr s q pg (clearSticky s pg v.toNat))

/-- FLT_CLASS_WRITE (R335). -/
def execFltClassWrite (q : Requester) (pg : Nat) (v : Word) (s : State) : Res :=
  .next (guardedHdr s q pg (writeClass s pg v.toNat))

/-- GRACE_EXPIRE (R339): the grace timers run in domain 20. -/
def execGraceExpire (src : Nat) (s : State) : Res := .next (if mgtUp s then graceExpire s src else s)

/-- FENCE_NOW (R349). -/
def execFenceNow (q : Requester) (s : State) : Res := .next (guarded s q 0x03 (raise s srcFenceReq))

/-- SEAL_NOW (R349). -/
def execSealNow (q : Requester) (s : State) : Res := .next (guarded s q 0x03 (raise s srcSealReq))

/-- A port is without link or HELLO, and its neighbour is not parked (R344). -/
def portIsolated (s : State) (p : RingPort) : Bool :=
  (!portLink s p || !(portSt s p).helloSeen) && !flag s (portFld p RNE_STAT_NEIGH_PARKED)

/-- The condition of R344 but for the 4 ms (log 49, DEDUCED). -/
def isolatedNow (s : State) : Bool :=
  (decide (s.vault = .serve) || decide (s.vault = .ride) || decide (s.vault = .restore)) && s.ring.member &&
    portIsolated s .east && portIsolated s .west

/-- ISOLATED (R344). -/
def execIsolated (s : State) : Res := .next (if mgtUp s && isolatedNow s then raise s srcIsolated else s)

/-! Fault injection (R351). -/

/-- The armed injection fires: ARM clears, FIRED sets, one forced event of SOURCE. -/
def injectionTaken (s : State) : State :=
  raiseForced (setFlag (setFlag s FLT_INJ_CTL_ARM false) FLT_INJ_CTL_FIRED true) (fld s FLT_INJ_CTL_SOURCE)

/-- An armed injection whose time is past fires at once. -/
def injectionDue (s : State) : State :=
  if flag s FLT_INJ_CTL_ARM && decide (fld s FLT_INJ_TIME_POD_TIME ≤ podNs s) then injectionTaken s else s

/-- A write to FLT_INJ_TIME. -/
def injTimeOp (s : State) (v : Word) : State := injectionDue (setFld s FLT_INJ_TIME_POD_TIME v.toNat)

/-- A write to FLT_INJ_CTL: one that leaves ARM at one with an unlisted SOURCE is refused. -/
def injCtlOp (s : State) (v : Word) : State :=
  let src := bitsOf v.toNat 12 0
  let arm := bitAt v.toNat 13
  if arm && !listedSource src then raise s srcFltCfgErr
  else
    let s1 := setFld (setFlag s FLT_INJ_CTL_ARM arm) FLT_INJ_CTL_SOURCE src
    injectionDue (if bitAt v.toNat 14 then setFlag s1 FLT_INJ_CTL_FIRED false else s1)

/-- INJECTION_ARM_WRITE (R351). -/
def execInjectionArmWrite (q : Requester) (timeReg : Bool) (v : Word) (s : State) : Res :=
  .next (guarded s q 0x07 (if timeReg then injTimeOp s v else injCtlOp s v))

/-- INJECTION_FIRE (R351). -/
def execInjectionFire (s : State) : Res := .next (if mgtUp s && flag s FLT_INJ_CTL_ARM then injectionTaken s else s)

end Sys2Proof.Machine
end

