-- ==== Sys2Proof/Machine/FlashOps.lean ====
section
/-! DEFINITION. The flash behind the image: channels and their failures, remapping, the boot scan, FORMAT, reclaim and reshaping
(R166 to R168, R181, R185 to R193, R195 to R199, R347). -/
namespace Sys2Proof.Machine

def srcJct (b : Nat) : Nat := srcNo 0x31 b
def srcArc (a b : Nat) : Nat := srcNo (0x38 + a) b

/-! Losses (R183, R190). -/

/-- The states in which a unit's content stands in DRAM and is this vault's to copy. -/
def liveState (s : State) : Bool := serving s || decide (s.vault = .dump)

/-- A unit's copy cannot be given back (R190): LOST; a unit current in DRAM is copied again, in a checkpoint that starts at once. -/
def unitGone (s : State) (u : Nat) : State :=
  if s.vault = .restore ∧ !isRestored s u then markLost s u
  else startCheckpoint (setDirty (markLost s u) u true)

/-- A unit whose copy had to be given back by its other copy or by parity is copied again (R190). -/
def recopy (s : State) (u : Nat) : State :=
  if s.vault = .restore ∧ !isRestored s u then dirtyLater s u else setDirty s u true

/-- The units of ledger page k become dirty (R183, step 1). -/
def dirtySpan (s : State) (k : Nat) : State :=
  ((List.range 1024).map (fun i => 1024 * k + i)).foldl (fun x u => if u < installedUnits s then setDirty x u true else x) s

/-- Ledger page k of the newest committed generation cannot be had: known to the choice of R204 before the vault serves, its units
copied anew after it (R183). -/
def ledgerLost (s : State) (k : Nat) : State :=
  if liveState s then respan (dirtySpan s k) [k]
  else { s with img := { s.img with badLedger := lins k s.img.badLedger } }

/-- A ledger page that is read through parity is written again (R190; log 42, DEDUCED). -/
def ledgerHurt (s : State) (k : Nat) (p : FlashPage) : State :=
  if pageHad s p then respan (bump s JCT_RECON_COUNT) [k] else ledgerLost s k

/-- Units and ledger pages that a failure puts beyond their tolerance (R190). -/
def loseBeyond (s : State) : State :=
  if !liveState s then s else
    let us := (ledgerNow s).filter (fun e => e.2.written && !e.2.lost && (copyOf s e.2).isNone)
    let ks := s.img.openDir.dir.filter (fun e => e.2.valid && (pageAt s e.2).any (fun p => !pageHad s p))
    ks.foldl (fun x e => ledgerLost x e.1) (us.foldl (fun x e => unitGone x e.1) s)

/-! Failed channels (R168, R181, R188, R189). -/

/-- An anchor copy moves off failed channel c (R181): to the lowest-numbered healthy channel of a group other than the other copy's,
where the two retained commit records are written first. -/
def moveAnchor (s : State) (c : Nat) (mine other : Fld) : State :=
  if fld s mine ≠ c then s else
    match (List.range 32).find? (fun n => !chFailed s n && decide (n % 4 ≠ fld s other % 4)) with
    | none => s
    | some n =>
      let kept := [fld s IMG_GEN_PREV_G, fld s IMG_GEN_COMMIT_G].filterMap (fun g =>
        (s.img.anchors.find? (fun a => !a.bad && decide (a.record.kind = 0x11) && decide (a.record.gen = g))).map (fun a => a.record))
      kept.foldl (fun x r => programRecord x n r true) (raise (setFld s mine n) srcAnchorMoved)

/-- The stripes being written that have a member on channel c are closed as if written, and what lies on it is copied again (R190). -/
def closeHurt (s : State) (c : Nat) : State :=
  let mine := s.img.openStripes.filter (fun o => o.members.any (fun m => decide (channelOf o.stripe m = c)))
  let there := (mine.foldl fillStripe s).img.pages.filter (fun p =>
    decide (channelOf p.stripe p.member = c) && mine.any (fun o => o.stripe = p.stripe))
  there.foldl (fun x p => match p.header with
    | some h => if h.typ = 1 then setDirty x h.unit true else if h.typ = 2 then respan x [h.unit] else x
    | none => x) (mine.foldl fillStripe s)

/-- CH_UP of the channel's Arcade (R198). -/
def setChUp (s : State) (c : Nat) (v : Bool) : State :=
  let f := ARC_STAT_CH_UP.inst (c / 8)
  setFlag s { f with hi := f.lo + c % 8, lo := f.lo + c % 8 } v

/-- The FAILED bit of channel c. -/
def setFailedBit (s : State) (c : Nat) (v : Bool) : State :=
  setFlag s { IMG_STAT_FAILED with hi := IMG_STAT_FAILED.lo + c, lo := IMG_STAT_FAILED.lo + c } v

/-- Channel c is declared failed (3) or retired (4) (R168): its group degrades, what cannot be had any more is lost, anchor copies
move, a rebuild starts (R189, R190). -/
def failChannel (s : State) (c st : Nat) : State :=
  let s0 := setChUp (setFld s (FCH_STAT_STATE.inst c) st) c false
  if chFailed s c then raise s0 (srcFch c 5) else
    let s1 := settleGroups (closeHurt (setFailedBit s0 c true) c)
    let s2 := raise (raise s1 (srcFch c 5)) srcDegraded
    let s3 := moveAnchor (moveAnchor s2 c IMG_ANCHOR_CH1 IMG_ANCHOR_CH2) c IMG_ANCHOR_CH2 IMG_ANCHOR_CH1
    let s4 := loseBeyond s3
    let left := 2 + b2n (ckptRuns s4)
    rebuildOn (setFlag { s4 with img := { s4.img with rebuildLeft := left } } IMG_STAT_REBUILDING true)

/-- Program and erase failures together reach FAIL_TH (log 42, DEDUCED). -/
def countFail (s : State) (c : Nat) : State :=
  let n := nget s.img.fails c + 1
  let s1 := { s with img := { s.img with fails := nset s.img.fails c n } }
  if fld s (FCH_SPARE_FAIL_TH.inst c) ≤ n then failChannel s1 c 3 else s1

/-- A command ended in time: timeouts are counted in a row (R168). -/
def inTime (s : State) (c : Nat) : State := { s with img := { s.img with timeouts := nset s.img.timeouts c 0 } }

/-! Remapping (R164, R167). -/

/-- The spare blocks of a die that are free. -/
def freeSpares (s : State) (c die : Nat) : List Nat :=
  let b := geom s c FCH_GEOM_BLOCKS
  let n := dieSpares s c
  ((List.range n).map (fun i => b - n + i)).filter (fun x =>
    !s.img.remap.any (fun e => decide (e.1 = c) && decide (e.2.1 = die) && decide (e.2.2.2 = x)))

/-- Planes of a die. -/
def planesOf (s : State) (c : Nat) : Nat := 2 ^ geom s c FCH_GEOM_PLANES

/-- FCH_SPARE of channel c follows its remap table. -/
def noteSpare (s : State) (c : Nat) : State :=
  let left := (diesFitted s c).map (fun d => (freeSpares s c d).length)
  let s1 := setFld s (FCH_SPARE_LEFT.inst c) (left.foldl min 65535)
  setFld s1 (FCH_SPARE_REMAPPED.inst c) ((s.img.remap.filter (fun e => e.1 = c)).length)

/-- The same, with SPARE_LOW where the die has fewer than 4 left (R167). -/
def settleSpare (s : State) (c die : Nat) : State :=
  let s2 := noteSpare s c
  if (freeSpares s c die).length < 4 then raise s2 (srcFch c 6) else s2

/-- The remap table of channel c is rewritten to both of its blocks (R164, R167). -/
def writeRemap (s : State) (c : Nat) : State :=
  [64, 65].foldl (fun x b => toDevice (toDevice x c (.erase 0 b)) c (.program 0 b 0)) s

/-- A block fails on channel c: it is remapped to a free spare of its die and plane, or its group block is retired (R167;
log 42, DEDUCED). -/
def remapBlock (s : State) (c gb : Nat) : State :=
  let p := physical s c gb
  match (freeSpares s c p.1).find? (fun x => x % planesOf s c = p.2 % planesOf s c) with
  | some x => settleSpare (writeRemap { s with img := { s.img with remap := s.img.remap ++ [(c, p.1, p.2, x)] } } c) c p.1
  | none => settleSpare (settleCap { s with img := { s.img with retired := lins gb s.img.retired } }) c p.1

/-! Pages (R166, R167, R190). -/

/-- The place on channel c of a stripe; none where the stripe's group is another. -/
def placeOn (c : Fin 32) (stripe : BitVec 32) : Option DirEntry :=
  if groupNo stripe = c.val % 4 then some ⟨stripe, Fin.ofNat 8 (c.val / 4), true⟩ else none

/-- The stripe address lies in the anchor region (R164). -/
def inAnchors (stripe : BitVec 32) : Bool := decide (dieNo stripe = 0) && decide (groupBlock stripe % 2 ^ 14 < 64)

/-- The page at a place goes bad. -/
def setBad (s : State) (d : DirEntry) : State :=
  { s with img := { s.img with pages := s.img.pages.map (fun p =>
      if p.stripe = d.stripe ∧ p.member = d.member then { p with bad := true } else p) } }

/-- The anchor page of channel c at a stripe address. -/
def anchorAt (s : State) (c : Nat) (stripe : BitVec 32) : Option AnchorPage :=
  s.img.anchors.find? (fun a => decide (a.chan = c) && decide (anchorStripe (blockPages s) c a.at_ = stripe) && !a.bad)

/-- An anchor page goes bad. -/
def anchorBad (s : State) (a : AnchorPage) : State :=
  { s with img := { s.img with anchors := s.img.anchors.map (fun x => if x.chan = a.chan ∧ x.at_ = a.at_ then { x with bad := true } else x) } }

/-- An entry names the place. -/
def LedgerEntry.names (e : LedgerEntry) (stripe : BitVec 32) (m : Fin 8) : Bool :=
  e.written && ((decide (e.stripeA = stripe) && decide (e.memberA = m)) ||
    (e.mirrored && decide (e.stripeB = stripe) && decide (e.memberB = m)))

/-- The place that a directory entry names. -/
def DirEntry.names (e : DirEntry) (stripe : BitVec 32) (m : Fin 8) : Bool :=
  e.valid && decide (e.stripe = stripe) && decide (e.member = m)

/-- A data page is the newest copy of its unit, or one of its two. -/
def isNewest (s : State) (u : Nat) (p : FlashPage) : Bool := (newestEntry s u).names p.stripe p.member

/-- A member of a stripe cannot be read (R190). A unit is given back by parity or by its other copy and copied again, or LOST; a ledger
page is rebuilt or its span copied whole; a directory page that cannot be had takes its ledger pages with it (R204). -/
def memberLost (s : State) (p : FlashPage) : State :=
  match p.header with
  | none => s
  | some h =>
    if h.typ = 1 then
      if !liveState s || !isNewest s h.unit p then s else
        match copyOf s (newestEntry s h.unit) with
        | some (r, _) => recopy (if pageLost s r then bump s JCT_RECON_COUNT else s) h.unit
        | none => unitGone s h.unit
    else if h.typ = 2 then
      if (sget DirEntry.none_ s.img.openDir.dir h.unit).names p.stripe p.member then ledgerHurt s h.unit p else s
    else if h.typ = 3 ∧ !liveState s ∧ !pageHad s p then
      match s.img.commDir.dirPages.findIdx? (fun d => d.names p.stripe p.member) with
      | some j => (List.range 2048).foldl (fun x k => ledgerLost x (2048 * j + k)) s
      | none => s
    else s

/-- A directory, side, log or wear page of the open generation is programmed anew, its payload unchanged (R167). -/
def writeAgain (s : State) (p : FlashPage) (h : PageHeader) (ls : List Line) : State :=
  let g := s.img.openDir
  let w : PageWrite := { typ := h.typ, layout := 1, unit := h.unit, tseq := some h.tseq, enc := h.enc, poison := 0, lines := ls,
                         avoid := none }
  let used := if h.typ = 3 then g.dirPages.any (fun d => d.names p.stripe p.member)
    else if h.typ = 5 then g.sideDir.names p.stripe p.member
    else (sget DirEntry.none_ g.side h.unit).names p.stripe p.member
  match if used then programPage s 0 w else none with
  | none => s
  | some (d, s1) => fillStripes (setOpenDir s1 (fun g =>
      if h.typ = 3 then { g with dirPages := g.dirPages.map (fun x => if x.names p.stripe p.member then d else x) }
      else if h.typ = 5 then { g with sideDir := d }
      else { g with side := sput h.unit d g.side }))

/-- A page program failed: what the page held is written again (R167). -/
def programVoid (s : State) (p : FlashPage) : State :=
  match p.body with
  | .parity _ => s
  | .page h ls =>
    if h.typ = 1 then (if liveState s && isNewest s h.unit p then setDirty s h.unit true else s)
    else if h.typ = 2 then
      (if (sget DirEntry.none_ s.img.openDir.dir h.unit).names p.stripe p.member then respan s [h.unit] else s)
    else if h.typ = 6 then s
    else writeAgain s p h ls

/-- A page program ends (R167): a failure remaps the block and voids the member, and what it held is written again. The stripe is
closed as if the channel had failed after it. -/
def programDone (s : State) (c : Fin 32) (stripe : BitVec 32) (ok : Bool) : State :=
  let fails := fun (x : State) => raise (bump (inTime x c.val) (FCH_FAILS_PROG.inst c.val)) (srcFch c.val 0)
  if inAnchors stripe then
    match anchorAt s c.val stripe with
    | none => s
    | some a =>
      if ok then inTime s c.val
      else countFail (programRecord (anchorBad (remapBlock (fails s) c.val (groupBlock stripe)) a) c.val a.record true) c.val
  else
    match (placeOn c stripe).bind (fun d => (pageAt s d).map (fun p => (d, p))) with
    | none => s
    | some (d, p) =>
      if ok then inTime s c.val
      else countFail (programVoid (setBad (remapBlock (fails s) c.val (groupBlock stripe)) d) p) c.val

/-- A block erase ends (R167): it stands open until it succeeds; a failed one is retried on the spare. -/
def eraseDone (s : State) (c gb : Nat) (ok : Bool) : State :=
  if gb / 2 ^ 18 ≠ c % 4 then s
  else if ok then
    let s1 := inTime s c
    { s1 with img := { s1.img with erasing := s1.img.erasing.filter (fun e => e ≠ (gb, c)) } }
  else
    let s1 := remapBlock (raise (bump (inTime s c) (FCH_FAILS_ERASE.inst c)) (srcFch c 1)) c gb
    let b := physical s1 c gb
    countFail (if s1.img.retired.contains gb then s1 else toDevice s1 c (.erase b.1 b.2)) c

/-- What a page that is unreadable does. -/
def pageUnreadable (s : State) (c : Fin 32) (stripe : BitVec 32) : State :=
  if inAnchors stripe then ((anchorAt s c.val stripe).map (anchorBad s)).getD s
  else match (placeOn c stripe).bind (fun d => (pageAt s d).map (fun p => (d, p))) with
    | some (d, p) => memberLost (setBad s d) p
    | none => s

/-- What the decodes of a read give (R166): the codewords corrected, none where they all fail; at most RETRY_MAX levels are tried. -/
def readDecode (o : FlashRead) (retryMax : Nat) : Option Nat :=
  match o.hard with
  | some n => some n
  | none => match (o.levels.take retryMax).findSome? id with
    | some n => some n
    | none => o.soft

/-- The header that was read fails its check (R173); a parity page has no header of its own. -/
def headerFails (s : State) (c : Fin 32) (stripe : BitVec 32) (o : FlashRead) : Bool :=
  match o.header with
  | none => false
  | some b => !headerValid b stripe &&
      !(!inAnchors stripe && ((placeOn c stripe).bind (pageAt s)).any (fun p => p.header.isNone))

/-- A page read ends (R166). -/
def readDone (s : State) (c : Fin 32) (stripe : BitVec 32) (o : FlashRead) : State :=
  let s0 := inTime s c.val
  let s1 := if o.hard.isSome then s0 else raise (bump s0 (FCH_RETRIES_COUNT.inst c.val)) (srcFch c.val 3)
  let r := readDecode o (fld s (FCH_TIME_RETRY_MAX.inst c.val))
  let s2 := bumpBy s1 (FCH_LDPC_CORR_COUNT.inst c.val) (r.getD 0)
  if r.isSome && !headerFails s2 c stripe o then s2
  else pageUnreadable (raise (bump s2 (FCH_UNREADABLE_COUNT.inst c.val)) (srcFch c.val 2)) c stripe

/-- A flash command exceeds its limit; the third in a row fails the channel (R168). -/
def cmdTimeout (s : State) (c : Nat) : State :=
  let n := nget s.img.timeouts c + 1
  let s1 := raise { s with img := { s.img with timeouts := nset s.img.timeouts c n } } (srcFch c 4)
  if 3 ≤ n then failChannel (inTime s1 c) c 3 else s1

/-! Channels in and out of service (R163, R164, R168, R199, R347). -/

/-- The limits of R164 on one channel's geometry. -/
def geometryFits (s : State) (c : Nat) : Bool :=
  decide (geom s c FCH_GEOM_PLANES ≤ 2) && decide (geom s c FCH_GEOM_BLOCKS ≤ 16384) && decide (geom s c FCH_GEOM_PAGES ≤ 4096) &&
    decide ((diesFitted s c).length * geom s c FCH_GEOM_BLOCKS ≤ 32768) && decide (1536 ≤ geom s c FCH_GEOM_SPARE)

/-- FCH_GEOM keeps the limits and agrees with that of every other channel in service (R164). -/
def geometryOk (s : State) (c : Nat) : Bool :=
  let g := fun (n : Nat) => getReg s ((FCH_GEOM_BLOCKS.inst n).key 0 3)
  geometryFits s c &&
    (List.range 32).all (fun n => decide (n = c) || decide (fld s (FCH_STAT_STATE.inst n) ≠ 2) || decide (g n = g c))

/-- The channel is up; DIES, what answered READ ID, is a free value (log 4, DESIGN CHOICE). -/
def channelUp (s : State) (c : Nat) : State :=
  let (d, s1) := drawNat s
  setChUp (setFld (setFld (noteSpare s1 c) (FCH_STAT_STATE.inst c) 2) (FCH_STAT_DIES.inst c) (d % 65536)) c true

/-- A failed channel is back (R347): its anchor and remap blocks are erased, its remap table is empty, and what lay on it before is
gone (log 42, DEDUCED). -/
def channelBack (s : State) (c : Nat) : State :=
  let i := s.img
  let s1 := { s with img := { i with remap := i.remap.filter (fun e => e.1 ≠ c), fails := nset i.fails c 0,
                                      pages := i.pages.filter (fun p => channelOf p.stripe p.member ≠ c),
                                      anchors := i.anchors.filter (fun a => a.chan ≠ c), anchorNext := nset i.anchorNext c 0 } }
  let s2 := (List.range 66).foldl (fun x b => toDevice x c (.erase 0 b)) s1
  channelUp (settleGroups (setFailedBit s2 c false)) c

/-- FCH_CTL.ENABLE goes to one: FCH_GEOM and FCH_SLC take effect, the dies are asked for their ID, and an SLC feature is set (R164,
R199). -/
def channelEnable (s : State) (c : Nat) : State :=
  let s1 := setReg s (rkey 0 3 (0x60 + c) 0x110) (getReg s (rkey 0 0 (0x60 + c) 0x110))
  let s2 := setReg s1 (rkey 0 3 (0x60 + c) 0x118) (getReg s1 (rkey 0 0 (0x60 + c) 0x118))
  let s3 := emit (setFld (setFlag s2 (FCH_CTL_ENABLE.inst c) true) (FCH_STAT_STATE.inst c) 1) (.flash c .readId)
  let a := geom s3 c FCH_SLC_FEAT_ADDR
  if a = 0 then s3 else emit s3 (.flash c (.setFeatures a (geom s3 c FCH_SLC_FEAT_VAL)))

/-- FCH_CTL.ENABLE goes to zero. -/
def channelDisable (s : State) (c : Nat) : State :=
  setChUp (setFld (setFlag s (FCH_CTL_ENABLE.inst c) false) (FCH_STAT_STATE.inst c) 0) c false

/-- Training of an enabled channel ends (R163, R168, R199, R347): ZQ, DCC and DQ training; a failed channel returns only from the
training of a new enable. -/
def channelTrained (s : State) (c : Nat) (ok : Bool) : State :=
  let s1 := [FlashCmd.zqCal, .dccTrain, .readDqTrain, .writeDqTrain].foldl (fun x k => emit x (.flash c k)) s
  let st := fld s (FCH_STAT_STATE.inst c)
  if !ok || !geometryOk s1 c then failChannel s1 c 3
  else if chFailed s1 c then (if st = 1 then channelBack s1 c else s1)
  else channelUp s1 c

/-! What is live (R182, R185, R192). -/

/-- Every place that a retained generation refers to: the newest committed, the previous, the open one, and the one that closes. -/
def livePlaces (s : State) : List DirEntry :=
  let i := s.img
  let ledgers := [i.opened, i.committed, i.previous] ++ (i.closing.map (fun c => c.ledger)).toList
  let dirs := [i.openDir, i.commDir, i.prevDir] ++ (i.closing.map (fun c => c.dirs)).toList
  (ledgers.flatten.filter (fun e => e.2.written)).flatMap (fun e => if e.2.mirrored then [e.2.placeA, e.2.placeB] else [e.2.placeA]) ++
    dirs.flatMap (fun d => d.sideDir :: d.dirPages ++ d.dir.map (fun e => e.2) ++ d.side.map (fun e => e.2))

/-- The live pages of a group block. -/
def livePages (s : State) (gb : Nat) : List FlashPage :=
  let l := livePlaces s
  s.img.pages.filter (fun p => decide (groupBlock p.stripe = gb) && l.any (fun d => d.names p.stripe p.member))

/-- The group block is open for writing. -/
def blockOpen (s : State) (gb : Nat) : Bool :=
  s.img.openBlocks.any (fun e => e.1 = gb) || s.img.openStripes.any (fun o => groupBlock o.stripe = gb) ||
    s.img.batch.any (fun st => groupBlock st = gb)

/-! The boot scan and FORMAT (R185 to R187, R204). -/

/-- IMG_CTL.ENABLE is set (R185): in BOOT the scan starts. -/
def imageEnable (s : State) : State :=
  let was := flag s IMG_CTL_ENABLE
  let s1 := setFlag s IMG_CTL_ENABLE true
  if s.vault = .boot ∧ !was ∧ accepts s 0x30 then { s1 with img := { s1.img with scanning := true } } else s1

/-- The highest write sequence number on flash. -/
def highestWseq (s : State) : Nat :=
  let a := s.img.pages.foldl (fun a p => max a ((p.header.map (fun h => h.wseq)).getD 0)) 0
  s.img.anchors.foldl (fun a r => max a r.wseq) a

/-- The newest generation with an open record above the newest committed one; 0 is none (R182). -/
def openFound (s : State) : Nat :=
  (((recordsOf s 0x10).filter (fun r => decide (newestGen s < r.gen))).map (fun r => r.gen)).foldl max 0

/-- The void record of an unclean stop in intent-log mode: from the last intent record that follows the newest commit (R187). -/
def bootVoid (s : State) (g : Nat) : State :=
  let since := ((goodAnchors s).filter (fun a => decide (a.record.kind = 0x11) && decide (a.record.gen = newestGen s))).foldl
    (fun m a => max m a.wseq) 0
  match ((goodAnchors s).filter (fun a => decide (a.record.kind = 0x12) && decide (since < a.wseq))).getLast? with
  | some a => writeRecord s { blankRecord s 0x13 g with stripes := a.record.stripes.filter (fun st => !stripeWhole s st) }
  | none => s

/-- The open generation is abandoned (R186): its pages are unreferenced. -/
def abandonOpen (s : State) (g : Nat) : State := raise (if s.img.intent then bootVoid s g else s) srcOpenAbandoned

/-- The key of the newest committed generation is not the one unwrapped (R176, R185). -/
def keyMismatch (s : State) : Bool :=
  match commitOf s (newestGen s) with
  | some r => decide (r.keyCheck.toNat ≠ fld s JCT_KEY_CHECK_CHECK) || !flag s JCT_STAT_KEY_VALID
  | none => false

/-- The entries of a page's lists that are not zero, from entry `first` on. -/
def loadedEntries {α : Type} [DecidableEq α] (zero : α) (f : Nat → α) (first : Nat) (l : List Nat) : Sparse α :=
  (l.zipIdx.map (fun e => (first + e.2, f e.1))).filter (fun e => decide (e.2 ≠ zero))

/-- The directory of a commit record, and the directory pages of it that cannot be had (R180, R185). -/
def loadDirectory (s : State) (r : Record) : Sparse DirEntry × List Nat :=
  r.dirs.zipIdx.foldl (fun a d =>
    if !d.1.valid then a else match plainAt s d.1 with
      | some ls => (a.1 ++ loadedEntries DirEntry.none_ dirEntryOf (2048 * d.2) (unpackPage 64 ls), a.2)
      | none => (a.1, a.2 ++ [d.2])) ([], [])

/-- The side directory of a commit record (R173). -/
def loadSide (s : State) (r : Record) : Sparse DirEntry :=
  if !r.sideDir.valid then [] else match plainAt s r.sideDir with
    | some ls => loadedEntries DirEntry.none_ dirEntryOf 0 ((unpackPage 64 ls).take 48)
    | none => []

/-- The ledger that a directory locates, and the ledger pages that cannot be had. -/
def loadLedger (s : State) (dir : Sparse DirEntry) : Sparse LedgerEntry × List Nat :=
  dir.foldl (fun a e =>
    if !e.2.valid then a else match plainAt s e.2 with
      | some ls => (a.1 ++ loadedEntries LedgerEntry.zero ledgerEntryOf (1024 * e.1) (unpackPage 128 ls), a.2)
      | none => (a.1, a.2 ++ [e.1])) ([], [])

/-- One committed generation as the image holds it: ledger, directory, and the ledger pages that cannot be had. -/
def loadGeneration (s : State) (g : Nat) : Sparse LedgerEntry × GenDir × List Nat :=
  match commitOf s g with
  | none => ([], GenDir.none_, [])
  | some r =>
    let d := loadDirectory s r
    let l := loadLedger s d.1
    (l.1, { dir := d.1, side := loadSide s r, dirPages := r.dirs, sideDir := r.sideDir },
      l.2 ++ d.2.flatMap (fun j => (List.range 2048).map (fun k => 2048 * j + k)))

/-- The refusal log of the newest committed generation (R156, R173, R180). -/
def loadedLog (s : State) (g : Nat) (side : Sparse DirEntry) : List LogEntry :=
  let n := ((commitOf s g).map (fun r => r.logEntries)).getD 0
  (((side.filter (fun e => decide (e.1 < 32) && e.2.valid)).flatMap (fun e =>
    ((plainAt s e.2).map (unpackPage 256)).getD [])).take n).map logEntryOf

/-- The erase counts of the wear pages (R173); those of this vault where it has none. -/
def loadedWear (s : State) (side : Sparse DirEntry) : Sparse Nat :=
  let l := (side.filter (fun e => decide (32 ≤ e.1) && e.2.valid)).flatMap (fun e => ((plainAt s e.2).map (unpackPage 16)).getD [])
  if l.isEmpty then s.img.erases else ((blockOrder s).zip l).filter (fun e => decide (e.2 ≠ 0))

/-- The ledgers, directories and log of the retained generations are loaded (R185). -/
def loadImage (s : State) : State :=
  let a := loadGeneration s (newestGen s)
  let b := loadGeneration s (previousGen s)
  { s with img := { s.img with committed := a.1, commDir := a.2.1, openDir := a.2.1.next, badLedger := a.2.2.foldl (fun l k => lins k l) [],
                               previous := b.1, prevDir := b.2.1, log := loadedLog s (newestGen s) a.2.1.side,
                               erases := loadedWear s a.2.1.side } }

/-- Group blocks with no live page are erased before they join the erased pool (R186). -/
def eraseDead (s : State) : State :=
  (s.img.held.filter (fun b => (livePages s b).isEmpty)).foldl eraseBlock s

/-- What the scan leaves in the registers (R185): how far IMG_WSEQ goes on beyond the highest number met is not stated, a free value
(log 4, DESIGN CHOICE). -/
def scanRegs (s : State) (result : Nat) : State :=
  let (a, s1) := drawNat s
  let s2 := setFld s1 IMG_WSEQ_NEXT (highestWseq s + 1 + a)
  let s3 := setFld (setFlag s2 IMG_STAT_READY true) IMG_STAT_BOOT_RESULT result
  settleCap (settleWear (setFlag { s3 with img := { s3.img with scanning := false } } IMG_STAT_MODE s.img.intent))

/-- G and T of the vault as the image gives them (R130, R180; log 43, DEDUCED). -/
def scanGens (s : State) : State :=
  let g := newestGen s
  let t := ((commitOf s g).map (fun r => r.t.toNat)).getD 0
  let kept := (s.ring.keptOwn.map (fun e => e.t.toNat)).getD 0
  let s1 := setFld (setFld (setFld s IMG_GEN_COMMIT_G g) IMG_GEN_PREV_G (previousGen s)) IMG_GEN_OPEN_G 0
  setFld (setFld (setFld s1 PSG_GEN_OWN_G g) PSG_TAKEOVER_T (max t kept)) IMG_LOST_UNITS (lostUnits s1).length

/-- The anchor pages of channels whose region could not be read (R185). -/
def markUnread (s : State) (unread : List (Fin 32)) : State :=
  { s with img := { s.img with anchors := s.img.anchors.map (fun a =>
      if unread.any (fun c => c.val = a.chan) then { a with bad := true } else a) } }

/-- Some healthy channel's anchor region could be read (R186). -/
def anchorsRead (s : State) (unread : List (Fin 32)) : Bool :=
  (List.finRange 32).any (fun c => !chFailed s c.val && !unread.contains c)

/-- The boot scan ends (R185, R186): the channels whose anchor region could not be read are named. -/
def scanDone (s : State) (unread : List (Fin 32)) : State :=
  if !anchorsRead s unread then scanRegs s 4 else
    let s0 := markUnread s unread
    let g := openFound s0
    let clean := { s0 with img := { s0.img with opened := [], openStripes := [], openBlocks := [], batch := [], spans := [],
                                                 closing := none } }
    let s1 := if g = 0 then clean else abandonOpen clean g
    if keyMismatch s1 then scanRegs (scanGens s1) 5
    else scanRegs (scanGens (eraseDead (loadImage s1))) (if g ≠ 0 then 3 else if newestGen s1 = 0 then 1 else 2)

/-- The image key is unwrapped from the key area, or KEY_ERR (R176, R197, R290). An erased slot holds no key (log 8, DEDUCED). -/
def unwrapKey (s : State) : State :=
  match if s.mgt.imageSlot.isEmpty then none else unwrapWords Config.deviceKey s.mgt.imageSlot with
  | some k => setFld (setFlag { s with img := { s.img with key := some k } } JCT_STAT_KEY_VALID true) JCT_KEY_CHECK_CHECK (keyCheck k).toNat
  | none => raise (setFlag { s with img := { s.img with key := none } } JCT_STAT_KEY_VALID false) (srcJct 0)

/-- JCT_CTL.SELFTEST, and the self-test at enable (R197). -/
def selftestOp (s : State) (ok : Bool) : State :=
  let s1 := setFlag s JCT_STAT_SELFTEST_OK ok
  if ok then s1 else raise s1 (srcJct 1)

/-- JCT_CTL.ENABLE goes to one: the key is unwrapped and the self-test runs; how it ends is a free value (log 4, DESIGN CHOICE). -/
def junctionEnable (s : State) : State :=
  let (a, s1) := drawNat s
  selftestOp (unwrapKey (setFlag s1 JCT_CTL_ENABLE true)) (decide (a % 2 = 0))

/-- A fresh image key from the vault's random number generator (log 4, DESIGN CHOICE). -/
def drawKey (s : State) : ImageKey × State :=
  let r := (List.range 8).foldl (fun (x : Nat × State) i => let p := drawWord x.2; (x.1 + p.1.toNat * 2 ^ (64 * i), p.2)) (0, s)
  (BitVec.ofNat 512 r.1, r.2)

/-- FORMAT (R176, R185, R187, R290): the image is erased, a new key made and stored wrapped; with ENABLE at one the scan runs
again. -/
def formatImage (s : State) : State :=
  let (k, s0) := drawKey (s.img.held.foldl eraseGroup s)
  let i : ImageSt := { ImageSt.reset with
    fresh := true, erases := s0.img.erases, erasing := s0.img.erasing, retired := s0.img.retired, remap := s0.img.remap,
    fails := s0.img.fails, timeouts := s0.img.timeouts, intent := flag s0 IMG_CTL_INTENT, scanning := flag s0 IMG_CTL_ENABLE,
    key := s0.img.key }
  let s1 := { s0 with img := i, mgt := { s0.mgt with imageSlot := wrapKey Config.deviceKey k } }
  let s2 := [IMG_STAT_BOOT_RESULT, IMG_GEN_COMMIT_G, IMG_GEN_PREV_G, IMG_GEN_OPEN_G, IMG_LOST_UNITS, PSG_GEN_OWN_G,
    IMG_WORK_REBUILD_LEFT, IMG_WORK_RESHAPE_LEFT].foldl (fun x f => setFld x f 0) s1
  let s3 := [IMG_STAT_READY, IMG_STAT_REBUILDING, IMG_STAT_RESHAPING].foldl (fun x f => setFlag x f false) s2
  let s4 := settleWear (setFlag s3 IMG_STAT_MODE i.intent)
  if flag s4 JCT_CTL_ENABLE then unwrapKey s4 else s4

/-- IMG_CTL.FORMAT (R185, R195). -/
def formatOp (s : State) : State := if s.vault = .boot then formatImage s else raise s (srcImg 8)

/-! Reclaim, wear, reshaping (R191 to R193). -/

/-- The units of live data pages, and the ledger pages of live ledger pages. -/
def unitsOn (ps : List FlashPage) (typ : Nat) : List Nat :=
  (ps.filterMap (fun p => p.header.bind (fun h => if h.typ = typ then some h.unit else none))).foldl (fun l u => lins u l) []

/-- Relocations still allowed: SHARE / 256 of any 2^20 programmed pages (R193). -/
def shareLeft (s : State) : Nat :=
  let recent := s.img.relocs.filter (fun e => decide (s.img.programs < e.1 + 2 ^ 20))
  fld s IMG_GC_SHARE * 4096 - recent.foldl (fun a e => a + e.2) 0

/-- Units move: marked dirty, and a checkpoint held to CK_MIN copies them; RELOCATE is due (R192, R193, R243). -/
def relocateUnits (s : State) (us : List Nat) : State :=
  let s1 := markForCopy s us
  requestCheckpoint (requestRoutine { s1 with img := { s1.img with relocating := us.foldl (fun l u => lins u l) s1.img.relocating } } 1 5)

/-- The live pages of a block move, within the relocation share (R192, R193). -/
def relocatePages (s : State) (ps : List FlashPage) : State :=
  let us := (unitsOn ps 1).take (shareLeft s)
  let s1 := respan s (unitsOn ps 2)
  relocateUnits { s1 with img := { s1.img with relocs := (s1.img.relocs.filter (fun e => decide (s1.img.programs < e.1 + 2 ^ 20))) ++
                                                           [(s1.img.programs, us.length)] } } us

/-- When a generation's pages were written at the latest, in ns of pod time: the oldest commit record not before it (R180, R192;
log 42, DEDUCED). -/
def genTime (s : State) (genLo : BitVec 32) : Option Nat :=
  ((recordsOf s 0x11).filter (fun r => decide (genLo.toNat ≤ r.gen % 2 ^ 32))).foldl (fun a r => match a with
    | none => some r.podTime.toNat
    | some t => some (min t r.podTime.toNat)) none

/-- Units whose copy is older than RETAIN_DAYS (R192). -/
def agedUnits (s : State) : List Nat :=
  ((ledgerNow s).filter (fun e => e.2.written && (genTime s e.2.genLo).any (fun t =>
    decide (t + fld s IMG_GC_RETAIN_DAYS * 86400000000000 < podNs s)))).map (fun e => e.1)

/-- SERVE or RESTORE, with the scan done. -/
def collects (s : State) : Bool := watched s && dataUp s && flag s IMG_STAT_READY

/-- Garbage collection takes up a group block, and moves the units whose copy is too old (R192; log 42, DEDUCED). -/
def reclaim (s : State) (gb : Nat) : State :=
  if !collects s || !flag s IMG_CTL_GC_EN then s
  else
    let old := agedUnits s
    let s1 := if old.isEmpty then s else relocateUnits s old
    if !s1.img.held.contains gb || blockOpen s1 gb then s1 else
      let ps := livePages s1 gb
      if ps.isEmpty then eraseBlock s1 gb else relocatePages s1 ps

/-- The held group block with live pages and the lowest erase count (R193). -/
def leastWorn (s : State) : Option Nat :=
  (s.img.held.filter (fun b => !(livePages s b).isEmpty)).foldl (fun a b => match a with
    | none => some b
    | some x => if nget s.img.erases b < nget s.img.erases x then some b else some x) none

/-- The wear governor (R193). -/
def wearMove (s : State) : State :=
  if !collects s || decide (fld s IMG_WEAR_MAX ≤ fld s IMG_WEAR_MIN + fld s IMG_WEAR_SPREAD) then s
  else
    let s1 := raise s (srcImg 5)
    match leastWorn s1 with
    | some b => relocatePages s1 (livePages s1 b)
    | none => s1

/-- The layout of a unit's newest copy. -/
def entryLayout (s : State) (e : LedgerEntry) : Nat :=
  if e.mirrored then 2 else (((pageAt s e.placeA).bind FlashPage.header).map (fun h => h.layout)).getD 0

/-- The stripe is closed and has another shape than its group gives now: other members than the healthy ones (R170, R171, R191). -/
def oldShape (s : State) (stripe : BitVec 32) : Bool :=
  !stripeOpen s stripe && decide (stripeMembers s stripe ≠ healthyMembers s (groupNo stripe))

/-- The unit is to be reshaped (R191): a copy in a stripe of another shape, or with a member on a channel that failed. -/
def needsReshape (s : State) (u : Nat) : Bool :=
  let e := newestEntry s u
  e.written && (decide (entryLayout s e ≠ unitLayout s u) || oldShape s e.stripeA || (e.mirrored && oldShape s e.stripeB))

/-- Units with a copy in the image, rising. -/
def writtenUnits (s : State) : List Nat := ((ledgerNow s).filter (fun e => e.2.written)).map (fun e => e.1)

/-- The next batch of a sweep (R191): its units are marked and a checkpoint held to CK_MIN is requested; with none left the sweep
ends. -/
def reshapeBatch (s : State) : State :=
  match s.img.reshapeAt with
  | none => s
  | some at_ =>
    let todo := (writtenUnits s).filter (fun u => decide (at_ ≤ u) && needsReshape s u)
    let batch := todo.take (max 1 (fld s IMG_RESHAPE_CFG_BATCH))
    let s1 := setFld s IMG_WORK_RESHAPE_LEFT todo.length
    match batch.getLast? with
    | none => setFlag { s1 with img := { s1.img with reshapeAt := none } } IMG_STAT_RESHAPING false
    | some last =>
      requestCheckpoint (markForCopy { s1 with img := { s1.img with reshapeAt := some (last + 1) } } batch)

/-- IMG_CTL.RESHAPE (R191, R243): the sweep starts from unit 0. -/
def reshapeOp (s : State) : State :=
  if collects s || (decide (s.vault = .ride) && flag s IMG_STAT_READY) then
    reshapeBatch (setFlag (requestRoutine { s with img := { s.img with reshapeAt := some 0 } } 1 4) IMG_STAT_RESHAPING true)
  else s

/-! The SRAM of IMG (R177, R195). -/

/-- An error in bitmap or directory SRAM: the bits of a bitmap word set; the directory of the newest committed generation is read
again. -/
def imgSramOp (s : State) (e : ImgSramErr) (count : Nat) : State :=
  match e with
  | .corrected => raise s (srcImg 6)
  | .bitmap first =>
    let us := ((List.range count).map (fun i => first + i)).filter (fun u => decide (u < installedUnits s))
    raise (us.foldl (fun x u => setDirty x u true) s) (srcImg 7)
  | .directory =>
    let dir := ((commitOf s (newestGen s)).map (fun r => (loadDirectory s r).1)).getD []
    raise { s with img := { s.img with commDir := { s.img.commDir with dir := dir } } } (srcImg 7)

/-! Commits (R150, R183). -/

/-- A checkpoint has committed: a rebuild's next checkpoint, and a reshaping's next batch (R189, R191). -/
def afterCheckpoint (s : State) : State :=
  let s1 := noteReserve (setFld (bump (setFlag s PWR_STAT_CKPT false) PWR_COUNTS_CHECKPOINTS) PWR_DUMP_STAT_PHASE 0)
  let s2 := if s1.img.rebuildLeft = 0 then s1 else
    let s' := { s1 with img := { s1.img with rebuildLeft := s1.img.rebuildLeft - 1 } }
    if s'.img.rebuildLeft = 0 then setFlag s' IMG_STAT_REBUILDING false
    else rebuildOn (if s'.img.rebuildLeft = 1 then setFld { s' with img := { s'.img with rebuilding := [] } } IMG_WORK_REBUILD_LEFT 0 else s')
  reshapeBatch s2

/-- The commit record of generation g as programmed. -/
def commitStands (s : State) (g : Nat) : Option Record :=
  (s.img.anchors.find? (fun a => !a.bad && decide (a.record.kind = 0x11) && decide (a.record.gen = g))).map (fun a => a.record)

/-- Commit copy 1 is programmed; verified by read-back it stands, else it is programmed again at the next anchor page (R183). -/
def copy1Done (s : State) (verified : Bool) : State :=
  match s.img.closing with
  | none => s
  | some c =>
    if (commitStands s c.gen).isSome then s else
      let s1 := programRecord s (fld s IMG_ANCHOR_CH1) (commitRecord s c) verified
      if c.dump && verified then setFld s1 PWR_DUMP_STAT_PHASE 7 else s1

/-- Commit copy 2 stands: the generation is committed (R183). -/
def copy2Done (s : State) : State :=
  match s.img.closing with
  | none => s
  | some c => match commitStands s c.gen with
    | none => s
    | some r =>
      let s1 := generationCommitted (programRecord s (fld s IMG_ANCHOR_CH2) r true) c
      if c.dump then completeDump s1 else afterCheckpoint s1

end Sys2Proof.Machine
end

