-- ==== Sys2Proof/Machine/ImageCmds.lean ====
section
/-! DEFINITION. Commands of the flash image, the Junction and the flash channels (R166 to R168, R177, R183, R185 to R193, R197,
R199, R347). -/
namespace Sys2Proof.Machine

/-- BOOT_SCAN (R185): a write of IMG_CTL.ENABLE. -/
def execBootScan (q : Requester) (s : State) : Res := .next (guarded s q 0x30 (imageEnable s))

/-- BOOT_SCAN_DONE (R186). -/
def execBootScanDone (unread : List (Fin 32)) (s : State) : Res :=
  .next (if s.vault = .boot ∧ dataUp s ∧ s.img.scanning then scanDone s unread else s)

/-- FORMAT (R185). -/
def execFormat (q : Requester) (s : State) : Res := .next (guarded s q 0x30 (formatOp s))

/-- RESHAPE (R191). -/
def execReshape (q : Requester) (s : State) : Res := .next (guarded s q 0x30 (reshapeOp s))

/-- GC_RECLAIM (R192). -/
def execGcReclaim (block : Nat) (s : State) : Res := .next (reclaim s block)

/-- WEAR_RELOCATE (R193). -/
def execWearRelocate (s : State) : Res := .next (wearMove s)

/-- FLASH_PROGRAM_DONE (R167). -/
def execFlashProgramDone (ch : Fin 32) (stripe : BitVec 32) (ok : Bool) (s : State) : Res :=
  .next (if dataUp s then programDone s ch stripe ok else s)

/-- FLASH_ERASE_DONE (R167). -/
def execFlashEraseDone (ch : Fin 32) (block : Nat) (ok : Bool) (s : State) : Res :=
  .next (if dataUp s then eraseDone s ch.val block ok else s)

/-- FLASH_READ_DONE (R166). -/
def execFlashReadDone (ch : Fin 32) (stripe : BitVec 32) (o : FlashRead) (s : State) : Res :=
  .next (if dataUp s then readDone s ch stripe o else s)

/-- FLASH_CMD_TIMEOUT (R168). -/
def execFlashCmdTimeout (ch : Fin 32) (s : State) : Res := .next (if dataUp s then cmdTimeout s ch.val else s)

/-- RETIRE (R168). -/
def execRetire (q : Requester) (ch : Fin 32) (s : State) : Res :=
  .next (guarded s q (0x60 + ch.val) (failChannel s ch.val 4))

/-- FLASH_TRAIN (R199): on an enabled channel. -/
def execFlashTrain (q : Requester) (ch : Fin 32) (ok : Bool) (s : State) : Res :=
  .next (guarded s q (0x60 + ch.val) (if flag s (FCH_CTL_ENABLE.inst ch.val) then channelTrained s ch.val ok else s))

/-- CHANNEL_RETURN (R347): FCH_CTL.ENABLE from zero to one, with how the training ends. -/
def execChannelReturn (q : Requester) (ch : Fin 32) (ok : Bool) (s : State) : Res :=
  .next (guarded s q (0x60 + ch.val)
    (if flag s (FCH_CTL_ENABLE.inst ch.val) then s else channelTrained (channelEnable s ch.val) ch.val ok))

/-- ARCADE_PLL_LOSS (R168, R195, R367): its eight channels fail. -/
def execArcadePllLoss (a : Fin 4) (s : State) : Res :=
  .next (if dataUp s then
    let lock : Fld := { CLK_STAT_ARCADE with hi := CLK_STAT_ARCADE.lo + a.val, lo := CLK_STAT_ARCADE.lo + a.val }
    let s1 := raise (bump (setFlag s lock false) CLK_LOCK_LOSS_COUNT) (srcArc a.val 0)
    (List.range 8).foldl (fun x i => failChannel x (8 * a.val + i) 3) s1
  else s)

/-- SELFTEST (R197). -/
def execSelftest (q : Requester) (ok : Bool) (s : State) : Res := .next (guarded s q 0x31 (selftestOp s ok))

/-- IMG_SRAM_ERROR (R177, R195). -/
def execImgSramError (e : ImgSramErr) (count : Nat) (s : State) : Res := .next (if dataUp s then imgSramOp s e count else s)

/-- COMMIT_COPY1_DONE (R183). -/
def execCommitCopy1Done (verified : Bool) (s : State) : Res :=
  .next (if dataUp s then copy1Done s verified else s)

/-- COMMIT_COPY2_DONE (R150, R152, R183). -/
def execCommitCopy2Done (s : State) : Res := .next (if dataUp s then copy2Done s else s)

end Sys2Proof.Machine
end

