-- ==== Sys2Proof/Machine/LinkCmds.lean ====
section
/-! DEFINITION. Commands of the Boulevard links and the Passage link (R21 to R28, R52, R57). -/
namespace Sys2Proof.Machine

/-- NAK_RECEIVE (R25). -/
def execNakReceive (link : Fin 9) (ack : BitVec 12) (s : State) : Res := .next (nakOp s link.val ack)
/-- CREDIT (R27). -/
def execCredit (link : Fin 9) (slots : BitVec 16) (s : State) : Res := .next (creditOp s link.val slots.toNat)
/-- CANCEL (R52). -/
def execCancel (link : Fin 8) (port : BitVec 10) (tag : BitVec 16) (s : State) : Res := .next (cancelOp s link.val port tag)
/-- LINK_TRAIN (R21). -/
def execLinkTrain (q : Requester) (link : Fin 9) (s : State) : Res :=
  .next (guarded s q (linkPage link.val) (linkTrainOp s link.val))
/-- LINK_UP (R21). -/
def execLinkUp (link : Fin 9) (s : State) : Res := .next (linkUpOp s link.val)
/-- LANE_FAIL (R22). -/
def execLaneFail (link : Fin 9) (lane : Fin 16) (s : State) : Res := .next (laneFailOp s link.val lane.val)
/-- CDR_LOCK_LOSS (R26): an active lane without lock for 1 us takes the link down. -/
def execCdrLockLoss (link : Fin 9) (s : State) : Res :=
  .next (if dataUp s && decide (fld s (linkState link.val) = 2) then linkDown s link.val else s)
/-- PORT_CFG_WRITE (R57): the entry that the requester's index names. -/
def execPortCfgWrite (q : Requester) (link : Fin 8) (v : Word) (s : State) : Res :=
  .next (guarded s q (0x18 + link.val)
    (portCfgOp s (128 * link.val + indexOf s q (BLV_PORT_IDX_INDEX.inst link.val)) v))

end Sys2Proof.Machine
end

