-- ==== Sys2Proof/Machine/MgtCmds.lean ====
section
/-! DEFINITION. Commands of the management core and the code flash (R271, R273, R277, R278, R280 to R290). -/
namespace Sys2Proof.Machine

/-- TABLE_LOAD (R273). -/
def execTableLoad (q : Requester) (s : State) : Res := .next (guarded s q 0x00 (tableLoadOp s))

/-- TABLE_LOAD_END (R273). -/
def execTableLoadEnd (lines : List Line) (pcieError : Bool) (s : State) : Res :=
  match s.mgt.load with
  | none => .next s
  | some t =>
    if !dataUp s then .next s
    else withLines s t.dline t.lines
      (.next (finishLoad (if t.ending.isSome then s else tableLoadEnd s t lines pcieError)))

/-- CORE_RESTART (R278). -/
def execCoreRestart (q : Requester) (s : State) : Res := .next (guarded s q 0x00 (coreRestart s 1))

/-- BOOT_OK (R277). -/
def execBootOk (q : Requester) (s : State) : Res := .next (guarded s q 0x00 (bootOkOp s))

/-- BOOT_WDOG_EXPIRE (R277). -/
def execBootWdogExpire (s : State) : Res := .next (if mgtUp s && s.mgt.trialRun then wdogExpire s else s)

/-- NVC_KEY_WRITE (R280). -/
def execNvcKeyWrite (q : Requester) (v : BitVec 32) (s : State) : Res := .next (guarded s q 0x88 (keyOp s q v))

/-- LOCK (R280). -/
def execNvcLock (q : Requester) (s : State) : Res := .next (guarded s q 0x88 (lockOp s q))

/-- PROGRAM (R282). -/
def execNvcProgram (q : Requester) (s : State) : Res := .next (guarded s q 0x88 (nvcGo s q 1))

/-- SECTOR_ERASE (R282). -/
def execNvcSectorErase (q : Requester) (s : State) : Res := .next (guarded s q 0x88 (nvcGo s q 2))

/-- READ (R281). -/
def execNvcRead (q : Requester) (s : State) : Res := .next (guarded s q 0x88 (nvcGo s q 3))

/-- BLANK_CHECK (R281). -/
def execNvcBlankCheck (q : Requester) (s : State) : Res := .next (guarded s q 0x88 (nvcGo s q 4))

/-- SET_BOOT (R281). -/
def execNvcSetBoot (q : Requester) (s : State) : Res := .next (guarded s q 0x88 (nvcGo s q 5))

/-- SET_LEVEL (R289). -/
def execNvcSetLevel (q : Requester) (s : State) : Res := .next (guarded s q 0x88 (nvcGo s q 6))

/-- KEY_PROGRAM (R290). -/
def execNvcKeyProgram (q : Requester) (s : State) : Res := .next (guarded s q 0x88 (nvcGo s q 7))

/-- NVC_DATA_WRITE (R281). -/
def execNvcDataWrite (q : Requester) (v : Word) (s : State) : Res := .next (guarded s q 0x88 (nvcDataOp s q v))

/-- NVC_OP_DONE (R282). -/
def execNvcOpDone (ok : Bool) (pulses : BitVec 4) (s : State) : Res :=
  .next (if mgtUp s then nvcDone s ok pulses.toNat else s)

/-- SUSPEND (R284). -/
def execNvcSuspend (q : Requester) (s : State) : Res := .next (guarded s q 0x88 (suspendOp s q))

/-- RESUME (R284). -/
def execNvcResume (q : Requester) (s : State) : Res := .next (guarded s q 0x88 (resumeOp s q))

/-- ERASE_STARVED (R285): an erase in progress, suspended or not. -/
def execEraseStarved (s : State) : Res :=
  .next (if mgtUp s && (s.mgt.suspended.isSome || s.mgt.op.any (fun op => op.cmd = 2)) then raise s (srcNvc 6) else s)

/-- PUMP_GUARD_TRIP (R287). -/
def execPumpGuardTrip (s : State) : Res := .next (if mgtUp s then guardTrip s else s)

/-- PUMP_GUARD_RELEASE (R287). -/
def execPumpGuardRelease (s : State) : Res := .next (if mgtUp s then setFlag s NVC_STAT_GUARD false else s)

end Sys2Proof.Machine
end

