-- ==== Sys2Proof/Machine/PackCmds.lean ====
section
/-! DEFINITION. Commands of the energy packs (R224 to R238). A pack is sampled in every state but OFF and SHIP (R223). -/
namespace Sys2Proof.Machine

def pakPage : PackId → Nat
  | .a => 0x09
  | .b => 0x0A

/-- ESTIMATOR_UPDATE (R224). -/
def execEstimatorUpdate (a b : PackSample) (s : State) : Res := .next (if aoUp s then estimate s a b else s)

/-- A burst (R225): Z25 moves by the Z_DIV-th part; without a current step, a scale or a divisor the spec states no value. -/
def impedanceOp (s : State) (p : PackId) (v0 i0 v i t : Int) : State :=
  let sc := tempScale s t
  let dv := fld s MEAS_FILT_Z_DIV
  let old := fld s (pakF p PAK_IMP_Z25)
  let (z, s1) := if i = i0 ∨ sc = 0 ∨ dv = 0 then drawNat s
    else
      let n := ((v0 - v : Int) : Rat) / ((i - i0 : Int) : Rat) * 10000 / sc
      (Config.roundReg (max 0 ((old : Rat) + (n - (old : Rat)) / (dv : Rat))), s)
  let z' := min 65535 z
  let s2 := bump (setFld s1 (pakF p PAK_IMP_Z25) z') (pakF p PAK_IMP_STEPS)
  if fld s2 MEAS_PACK_Z_LIMIT < z' then raise s2 (srcPak p 3) else s2

/-- IMPEDANCE_BURST_DONE (R225): a burst in which the current moved is discarded. -/
def execImpedanceBurstDone (p : PackId) (v0 i0 v i t : Int) (moved : Bool) (s : State) : Res :=
  .next (if aoUp s && (getPack s p).present && !moved then impedanceOp s p v0 i0 v i t else s)

/-- ADC_AUTO_ZERO (R222, R239): a failure keeps the port out of the count. -/
def execAdcAutoZero (p : PackId) (ok : Bool) (s : State) : Res :=
  .next (if aoUp s then
    let x := getPack s p
    let s1 := setPack s p { x with adcBad := !ok }
    recount (if ok then s1 else raise s1 (srcMeas 1))
  else s)

/-- A removal (R235). -/
def removePack (s : State) (p : PackId) : State :=
  let x := getPack s p
  let s1 := setPack s p { x with present := false, attempt := 0, authDue := false, tempOut := false, chgFails := 0,
                                 chgHeld := false }
  let s2 := setFld (setFld (setFlag s1 (pakF p PAK_STAT_REST) false) (pakF p PAK_STAT_AUTH) 0) (pakF p PAK_STAT_CHG) 0
  raise (recount (abandonLearn (abandonLearn s2 .a 7) .b 7)) (srcPak p 0)

/-- PACK_REMOVAL (R235). -/
def execPackRemoval (p : PackId) (s : State) : Res :=
  .next (if aoUp s && (getPack s p).present then removePack s p else s)

/-- An insertion (R236): the voltage at the insertion is kept for the identifier comparison, and authentication starts. -/
def insertPack (s : State) (p : PackId) (v : Int) : State :=
  let x := getPack s p
  let s1 := setPack s p { x with present := true, qAcc := 0, restUs := 0, compare := some v, lastV := v, chgHeld := false }
  settlePacks (authStart s1 p)

/-- PACK_INSERTION (R236). -/
def execPackInsertion (p : PackId) (v : Int) (s : State) : Res :=
  .next (if aoUp s && !(getPack s p).present then insertPack s p v else s)

/-- AUTH (R233). -/
def execAuth (q : Requester) (p : PackId) (s : State) : Res := .next (guarded s q (pakPage p) (settlePacks (authStart s p)))

/-- AUTH_PERIODIC (R233): outside SERVE and RESTORE it waits for the next entry to either. -/
def execAuthPeriodic (p : PackId) (s : State) : Res :=
  .next (if aoUp s && decide (fld s (pakF p PAK_STAT_AUTH) = 2) then
    if watched s then authStart s p else setPack s p { getPack s p with authDue := true }
  else s)

/-- AUTH_ATTEMPT_END (R233). -/
def execAuthAttemptEnd (p : PackId) (id : Option Word) (o : AuthOutcome) (s : State) : Res :=
  .next (if aoUp s then authEnd s p id o else s)

/-- LEARN (R229). -/
def execLearn (q : Requester) (p : PackId) (s : State) : Res := .next (guarded s q (pakPage p) (learnStart s p))

/-- LEARN_STOP (R231). -/
def execLearnStop (q : Requester) (p : PackId) (s : State) : Res := .next (guarded s q (pakPage p) (abandonLearn s p 6))

/-- LEARN_CHARGE_END (R230, phase 1; R231). -/
def execLearnChargeEnd (p : PackId) (terminated : Bool) (s : State) : Res :=
  .next (if aoUp s && decide (fld s (pakF p PAK_STAT_LEARN) = 1) then
    if terminated then setFld (setFld s (pakF p PAK_STAT_LEARN) 2) (pakF p PAK_STAT_CHG) 5 else abandonLearn s p 5
  else s)

/-- LEARN_REST_END (R230, phase 3). -/
def execLearnRestEnd (p : PackId) (s : State) : Res :=
  .next (if aoUp s && decide (fld s (pakF p PAK_STAT_LEARN) = 2) then
    let s1 := setFld (setFld s (pakF p PAK_STAT_LEARN) 3) (pakF p PAK_LEARN_Q_MAH) 0
    setLearnPin (setPack s1 p { getPack s1 p with qLearn := 0 }) p true
  else s)

/-- LEARN_DISCHARGE_END (R230, phase 4). -/
def execLearnDischargeEnd (p : PackId) (i t : Int) (s : State) : Res :=
  .next (if aoUp s && decide (fld s (pakF p PAK_STAT_LEARN) = 3) then learnDone s p i t else s)

/-- CHARGER_WRITE (R232). -/
def execChargerWrite (p : PackId) (ok : Bool) (s : State) : Res := .next (if aoUp s then chargerWrite s p ok else s)

/-- CHARGE_FAULT (R232). -/
def execChargeFault (p : PackId) (s : State) : Res :=
  .next (if aoUp s && (getPack s p).present then chargeFault s p else s)

/-- MEAS_CTL.SHIP (R238): held in ALLEY, refused with CFG_ERR elsewhere. -/
def shipOp (s : State) : State :=
  if s.vault = .alley then setFlag s MEAS_STAT_SHIP_PENDING true else raise s (srcMeas 2)

/-- SHIP (R238). -/
def execShip (q : Requester) (s : State) : Res := .next (guarded s q 0x0B (shipOp s))

end Sys2Proof.Machine
end

