-- ==== Sys2Proof/Machine/PageCmds.lean ====
section
/-! DEFINITION. The common header: PAGE_LOCK and PAGE_CTL (R373 to R375, R401). -/
namespace Sys2Proof.Machine

/-- Setting PAGE_LOCK; on MEAS, an OCV table that does not rise raises CFG_ERR (R374, R401). -/
def lockPage (s : State) (page : Nat) : State :=
  let s1 := setFlag s (PAGE_LOCK_LOCK page) true
  if page = 0x0B ∧ !locked s page ∧ !ocvRises s then raise s1 (srcMeas 2) else s1

/-- A write to PAGE_LOCK: writing zero has no effect (R374). -/
def pageLockOp (s : State) (page : Nat) (v : Word) : State := if bitAt v.toNat 0 then lockPage s page else s

/-- PAGE_LOCK_WRITE (R374); from the ring it is always denied (R380). -/
def execPageLockWrite (q : Requester) (pg : Nat) (v : Word) (s : State) : Res :=
  .next (guardedHdr s q pg (if q = .ring then s else pageLockOp s pg v))

/-! PAGE_CTL (R375). -/

/-- Pages on which ENABLE, BLOCK_RESET and QUIESCE never take effect: MGT, CLK, BOOT, FLT, PWR, NVC. -/
def neverOut (page : Nat) : Bool := decide (page ≤ 0x08) || decide (page = 0x88)

/-- The page is out of service. -/
def outOfService (s : State) (page : Nat) : Bool :=
  !neverOut page && (decide (s.vault = .boot) ||
    (if 0x18 ≤ page ∧ page ≤ 0x1F then
      decide (fld s (BLV_STAT_STATE.inst (page - 0x18)) = 0) || decide (fld s (BLV_STAT_STATE.inst (page - 0x18)) = 3)
    else if 0x40 ≤ page ∧ page ≤ 0x5F then
      flag s ((DRC_SUB_READY.inst ((page - 0x40) / 8)).nth ((page - 0x40) % 8))
    else if 0x60 ≤ page ∧ page ≤ 0x7F then
      decide (fld s (FCH_STAT_STATE.inst (page - 0x60)) = 3) || decide (fld s (FCH_STAT_STATE.inst (page - 0x60)) = 4)
    else if 0x38 ≤ page ∧ page ≤ 0x3B then
      (List.range 8).all (fun i =>
        let st := fld s (FCH_STAT_STATE.inst (8 * (page - 0x38) + i))
        decide (st = 3) || decide (st = 4))
    else if page = 0x91 then !flag s RNE_CTL_ENABLE
    else if page = 0x92 then !flag s (RNE_CTL_ENABLE.inst 1)
    else if page = 0x09 then !s.packA.present
    else if page = 0x0A then !s.packB.present
    else false))

/-- The RWL bits of a register's row. -/
def rwlKeep (page off : Nat) (old new : Word) : Word :=
  match findRow page off with
  | none => new
  | some r => BitVec.ofNat 64 (r.fields.foldl (fun a f =>
      if f.acc = .rwl then withBits a f.hi f.lo (bitsOf old.toNat f.hi f.lo) else a) new.toNat)

/-- Every register of the page from 0x100 up takes its reset value; RWL fields are kept while the page is locked
(log 33, DEDUCED). -/
def resetBlock (s : State) (page : Nat) : State :=
  (s.regs.map (fun e => e.1)).foldl (fun x k =>
    if keyPage k = page ∧ 0x100 ≤ keyOff k then
      setReg x k (if locked s page then rwlKeep page (keyOff k) (getReg s k) (resetWord k) else resetWord k)
    else x) s

/-- A block reset, with RESET_BUSY until it ends. -/
def blockResetOp (s : State) (page : Nat) : State :=
  let s1 := setFlag (resetBlock s page) (PAGE_STAT_RESET_BUSY page) true
  if page = 0x09 ∨ page = 0x0A then settlePacks s1 else s1

/-- A write to PAGE_CTL. One that would act on ENABLE, BLOCK_RESET or QUIESCE while the page is in service changes nothing and
sets CTL_REFUSED; REMOTE is frozen by a set lock (R374; log 33, DEDUCED). -/
def pageCtlOp (s : State) (page : Nat) (v : Word) : State :=
  let en := bitAt v.toNat 0
  let rst := bitAt v.toNat 1
  let qu := bitAt v.toNat 2
  let acts := decide (en ≠ flag s (PAGE_CTL_ENABLE page)) || decide (qu ≠ flag s (PAGE_CTL_QUIESCE page)) || rst
  if acts && !outOfService s page then setFlag s (PAGE_STAT_CTL_REFUSED page) true
  else
    let s1 := if locked s page then s else setFld s (PAGE_CTL_REMOTE page) (bitsOf v.toNat 5 4)
    let s2 := setFlag (setFlag s1 (PAGE_CTL_ENABLE page) en) (PAGE_CTL_QUIESCE page) qu
    let s3 := setFlag (setFlag s2 (PAGE_STAT_CLOCKED page) en) (PAGE_STAT_CTL_REFUSED page) false
    if rst then blockResetOp s3 page else s3

/-- The write of PAGE_CTL by a requester: one from the ring that changes REMOTE is denied (R380). -/
def pageCtlBy (s : State) (q : Requester) (page : Nat) (v : Word) : State :=
  if q = .ring ∧ bitsOf v.toNat 5 4 ≠ fld s (PAGE_CTL_REMOTE page) then s else pageCtlOp s page v

/-- PAGE_ENABLE (R375). -/
def execPageEnable (q : Requester) (pg : Nat) (v : Word) (s : State) : Res := .next (guardedHdr s q pg (pageCtlBy s q pg v))

/-- BLOCK_RESET (R375): a write with the bit at one. -/
def execBlockReset (q : Requester) (pg : Nat) (v : Word) (s : State) : Res :=
  .next (guardedHdr s q pg (pageCtlBy s q pg (v ||| 2)))

/-- BLOCK_RESET_DONE (R375). -/
def execBlockResetDone (pg : Nat) (s : State) : Res :=
  .next (if mappedPage pg && groupUp s pg then setFlag s (PAGE_STAT_RESET_BUSY pg) false else s)

/-- QUIESCE (R375). -/
def execQuiesce (q : Requester) (pg : Nat) (v : Word) (s : State) : Res := .next (guardedHdr s q pg (pageCtlBy s q pg v))

/-- Work of the block is left (R375): what PAGE_STAT.IDLE waits for (log 33, DEDUCED). -/
def blockBusy (s : State) (page : Nat) : Bool :=
  if 0x10 ≤ page ∧ page ≤ 0x12 then !s.adm.flights.isEmpty || !s.adm.items.isEmpty else
  if 0x18 ≤ page ∧ page ≤ 0x1F then s.adm.flights.any (fun f => f.link = page - 0x18) else
  if 0x20 ≤ page ∧ page ≤ 0x23 then s.adm.items.any (fun it => it.sub / 8 = page - 0x20) else
  if page = 0x28 then !s.psg.txWait.isEmpty || !s.psg.mirrorQ.isEmpty || s.psg.handshake.isSome else
  if page = 0x30 then s.img.scanning else
  if 0x40 ≤ page ∧ page ≤ 0x5F then flag s (DRP_TRAIN_CTL_BUSY.inst (page - 0x40)) else
  if 0x60 ≤ page ∧ page ≤ 0x7F then decide (fld s (FCH_STAT_STATE.inst (page - 0x60)) = 1) else
  if page = 0x80 ∨ page = 0x81 then
    [s.seq.ctx0, s.seq.ctx1, s.seq.ctx2, s.seq.ctx3].any (fun c => decide (c.run ≠ 0)) else
  if page = 0x90 then (List.range 16).any (fun d => decide (fldAt s RNG_TX_CTL_BUSY d = 1)) else
  if page = 0x93 then censusActive s else
  if page = 0x09 then decide (s.packA.attempt ≠ 0) else
  if page = 0x0A then decide (s.packB.attempt ≠ 0) else false

end Sys2Proof.Machine
end

