-- ==== Sys2Proof/Machine/PowerCmds.lean ====
section
/-! DEFINITION. Commands of the power watch: losses and returns of the main rail, the ride-through, the dump and its hold (R137 to
R162, R200 to R203, R393). -/
namespace Sys2Proof.Machine

/-! Losses and returns (R138 to R144, R150, R153, R160, R200, R201). -/

/-- BKUP_REARM (R138): the first sample below LOSS during a board test. -/
def execBkupRearm (s : State) : Res :=
  .next (if s.vault = .serve ∧ !flag s PWR_CTL_BKUP_ARM ∧ aoUp s then
    settlePins (setFlag (setFlag s PWR_CTL_BKUP_ARM true) PWR_STAT_MAIN_RAW false)
  else s)

/-- The registers and pins at a declared loss (R138, R139, R231). -/
def noteLoss (s : State) (raw : Bool) : State :=
  let s1 := setFlag (setFlag (setFlag s PWR_STAT_MAIN false) PWR_STAT_MAIN_RAW raw) PWR_STAT_ISO true
  let s2 := setFlag (setFld s1 PWR_LOSS_TIME_POD_TIME (podNs s)) PWR_CTL_BKUP_ARM true
  let s3 := settlePins (withPins s2 (fun p => { p with mainIsoN := false }))
  abandonLearn (abandonLearn s3 .a 3) .b 3

/-- A loss acts on the state (R15, R138, R142, R153, R160). -/
def actOnLoss (s : State) : State :=
  if logicFailed s then s else
  match s.vault with
  | .serve | .restore => enterRide s
  | .boot | .join | .culdesac => enterAlley s
  | .fenced | .sealed => settlePacks (withPins s (fun p => { p with bkupEn := false }))
  | .dump =>
    (match s.pwr.ended with
      | some true => enterAlley (setFlag s IMG_RST_STAT_HOLD false)
      | some false => resumeDump s
      | none => s)
  | _ => s

/-- A main-rail loss is declared; a rail already declared lost is lost already (log 41, DEDUCED). -/
def mainLoss (s : State) (raw : Bool) : State :=
  if aoUp s && s.pins.mainIsoN then actOnLoss (raise (noteLoss s raw) srcMainLoss) else s

/-- MAIN_LOSS_DECLARE (R139). -/
def execMainLossDeclare (s : State) : Res := .next (mainLoss s false)

/-- SENSE_ERROR (R141): the rail is treated as lost; its samples lie above RETURN, which MAIN_RAW goes on to show (R162). -/
def execSenseError (s : State) : Res :=
  .next (if aoUp s then mainLoss (setFlag (raise s srcSenseErr) PWR_STAT_MAIN_RAW true) true else s)

/-- A qualified return acts on the state (R144, R200, R201, R238). -/
def actOnReturn (s : State) : State :=
  if logicFailed s then s else
  match s.vault with
  | .ride => raiseEvent (raiseEvent (settleLost (finishRestore (rebuildOn (answerResync (enter s s.pwr.rideFrom))))) 0 evReturn) 1 evResume
  | .alley =>
    let s1 := if flag s MEAS_STAT_SHIP_PENDING then
        setFlag (setFlag s MEAS_STAT_SHIP_PENDING false) MEAS_STAT_SHIP_DISCARD true
      else s
    let s2 := enter (withRst s1 (fun r => { r with raising := true })) .boot
    withPins s2 (fun p => { p with enMr := true, enPcie := true })
  | .dump => seeAbort s
  | _ => s

/-- The first return after power-on only qualifies the rail. -/
def noteReturn (s : State) : State :=
  let s1 := setFlag (setFlag (setFlag s PWR_STAT_MAIN true) PWR_STAT_MAIN_RAW true) PWR_STAT_ISO false
  withPins s1 (fun p => { p with mainIsoN := true })

/-- MAIN_RETURN_QUALIFY (R140). -/
def execMainReturnQualify (s : State) : Res :=
  .next (if aoUp s && !mainPresent s then actOnReturn (noteReturn s) else s)

/-- PWR_SENSE as a write leaves it (R141): RETURN at least 200 mV above LOSS, in steps of 10 mV. -/
def pwrSenseOp (s : State) (v : Word) : State :=
  let k := rkey 0 0 0x08 0x110
  let new := mergeRw s 0x08 0x110 v.toNat (getReg s k)
  if bitsOf new.toNat 31 16 + 20 ≤ bitsOf new.toNat 47 32 then setReg s k new else raise s srcPwrCfgErr

/-- PWR_SENSE_WRITE (R141). -/
def execPwrSenseWrite (q : Requester) (v : Word) (s : State) : Res := .next (guarded s q 0x08 (pwrSenseOp s v))

/-! Ride-through and dump (R143, R150, R158, R393). -/

/-- SPEC_COPY_START (R143, R393). -/
def execSpecCopyStart (s : State) : Res :=
  .next (if s.vault = .ride ∧ dataUp s ∧ flag s PWR_CTL_SPEC_EN ∧ fld s PWR_RIDE_SPEC_DELAY < fld s PWR_RIDE_WINDOW ∧
      s.pins.pakEnA = s.pins.pakEnB then requestRoutine s 0 1
  else s)

/-- RIDE_WINDOW_EXPIRE (R150). -/
def execRideWindowExpire (s : State) : Res := .next (if s.vault = .ride ∧ dataUp s then enterDump s else s)

/-- Steps 3 to 5 of R150: everything accepted reaches DRAM and is answered, the links go idle, DRAM is frozen. -/
def freezeDram (s : State) : State :=
  let s1 := linksIdle (drainMirror (drainItems s))
  setFld { s1 with dram := { s1.dram with frozen := true } } PWR_DUMP_STAT_PHASE 4

/-- DUMP_DRAIN_DONE (R150). -/
def execDumpDrainDone (s : State) : Res :=
  .next (if s.vault = .dump ∧ dataUp s ∧ !s.dram.frozen ∧ fld s PWR_DUMP_STAT_PHASE = 3 then freezeDram s else s)

/-- CHECKPOINT (R147, R193). -/
def execCheckpoint (q : Requester) (s : State) : Res := .next (guarded s q 0x08 (requestCheckpoint s))

/-- PWR_CTL.ABORT (R158, R159). -/
def abortOp (s : State) : State := if mainPresent s then seeAbort s else raise s srcAbortIgnored

/-- ABORT (R158). -/
def execAbort (q : Requester) (s : State) : Res := .next (guarded s q 0x08 (abortOp s))

/-! The end of the hold (R201 to R203, R205). -/

/-- T has been read for the square: from the partner's GEN, or from its entry in the registry of a formed ring. -/
def tRead (s : State) : Bool := s.psg.genSeen || (s.ring.formed && (registryFind s Config.partnerId).isSome)

/-- The state that DUMP is left for: RESTORE if any unit is unrestored, else SERVE (log 28, DEDUCED). -/
def leaveTarget (s : State) : VaultState :=
  if s.pwr.rideFrom = .restore ∧ !allRestored s then .restore else .serve

/-- A link that is enabled completes its fast retrain (R203, step 4; log 28, DEDUCED). -/
def fastRetrain (s : State) (l : Nat) : State :=
  if flag s (linkEnable l) then
    linkUpOp (if l < 8 then startTraining s l true
      else setFld (setLink s 8 { (getLink s 8).cleared with owed := 0, fast := true }) PSG_STAT_STATE 1) l
  else s

/-- The partner took over during the dump: a warm reset is raised (R202). -/
def leaveByReset (s : State) : State :=
  let s1 := setFlag (setFlag s IMG_RST_STAT_HOLD false) BOOT_STAT_RESET_HELD true
  settleRecon (enter (if leaveTarget s1 = .serve ∧ flag s1 IMG_RST_STAT_ACTIVE then restoreEnds s1 else s1) (leaveTarget s1))

/-- The ladder of R203. A vault that has just taken over owes the partner no stream and awaits none. -/
def leaveDump (s : State) (alone : Bool) : State :=
  let s1 := setFld (setFlag s IMG_RST_STAT_HOLD false) PWR_DUMP_STAT_PHASE 0
  let s2 := if s1.pwr.ended = some true then writeOpenRecord s1 else s1
  let s3 := { s2 with dram := { s2.dram with frozen := false }, pwr := { s2.pwr with ended := none },
                      psg := { s2.psg with needEnd := !alone, holdUnowned := !alone } }
  let s4 := settleRecon ((List.range 9).foldl fastRetrain s3)
  let target := leaveTarget s4
  let s5 := if target = .restore then setFlag (requestRoutine s4 1 3) IMG_RST_STAT_ACTIVE true
    else if flag s4 IMG_RST_STAT_ACTIVE then restoreEnds s4 else s4
  startCatchup (enterServing s5 target)

/-- DUMP_HOLD_END (R201, R202). -/
def execDumpHoldEnd (s : State) : Res :=
  .next (
    if s.vault = .dump ∧ flag s IMG_RST_STAT_HOLD ∧ dataUp s ∧ tRead s then
      match beforeEntry s with
      | none => setFlag s IMG_RST_STAT_JOIN_WAITING true
      | some s1 =>
        let s2 := setFlag s1 IMG_RST_STAT_JOIN_WAITING false
        if fld s PSG_TAKEOVER_T < squareT s then leaveByReset (setFlag s IMG_RST_STAT_JOIN_WAITING false)
        else leaveDump s2 (decide (fld s1 PSG_TAKEOVER_T ≠ fld s PSG_TAKEOVER_T))
    else s)

end Sys2Proof.Machine
end

