-- ==== Sys2Proof/Machine/RestoreCmds.lean ====
section
/-! DEFINITION. Commands of the restore and of reconciliation (R207, R214 to R216, R219). -/
namespace Sys2Proof.Machine

/-! Restored units. -/

/-- Unit u is restored (R189, R190, R207, R211): it leaves the demand queue, its marks of rebuild and parity apply, and what
waited for it is answered. -/
def unitRestored (s : State) (u : Nat) : State :=
  let now := s.now / 30
  let same := if s.pwr.justRestored.1 = now then s.pwr.justRestored.2 else []
  let s1 := setRestored { s with pwr := { s.pwr with justRestored := (now, u :: same) } } u true
  let late := s1.img.dirtyOnRestore.contains u
  let s2 := { s1 with img := { s1.img with restoring := nset s1.img.restoring u 0, dirtyOnRestore := ldel u s1.img.dirtyOnRestore },
                      pwr := { s1.pwr with demand := s1.pwr.demand.filter (fun v => v ≠ u) } }
  finishRestore (answerWaiting (if late then setDirty s2 u true else s2))

/-- UNIT_RESTORED (R207): once the last of its 256 restore writes is served. -/
def execUnitRestored (u : Nat) (s : State) : Res :=
  .next (if rstMode s && dataUp s && decide (u < installedUnits s) && !isRestored s u && restoreDone s u then unitRestored s u else s)

/-- LOST_WAIT has passed since RESTORE was entered (R214), also where the vault rides through meanwhile. -/
def lostWait (s : State) : State := settleLost { s with pwr := { s.pwr with lostWaitOver := true } }

/-- LOST_WAIT_EXPIRE (R214). -/
def execLostWaitExpire (s : State) : Res := .next (if rstMode s && dataUp s then lostWait s else s)

/-! Reconciliation. -/

/-- RESULT of log entry i. -/
def setLogResult (s : State) (i : Nat) (r : BitVec 2) : State :=
  { s with pwr := { s.pwr with log := s.pwr.log.zipIdx.map (fun e => if e.2 = i then { e.1 with result := r } else e.1) } }

/-- An APPLY ends at once: RESULT, and the IMG event as BUSY reads zero again (R377). -/
def applyEnds (s : State) (i : Nat) (r : BitVec 2) : State := pendEvent (setLogResult s i r) 0x30 0

/-- A logged addition on its line (R38, R215). A poisoned line takes no result (R97). -/
def applyAdd (s : State) (i opc l sub : Nat) (slot : Slot128) : State :=
  if isPoison s l then applyEnds s i 1
  else applyEnds (dramWrite s l (wordOp opc (readLine s l) sub [slot]).line none) i 1

/-- The lines of a logged WR are fetched from the partner (R129, R215). -/
def applyFetch (s : State) (i l n : Nat) : State :=
  if psgUp s then
    let s1 := setFlag { s with psg := { s.psg with reconFetch := some (i, (List.range n).map (fun k => l + k), false) } }
      IMG_RLOG_IDX_BUSY true
    psgSend s1 0xB 0 0 l (n % 64) 0 []
  else applyEnds s i 2

/-- Where a logged request's lines lie: the lowest valid window that contains ADDR. -/
def loggedLine (s : State) (e : LogEntry) : Option Nat :=
  let addr := bitsOf e.hdr.toNat 82 47
  ((matchingWindows s addr).head?).map (fun w => w.dbase + (addr - w.base))

/-- APPLY of entry i (R215, R243), in a state that serves, while none runs. An entry in no window, or on an unrestored unit, is
not applied (log 44, DEDUCED). -/
def applyOp (s : State) (i : Nat) : Res :=
  if !serving s || flag s IMG_RLOG_IDX_BUSY then .next s else
  match s.pwr.log[i]? with
  | none => .next s
  | some e =>
    match loggedLine s e with
    | none => .next s
    | some l =>
      let opc := e.hdr.toNat % 32
      let n := lineCount (BitVec.ofNat 6 (bitsOf e.hdr.toNat 88 83))
      let s1 := requestRoutine s 3 10
      withLines s l n (.next (
        if !(reqUnits l n).all (unitReady s) then (reqUnits l n).foldl promote s
        else if opc = opWR then applyFetch s1 i l n
        else applyAdd s1 i opc l (bitsOf e.hdr.toNat 95 92) e.slot))

/-- APPLY (R215). -/
def execApply (q : Requester) (s : State) : Res :=
  if canWrite s q 0x30 then applyOp (dropHalf s q) (indexOf s q IMG_RLOG_IDX_INDEX) else .next (dropHalf s q)

/-- Bytes 8k to 8k + 7 of log entry i; zero beyond the log. -/
def logWord (s : State) (i k : Nat) : Nat :=
  match s.pwr.log[i]? with
  | some e => (e.hdr.toNat + e.slot.toNat * 2 ^ 128) / 2 ^ (64 * k) % 2 ^ 64
  | none => 0

/-- IMG_RLOG_IDX.INDEX as a requester writes it: the entry goes into that requester's D0 to D3 (R219, R378). -/
def rlogLoad (s : State) (q : Requester) (i : Nat) : State :=
  let b := reqBank q
  let put := fun (m : Sparse Word) (k : Nat) =>
    sset (0 : Word) m (rkey 0 b 0x30 (0x1B0 + 8 * k)) (BitVec.ofNat 64 (logWord s i k))
  pendEvent (setFldIn { s with snaps := (List.range 4).foldl put s.snaps } IMG_RLOG_IDX_INDEX 0 b i) 0x30 0

/-- RLOG_INDEX_LOAD (R219). -/
def execRlogIndexLoad (q : Requester) (index : BitVec 14) (s : State) : Res :=
  .next (guardedIdx s q 0x30 (rlogLoad s q index.toNat))

/-- RECON_DONE (R216). -/
def execReconDone (q : Requester) (s : State) : Res := .next (guarded s q 0x30 (setFlag s IMG_RST_STAT_RECON false))

/-- IMG_RST_CTL.RECON_ABANDON (R216). -/
def reconAbandonOp (s : State) : State := raise (setFlag s IMG_RST_STAT_RECON false) (srcImg 11)

/-- RECON_ABANDON (R216). -/
def execReconAbandon (q : Requester) (s : State) : Res := .next (guarded s q 0x30 (reconAbandonOp s))

end Sys2Proof.Machine
end

