-- ==== Sys2Proof/Machine/Bus.lean ====
section
/-! DEFINITION. One access to a register page (R5, R6, R268 to R270, R368 to R382): where it lands, what a read returns, and what
a write does in each block. -/
namespace Sys2Proof.Machine

/-! Index registers and entries (R378). -/

/-- The register is an index register. -/
def indexRegister (page off : Nat) : Bool :=
  (decide (off = 0x800) && (decide (0x18 ≤ page ∧ page ≤ 0x1F) || decide (0x40 ≤ page ∧ page ≤ 0x7F) ||
    [0x04, 0x05, 0x0B, 0x11, 0x12, 0x81, 0x90, 0x93].contains page)) ||
  [(0x0B, 0x810), (0x11, 0x830), (0x12, 0x818), (0x30, 0x1A8), (0x90, 0x148)].contains (page, off)

/-- The requester's own copies: its index registers, the Zoning staging, the words of the control-store window. -/
def ownCopy (page off : Nat) : Bool :=
  indexRegister page off || (decide (page = 0x11) && decide (0x808 ≤ off ∧ off ≤ 0x820)) ||
    (decide (page = 0x81) && decide (0x800 ≤ off ∧ off ≤ 0x810))

/-- Entries that only the hardware writes: reads return the requester's snapshot. -/
def snapped (page off : Nat) : Bool :=
  (decide (page = 0x90) && decide (0x808 ≤ off ∧ off ≤ 0x820)) || (decide (page = 0x05) && decide (0x808 ≤ off ∧ off ≤ 0x810)) ||
    (decide (0x60 ≤ page ∧ page ≤ 0x7F) && decide (off = 0x808)) || (decide (page = 0x30) && decide (0x1B0 ≤ off ∧ off ≤ 0x1C8))

/-- The requester's index i, where it names an entry. -/
def named (i : Nat) (exists_ : Bool) : Option (Nat × Nat) := if exists_ then some (i, 0) else none

/-- Index and bank of the register an access reaches; none where the index names no entry. -/
def place (s : State) (q : Requester) (page off : Nat) : Option (Nat × Nat) :=
  let at_ := fun (f : Fld) => indexOf s q f
  if ownCopy page off then some (0, reqBank q) else
  if 0x18 ≤ page ∧ page ≤ 0x1F ∧ 0x808 ≤ off then named (at_ (BLV_PORT_IDX_INDEX.inst (page - 0x18))) true else
  if page = 0x12 ∧ (off = 0x808 ∨ off = 0x810) then named (at_ ADM_PORT_IDX_INDEX) true else
  if page = 0x12 ∧ 0x820 ≤ off then named (at_ ADM_POOL_IDX_INDEX) true else
  if page = 0x11 ∧ off = 0x838 then named (at_ ZON_TEN_IDX_INDEX) true else
  if 0x40 ≤ page ∧ page ≤ 0x5F ∧ off = 0x808 then
    let pin := at_ (DRP_DLY_IDX_PIN.inst (page - 0x40))
    named (pin + 64 * fld s (DRP_CTL_SET_EDIT.inst (page - 0x40))) (pin < 60)
  else
  if page = 0x0B ∧ off = 0x808 then named (at_ MEAS_OCV_IDX_INDEX) (at_ MEAS_OCV_IDX_INDEX < 11) else
  if page = 0x0B ∧ off = 0x818 then named (at_ MEAS_TS_IDX_INDEX) (at_ MEAS_TS_IDX_INDEX < 5) else
  if page = 0x90 ∧ off = 0x150 then named (at_ RNG_TX_IDX_INDEX) true else
  if page = 0x93 ∧ off = 0x808 then named (at_ CEN_WIN_IDX_INDEX) true else
  if page = 0x04 ∧ 0x808 ≤ off then named (at_ FLT_ESC_IDX_SOURCE) (listedSource (at_ FLT_ESC_IDX_SOURCE)) else
  some (0, 0)

/-- The words of the entry that index i names, by offset (R309, R328, R350, R164). -/
def entryWords (s : State) (page i : Nat) : List (Nat × Nat) :=
  if page = 0x90 then
    match s.ring.registry[i]? with
    | some e => [(0x808, e.vaultId.toNat), (0x810, e.partnerId.toNat), (0x818, e.g.toNat),
        (0x820, e.t.toNat * 2 ^ 32 + e.hop.toNat * 2 ^ 16 + e.flags.toNat * 2 ^ 8 + e.state.toNat % 16 * 2 ^ 4 + 1)]
    | none => [(0x808, 0), (0x810, 0), (0x818, 0), (0x820, 0)]
  else if page = 0x05 then
    match s.flt.log.find? (fun e => e.1 = i) with
    | some (_, e) => [(0x808, e.podTime.toNat),
        (0x810, e.action * 2 ^ 21 + b2n e.handled * 2 ^ 20 + b2n e.raised * 2 ^ 19 + b2n e.forced * 2 ^ 18 + e.cls * 2 ^ 15 + e.source)]
    | none => [(0x808, 0), (0x810, 0)]
  else if 0x60 ≤ page ∧ page ≤ 0x7F then
    match (s.img.remap.filter (fun e => e.1 = page - 0x60))[i]? with
    | some e => [(0x808, 2 ^ 63 + e.2.1 * 2 ^ 32 + e.2.2.1 * 2 ^ 16 + e.2.2.2)]
    | none => [(0x808, 0)]
  else []

/-- The entry is copied for the requester (log 34, DESIGN CHOICE). -/
def snapEntry (s : State) (q : Requester) (page i : Nat) : State :=
  (entryWords s page i).foldl (fun x e =>
    { x with snaps := sset (0 : Word) x.snaps (rkey 0 (reqBank q) page e.1) (BitVec.ofNat 64 e.2) }) s

/-- A write to an index register (R219, R267, R378). IMG_RLOG_IDX with APPLY also applies the entry (R215). -/
def indexOp (s : State) (q : Requester) (page off : Nat) (v : Word) : Res :=
  if page = 0x81 then .next (csIndexOp s q v)
  else if page = 0x30 then
    let s1 := rlogLoad s q (bitsOf v.toNat 13 0)
    if bitAt v.toNat 16 then applyOp s1 (bitsOf v.toNat 13 0) else .next s1
  else
    let s1 := writeRw s page off 0 (reqBank q) v
    .next (if off = 0x800 then snapEntry s1 q page (getReg s1 (rkey 0 (reqBank q) page off)).toNat else s1)

/-! Reads. -/

/-- The register k of FLT_SUMMARY: pages with an unmasked sticky bit (R336, R350). -/
def summary (s : State) (k : Nat) : Nat :=
  (List.range 64).foldl (fun a b =>
    let p := 64 * k + b
    if mappedPage p && (List.range (sourceClasses p).length).any (fun i => flag s (FLT_STICKY_SRC p i) && !isMasked s (srcNo p i))
    then a + 2 ^ b else a) 0

/-- MEAS_STAT.CLASS (R223). -/
def measClass (s : State) : Nat :=
  match s.vault with
  | .off | .ship => 0
  | .ride | .dump => 2
  | .alley => 3
  | _ => 1

/-- The fields that show state kept elsewhere, over the register's stored bits w. -/
def liveWord (s : State) (q : Requester) (page off idx w : Nat) : Nat :=
  let put := fun (x : Nat) (f : Fld) (v : Nat) => withBits x f.hi f.lo v
  if off = 0x018 then withBits (withBits w 4 4 (b2n (locked s page))) 1 1
    (b2n (flag s (PAGE_CTL_QUIESCE page) && !blockBusy s page)) else
  if page = 0x00 ∧ off = 0x118 then
    match irqPages s with
    | p :: _ => put (put w MGT_IRQ_SRC_VALID 1) MGT_IRQ_SRC_PAGE p
    | [] => w
  else
  if page = 0x03 ∧ off = 0x108 then
    put (put w FLT_STAT_GRACE_RUN (min 255 s.flt.grace.length)) FLT_STAT_RAISED_ANY
      (b2n (s.regs.any (fun e => decide (keyPage e.1 = 0x04) && decide (keyOff e.1 = 0x810) && bitAt e.2.toNat 7)))
  else
  if page = 0x03 ∧ 0x110 ≤ off ∧ off ≤ 0x128 then summary s ((off - 0x110) / 8) else
  if page = 0x04 ∧ off = 0x810 then put w FLT_ESC_B_EFF_CLASS (effClass s idx) else
  if page = 0x08 ∧ off = 0x108 then put w PWR_STAT_STATE (stateCode s.vault) else
  if page = 0x08 ∧ off = 0x130 then put w PWR_PROOF_DIRTY (dirtyUnits s) else
  if page = 0x0B ∧ off = 0x108 then put w MEAS_STAT_CLASS (measClass s) else
  if page = 0x12 ∧ off = 0x810 then
    put w ADM_PORT_STAT_FENCE_ACTIVE (b2n (s.adm.flights.any (fun f => decide (f.hdr.port.toNat = idx) && decide (f.opc = opFENCE)))) else
  if page = 0x12 ∧ off = 0x830 then put w ADM_POOL_STAT_INFLIGHT (poolInflight s idx) else
  if 0x18 ≤ page ∧ page ≤ 0x1F ∧ off = 0x810 then put w BLV_PORT_STAT_INFLIGHT (portInflight s (128 * (page - 0x18) + idx)) else
  if 0x21 ≤ page ∧ page ≤ 0x23 ∧ off = 0x110 then (getReg s (rkey 0 0 0x20 0x110)).toNat else
  if page = 0x28 ∧ off = 0x148 then s.dram.diverged.count (installedUnits s) else
  if page = 0x30 ∧ off = 0x130 then dirtyUnits s else
  if page = 0x30 ∧ off = 0x190 then put w IMG_RST_STAT_LEFT (installedUnits s - s.dram.restored.count (installedUnits s)) else
  if page = 0x30 ∧ off = 0x1A8 then
    let r := match s.pwr.log[indexOf s q IMG_RLOG_IDX_INDEX]? with
      | some e => e.result.toNat
      | none => 0
    put (put (put w IMG_RLOG_IDX_COUNT s.pwr.log.length) IMG_RLOG_IDX_RESULT r) IMG_RLOG_IDX_BUSY (fld s IMG_RLOG_IDX_BUSY)
  else
  if 0x38 ≤ page ∧ page ≤ 0x3B ∧ off = 0x108 then put w ARC_STAT_PLL_LOCK (fld s CLK_STAT_ARCADE / 2 ^ (page - 0x38)) else
  if page = 0x80 ∧ 0x120 ≤ off ∧ off ≤ 0x138 then
    let x := getCtx s (Fin.ofNat 4 ((off - 0x120) / 8))
    put (put (put w SEQ_CTX_ROUTINE x.routine.toNat) SEQ_CTX_STATE x.run.toNat) SEQ_CTX_PC x.pc.toNat
  else
  if page = 0x80 ∧ 0x140 ≤ off ∧ off ≤ 0x158 then
    let x := getCtx s (Fin.ofNat 4 ((off - 0x140) / 8))
    put (put w SEQ_IP_BLOCKS x.blocks) SEQ_IP_DESC x.desc
  else
  if page = 0x80 ∧ off = 0x160 then put w SEQ_CUST_PRESENT (b2n (!custEmpty s (activeBank s))) else
  if page = 0x88 ∧ off = 0x130 then put w NVC_WAIT_WS_MIN (wsMin s) else
  if page = 0x88 ∧ off = 0x128 then put w NVC_STAT_LEVEL s.mgt.level.toNat else
  if page = 0x94 ∧ off = 0x100 then podNs s else w

/-- The value a read of the requester returns on a reachable page, before it clears anything: zero where nothing is assigned,
where the block's clock is stopped, and where the index names no entry (R5, R370, R375, R378). -/
def readValue (s : State) (q : Requester) (page off : Nat) : Word :=
  if (findRow page off).isNone || (decide (0x100 ≤ off) && !pageRuns s page) then 0
  else if snapped page off then sget 0 s.snaps (rkey 0 (reqBank q) page off)
  else match place s q page off with
    | none => 0
    | some (i, b) => BitVec.ofNat 64 (liveWord s q page off i (getReg s (rkey i b page off)).toNat)

/-- The read-clear fields of a row, cleared. -/
def rcCleared (page off : Nat) (w : Word) : Word :=
  match findRow page off with
  | none => w
  | some r => BitVec.ofNat 64 (r.fields.foldl (fun a f => if f.acc = .rc then withBits a f.hi f.lo 0 else a) w.toNat)

/-- What a read changes: RC fields clear, but not in SEALED; a log entry counts as read (R6, R350, R371). -/
def readEffect (s : State) (q : Requester) (page off : Nat) : State :=
  if s.vault = .sealed ∨ (findRow page off).isNone ∨ (0x100 ≤ off ∧ !pageRuns s page) then s
  else if page = 0x05 ∧ (off = 0x808 ∨ off = 0x810) then
    { s with flt := { s.flt with unread := ldel (indexOf s q FLT_LOG_IDX_INDEX) s.flt.unread } }
  else match place s q page off with
    | none => s
    | some (i, b) => setReg s (rkey i b page off) (rcCleared page off (getReg s (rkey i b page off)))

/-- A whole read: all ones from a page the requester cannot reach (R370). -/
def busRead (s : State) (q : Requester) (page off : Nat) : Word × State :=
  if reachable s q page then (readValue s q page off, readEffect s q page off) else (allOnes, s)

/-! Writes. -/

/-- The stored bits of a register after a write: RW, and RWL while the page is unlocked, take the value; W1C bits written as one
clear (R6). -/
def mergeAcc (s : State) (page off v : Nat) (old : Word) : Word :=
  match findRow page off with
  | none => old
  | some r => BitVec.ofNat 64 (r.fields.foldl (fun a f =>
      if f.acc = .rw ∨ (f.acc = .rwl ∧ !locked s page) then withBits a f.hi f.lo (bitsOf v f.hi f.lo)
      else if f.acc = .w1c then
        withBits a f.hi f.lo (bitsOf old.toNat f.hi f.lo &&& (2 ^ (f.hi + 1 - f.lo) - 1 - bitsOf v f.hi f.lo))
      else a) old.toNat)

/-- The write of a register by its access codes alone. -/
def accWrite (s : State) (q : Requester) (page off : Nat) (v : Word) : State :=
  match place s q page off with
  | none => s
  | some (i, b) => setReg s (rkey i b page off) (mergeAcc s page off v.toNat (getReg s (rkey i b page off)))

/-- Do g where bit b of v is one. -/
def onBit (v : Word) (b : Nat) (g : State → State) (s : State) : State := if bitAt v.toNat b then g s else s

/-- EVENT bits of a page that R377 assigns. -/
def irqEvents (page : Nat) : Nat :=
  if page = 0x80 ∨ page = 0x90 then 2 else
  if [0x00, 0x08, 0x30, 0x88, 0x93].contains page then 1 else 0

/-- A write to a header register other than PAGE_CTL and PAGE_LOCK: bits above the page's sources and reserved events are
ignored (R373, R377). -/
def headerWrite (s : State) (q : Requester) (page off : Nat) (v : Word) : State :=
  if off = 0x020 then clearSticky s page v.toNat else
  if off = 0x028 then forceSources s page v.toNat else
  if off = 0x030 then accWrite s q page off (BitVec.ofNat 64 (v.toNat % 2 ^ (sourceClasses page).length)) else
  if off = 0x038 then writeClass s page v.toNat else
  if off = 0x040 then
    accWrite s q page off (BitVec.ofNat 64 (v.toNat % 2 ^ irqEvents page + v.toNat / 2 ^ 63 * 2 ^ 63))
  else accWrite s q page off v

/-- MGT (R273, R277, R278, R292). -/
def mgtWrite (s : State) (q : Requester) (off : Nat) (v : Word) : State :=
  let s1 := accWrite s q 0x00 off v
  if off = 0x100 then onBit v 1 (fun x => coreRestart x 1) (onBit v 0 bootOkOp s1)
  else if off = 0x140 then onBit v 0 tableLoadOp s1
  else s1

/-- FLT 0x03 and 0x07 (R349, R351). -/
def fltWrite (s : State) (q : Requester) (page off : Nat) (v : Word) : State :=
  if page = 0x07 ∧ off = 0x100 then injTimeOp s v
  else if page = 0x07 ∧ off = 0x108 then injCtlOp s v
  else
    let s1 := accWrite s q page off v
    if page = 0x03 ∧ off = 0x100 then onBit v 1 (fun x => raise x srcSealReq) (onBit v 0 (fun x => raise x srcFenceReq) s1)
    else s1

/-- PWR (R138, R141, R147, R158). -/
def pwrWrite (s : State) (q : Requester) (off : Nat) (v : Word) : State :=
  if off = 0x110 then pwrSenseOp s v else
    let s1 := accWrite s q 0x08 off v
    if off = 0x100 then onBit v 3 requestCheckpoint (onBit v 2 abortOp (settlePins s1)) else s1

/-- PAK A and B (R227, R229, R231, R233, R240). -/
def pakWrite (s : State) (q : Requester) (p : PackId) (off : Nat) (v : Word) : State :=
  let s1 := accWrite s q (pakPage p) off v
  if off = 0x100 then
    recount (onBit v 4 (fun x => authStart x p) (onBit v 2 (fun x => learnStart x p) (onBit v 3 (fun x => abandonLearn x p 6) s1)))
  else s1

/-- MEAS_CFG as R228 admits it: P_PACK, ALLEY_RES and V_MIN at or above their reset values, EFF at or below. -/
def measCfgOk (w : Nat) : Bool :=
  decide (11000 ≤ bitsOf w 63 48) && decide (164 ≤ bitsOf w 47 32) && decide (bitsOf w 31 24 ≤ 92) && decide (37566 ≤ bitsOf w 23 0)

/-- MEAS (R228, R238, R241). -/
def measWrite (s : State) (q : Requester) (off : Nat) (v : Word) : State :=
  let s1 := accWrite s q 0x0B off v
  if off = 0x100 then onBit v 1 shipOp s1
  else if off = 0x110 ∧ !measCfgOk (getReg s1 (rkey 0 0 0x0B 0x110)).toNat then raise s (srcMeas 2)
  else s1

/-- ADM (R58, R72, R79, R80). -/
def admWrite (s : State) (q : Requester) (off : Nat) (v : Word) : State :=
  if off = 0x808 then boundOp s (indexOf s q ADM_PORT_IDX_INDEX) v else
  if off = 0x820 then poolCfgOp s (indexOf s q ADM_POOL_IDX_INDEX) v else
  if off = 0x828 then poolBurstOp s (indexOf s q ADM_POOL_IDX_INDEX) v else accWrite s q 0x12 off v
/-- ZON. With COMMIT and READ both at one the spec gives no order: the commit comes first (log 57, DESIGN CHOICE). -/
def zonWrite (s : State) (q : Requester) (off : Nat) (v : Word) : State :=
  if off = 0x828 then onBit v 1 (fun x => winReadOp x q) (onBit v 0 (fun x => winCommitOp x q) s) else accWrite s q 0x11 off v

/-- ENABLE of link l at zero disables it (R56, R136; log 54, DEDUCED). -/
def linkFollows (s : State) (l : Nat) : State :=
  if flag s (linkEnable l) then s
  else if l < 8 then setFld (setFld (setLink s l (getLink s l).cleared) (linkState l) 0) (linkWidth l) 0
  else setFld (psgTaken s 0) PSG_STAT_WIDTH 0

/-- BLV l (R21, R31, R56, R57). -/
def blvWrite (s : State) (q : Requester) (l off : Nat) (v : Word) : State :=
  if off = 0x808 then portCfgOp s (128 * l + indexOf s q (BLV_PORT_IDX_INDEX.inst l)) v else
    let s1 := accWrite s q (0x18 + l) off v
    if off = 0x100 then onBit v 1 (fun x => linkTrainOp x l) (linkFollows s1 l) else s1

/-- DRC_CTL (R89, R101): ENABLE from zero to one sets the refresh origin, at zero no refresh falls due. -/
def drcCtlOp (s : State) (q : Requester) (quad : Nat) (v : Word) : State :=
  let was := flag s (DRC_CTL_ENABLE.inst quad)
  let s1 := accWrite s q (0x20 + quad) 0x100 v
  let on := flag s1 (DRC_CTL_ENABLE.inst quad)
  let s2 := if on && !was then setOrigin s1 quad
    else if on then s1
    else { s1 with dram := { s1.dram with refDue := (List.range 8).foldl (fun m n => nset m (8 * quad + n) 0) s1.dram.refDue } }
  onBit v 2 (fun x => stepReqOp x quad) s2

/-- DRC quad (R86, R105, R107, R109). -/
def drcWrite (s : State) (q : Requester) (quad off : Nat) (v : Word) : State :=
  if off = 0x100 then drcCtlOp s q quad v
  else if off = 0x110 then (if quad = 0 then mapOp s v else s)
  else if 0x180 ≤ off ∧ off ≤ 0x1B8 then
    let sub := 8 * quad + (off - 0x180) / 8
    if bitAt v.toNat 0 then offlineOp s sub (bitsOf v.toNat 63 48) else onlineOp s sub (bitsOf v.toNat 63 48)
  else accWrite s q (0x20 + quad) off v

/-- DRP sub (R99, R100, R110, R111). -/
def drpWrite (s : State) (q : Requester) (sub off : Nat) (v : Word) : State :=
  if off = 0x808 then dlyOp s sub (indexOf s q (DRP_DLY_IDX_PIN.inst sub)) v else
    let s1 := accWrite s q (0x40 + sub) off v
    if off = 0x100 then
      let s2 := if flag s1 (DRP_CTL_ENABLE.inst sub) then s1 else setFlag s1 (DRP_STAT_LOCKED.inst sub) false
      markOp (onBit v 1 (fun x => devResetOp x sub) s2) sub (bitsOf v.toNat 4 3)
    else if off = 0x110 then onBit v 8 (fun x => trainGo x sub (bitsOf v.toNat 3 0)) s1
    else s1

/-- PSG (R121, R124, R133, R136). -/
def psgWrite (s : State) (q : Requester) (off : Nat) (v : Word) : State :=
  let s1 := accWrite s q 0x28 off v
  if off = 0x100 then onBit v 7 fwdEndOp (onBit v 1 (fun x => linkTrainOp x 8) (linkFollows s1 8))
  else if off = 0x130 then onBit v 25 ownGo (onBit v 26 takeover s1)
  else s1

/-- IMG_CTL (R185, R191, R196). -/
def imgCtlOp (s : State) (v : Word) : State :=
  let s1 := setFlag s IMG_CTL_GC_EN (bitAt v.toNat 4)
  let s2 := if locked s1 0x30 then s1 else setFlag s1 IMG_CTL_INTENT (bitAt v.toNat 6)
  let s3 := if bitAt v.toNat 0 then imageEnable s2 else setFlag s2 IMG_CTL_ENABLE false
  onBit v 5 reshapeOp (onBit v 7 formatOp s3)

/-- IMG (R196, R215, R216, R219); IMG_RLOG_IDX is an index register. -/
def imgWrite (s : State) (q : Requester) (off : Nat) (v : Word) : State :=
  if off = 0x100 then imgCtlOp s v else
    let s1 := accWrite s q 0x30 off v
    if off = 0x180 then
      onBit v 11 reconAbandonOp (onBit v 10 (fun x => setFlag x IMG_RST_STAT_RECON false) s1)
    else s1

/-- JCT (R197): how a self-test ends is a free value (log 4, DESIGN CHOICE). -/
def jctWrite (s : State) (q : Requester) (off : Nat) (v : Word) : State :=
  if off = 0x100 then
    let s1 := if !bitAt v.toNat 0 then setFlag s JCT_CTL_ENABLE false
      else if flag s JCT_CTL_ENABLE then s else junctionEnable s
    onBit v 1 (fun x => let p := drawNat x; selftestOp p.2 (decide (p.1 % 2 = 0))) s1
  else accWrite s q 0x31 off v

/-- ARC (R7, R163, R195, R198): ARC_RATE in BOOT only; on a locked page the write is dropped without error; a rate other than the
five of R163 leaves the field unchanged (log 42, DESIGN CHOICE). -/
def arcWrite (s : State) (q : Requester) (page off : Nat) (v : Word) : State :=
  if off = 0x110 ∧ !locked s page then
    if s.vault ≠ .boot then raise s (srcNo page 1)
    else if [800, 1200, 1600, 2000, 2400].contains (v.toNat % 4096) then accWrite s q page off v
    else s
  else accWrite s q page off v

/-- FCH c (R168, R199, R347): how a training ends is a free value (log 4, DESIGN CHOICE). -/
def fchWrite (s : State) (q : Requester) (c off : Nat) (v : Word) : State :=
  if off = 0x100 then
    let was := flag s (FCH_CTL_ENABLE.inst c)
    let train := fun (x : State) => let p := drawNat x; channelTrained p.2 c (decide (p.1 % 2 = 0))
    let s1 := if !bitAt v.toNat 0 then (if was then channelDisable s c else s)
      else if was then onBit v 2 train s else train (channelEnable s c)
    onBit v 3 (fun x => failChannel x c 4) s1
  else accWrite s q (0x60 + c) off v

/-- SEQ (R244, R251, R258, R259, R264, R266). -/
def seqWrite (s : State) (q : Requester) (off : Nat) (v : Word) : State :=
  let s1 := accWrite s q 0x80 off v
  if off = 0x100 then onBit v 8 checkOp (onBit v 7 switchOp s1)
  else if 0x120 ≤ off ∧ off ≤ 0x138 then
    let c : Fin 4 := Fin.ofNat 4 ((off - 0x120) / 8)
    onBit v 17 (fun x => if seqOn x then vectored x c evDoorbell else x) (onBit v 16 (fun x => stopOp x c) s1)
  else if off = 0x160 then onBit v 8 custStartOp s1
  else s1

/-- NVC (R280 to R290). -/
def nvcWrite (s : State) (q : Requester) (off : Nat) (v : Word) : State :=
  if off = 0x100 then onBit v 0 (fun x => lockOp x q) s
  else if off = 0x108 then keyOp s q (v.setWidth 32)
  else if off = 0x118 then nvcDataOp s q v
  else if (off = 0x110 ∨ off = 0x120) ∧ nvcBarred s q then raise s (srcNvc 9)
  else
    let s1 := accWrite s q 0x88 off v
    if off = 0x120 then
      onBit v 10 (fun x => resumeOp x q) (onBit v 9 (fun x => suspendOp x q) (onBit v 8 (fun x => nvcGo x q (bitsOf v.toNat 3 0)) s1))
    else s1

/-- RNG_CTL (R297, R302, R305): an enable draws a new incarnation (log 4, DESIGN CHOICE). -/
def rngCtlOp (s : State) (q : Requester) (v : Word) : State :=
  let s1 := accWrite s q 0x90 0x100 v
  let s2 := if flag s1 RNG_CTL_ENABLE && !flag s RNG_CTL_ENABLE then
      let p := drawNat s1
      { p.2 with ring := { p.2.ring with incarn := BitVec.ofNat 16 p.1 } }
    else s1
  onBit v 1 (fun x => sendDiscover { x with ring := { x.ring with wait := 15 } }) s2

/-- RNG, RNE, RNW, CEN, TIME (R301, R306, R312, R315, R322, R328 to R331, R348). -/
def ringWrite (s : State) (q : Requester) (page off : Nat) (v : Word) : State :=
  if page = 0x90 ∧ off = 0x100 then rngCtlOp s q v
  else if page = 0x90 ∧ off = 0x150 then
    let d := indexOf s q RNG_TX_IDX_INDEX
    onBit v 1 (fun x => txCancelOp x d) (txGo s d v)
  else if page = 0x91 ∧ off = 0x100 then portCtl s .east page v
  else if page = 0x92 ∧ off = 0x100 then portCtl s .west page v
  else if page = 0x93 ∧ off = 0x100 then
    onBit v 1 (fun x => if fld x CEN_STAT_STATE = 4 then setFld x CEN_STAT_STATE 0 else x) (onBit v 0 armOp s)
  else if page = 0x94 ∧ off = 0x108 then
    (if flag s RNG_STAT_MASTER && !censusBusy s then setPod s v.toNat else s)
  else accWrite s q page off v

/-- A write to a register from 0x100 up that is no index register. -/
def blockWrite (s : State) (q : Requester) (page off : Nat) (v : Word) : State :=
  if page = 0x00 then mgtWrite s q off v else
  if page = 0x02 ∧ off = 0x100 then onBit v 2 bootDoneOp (onBit v 1 requestReset s) else
  if page = 0x03 ∨ page = 0x07 then fltWrite s q page off v else
  if page = 0x08 then pwrWrite s q off v else
  if page = 0x09 then pakWrite s q .a off v else
  if page = 0x0A then pakWrite s q .b off v else
  if page = 0x0B then measWrite s q off v else
  if page = 0x11 then zonWrite s q off v else
  if page = 0x12 then admWrite s q off v else
  if 0x18 ≤ page ∧ page ≤ 0x1F then blvWrite s q (page - 0x18) off v else
  if 0x20 ≤ page ∧ page ≤ 0x23 then drcWrite s q (page - 0x20) off v else
  if page = 0x28 then psgWrite s q off v else
  if page = 0x30 then imgWrite s q off v else
  if page = 0x31 then jctWrite s q off v else
  if 0x38 ≤ page ∧ page ≤ 0x3B then arcWrite s q page off v else
  if 0x40 ≤ page ∧ page ≤ 0x5F then drpWrite s q (page - 0x40) off v else
  if 0x60 ≤ page ∧ page ≤ 0x7F then fchWrite s q (page - 0x60) off v else
  if page = 0x80 then seqWrite s q off v else
  if page = 0x81 ∧ off = 0x810 then csWordOp s q v else
  if page = 0x88 then nvcWrite s q off v else
  if 0x90 ≤ page then ringWrite s q page off v else accWrite s q page off v

/-- The rights of a write from the ring (R380). -/
def ringMayWrite (s : State) (page off : Nat) (v : Word) : Bool :=
  let onlyIndex := indexRegister page off && (decide (page ≠ 0x30) || !bitAt v.toNat 16)
  decide (off ≠ 0x050) && (decide (off ≠ 0x010) || decide (bitsOf v.toNat 5 4 = fld s (PAGE_CTL_REMOTE page))) &&
    (ringWrites s page || (onlyIndex && ringReads s page)) && decide (s.vault ≠ .sealed)

/-- A write to a page the requester reaches, with the rights for it. -/
def pageWrite (s : State) (q : Requester) (page off : Nat) (v : Word) : Res :=
  if off = 0x010 then .next (pageCtlOp s page v)
  else if off = 0x050 then .next (pageLockOp s page v)
  else if off < 0x100 then .next (headerWrite s q page off v)
  else if (findRow page off).isNone || !pageRuns s page then .next s
  else if indexRegister page off then indexOp s q page off v
  else .next (blockWrite s q page off v)

/-- A whole write of a requester (R370, R371, R380): discarded where it cannot reach the page, in SEALED, or without rights. -/
def busWrite (s : State) (q : Requester) (page off : Nat) (v : Word) : Res :=
  if reachable s q page && decide (s.vault ≠ .sealed) && (decide (q ≠ .ring) || ringMayWrite s page off v) then
    andThen (pageWrite s q page off v) (fun t => .next (noteReserve t))
  else .next s

end Sys2Proof.Machine
end

