-- ==== Sys2Proof/Machine/Flits.lean ====
section
/-! DEFINITION. Flits as they arrive on a Boulevard link or the Passage (R23 to R28, R34, R112): the check, acknowledgement and
replay, receive credit, and the messages their slots make up. -/
namespace Sys2Proof.Machine

/-- FLIT_CRC over bytes 0 to 263 (R23). -/
def flitCrc (f : Flit) : Nat := flitCrcOf f.slotMap f.linkHdr f.slots

/-- The flit is good: FEC decoded it, it has its sixteen slots, and FLIT_CRC holds (R25). -/
def flitGood (f : Flit) : Bool := f.fecOk && decide (f.slots.length = 16) && decide (flitCrc f = f.crc.toNat)

/-- The link layer of link l runs: the data path is up and the link is. -/
def flitLayer (s : State) (l : Nat) : Bool := dataUp s && decide (fld s (linkState l) = 2)

/-- A flit of idle slots that carries a NAK: ACK names the last good flit. Before the first good flit after training the spec
gives ACK no value: a free value, with ACK_VALID at zero (log 4, DESIGN CHOICE). -/
def sendNak (s : State) (l : Nat) : State :=
  match (getLink s l).rxSeq with
  | some a => sendFlit s l [] none (some a)
  | none => let p := drawNat s; sendFlit p.2 l [] none (some (BitVec.ofNat 12 p.1))

/-- A flit that fails (R25, R26): NAK, or, at the third failure of the same flit, the link goes down. The flit is known by its
FSEQ as it was received (log 32, DEDUCED). -/
def flitFailed (s : State) (l : Nat) (f : Flit) : State :=
  let s1 := if l < 8 ∧ f.fecOk = false then bump s (BLV_FEC_UNCORR_COUNT.inst l) else s
  let x := getLink s1 l
  let seq := bitsOf f.linkHdr.toNat 11 0
  let n := nget x.rxBad seq + 1
  let s2 := setLink s1 l { x with rxBad := nset x.rxBad seq n }
  if 3 ≤ n then linkDown s2 l else sendNak s2 l

/-- The fields of a request header slot (R32). -/
def reqHdrOf (d : Slot128) : ReqHdr :=
  { crc := d.extractLsb' 112 16, rsvd := d.extractLsb' 96 16, sub := d.extractLsb' 92 4, epoch := d.extractLsb' 90 2,
    hint := d.extractLsb' 89 1, count := d.extractLsb' 83 6, addr := d.extractLsb' 47 36, tenant := d.extractLsb' 31 16,
    tag := d.extractLsb' 15 16, port := d.extractLsb' 5 10 }

/-- The fields of a Passage header slot (R113). -/
def psgHdrOf (d : Slot128) : PsgHdr :=
  { crc := d.extractLsb' 112 16, rsvdHi := d.extractLsb' 96 16, mseq := d.extractLsb' 64 32, arg := d.extractLsb' 60 4,
    line := d.extractLsb' 28 32, count := d.extractLsb' 22 6, win := d.extractLsb' 10 12, rsvdLo := d.extractLsb' 4 6 }

/-- The opcodes of R36. -/
def knownOpc (opc : Nat) : Bool :=
  [opRD, opWR, opWRD, opADD64, opADDPAIR, opCAS64, opCAS128, opEXM, opEXI, opEXD, opFENCE].contains opc

/-- The CRC of a header slot holds (R33). -/
def slotCrcOk (d : Slot128) : Bool := decide (headerCrc (d.toNat % 2 ^ 112) = d.toNat / 2 ^ 112)

/-- Data slots of a Passage message (R114). -/
def psgSlots (typ : Nat) (h : PsgHdr) : Nat :=
  let n := lineCount h.count
  if typ = 1 ∨ typ = 3 ∨ typ = 0xA then 4 * n else
  if typ = 0xC then (if h.arg.toNat = 0 then 4 * n else 0) else
  if typ = 8 ∨ typ = 0xE ∨ typ = 0xF then 1 else 0

/-- A whole Passage message (R114); type 0 is discarded with MSG_ERR. -/
def psgMessage (typ : Nat) (h : PsgHdr) (data : List Slot128) (s : State) : Res :=
  match typ with
  | 0x1 => execMirror h data s
  | 0x2 => execMirrorAck h s
  | 0x3 => execStream h data s
  | 0x4 => execStreamEnd h s
  | 0x5 => execOwnReq h s
  | 0x6 => execOwnGrant h s
  | 0x7 => execOwnDone h s
  | 0x8 => execDigest h data s
  | 0x9 => execDigestResult h s
  | 0xA => execRepair h data s
  | 0xB => execFetch h s
  | 0xC => execFetchData h data s
  | 0xD => execNotice h s
  | 0xE => execGen h data s
  | 0xF => execOwnsum h data s
  | _ => .next (if psgDelivers s then raise s srcMsgErr else s)

/-- A Passage message has been taken in, or waits in the receive buffer with its n slots (R112). -/
def psgTakenIn (before : Nat) (n : Nat) (s : State) : State :=
  if before < s.psg.held.length then
    { s with psg := { s.psg with held := s.psg.held.dropLast ++
        (s.psg.held.drop (s.psg.held.length - 1)).map (fun m => { m with slots := n }) } }
  else returnCredit (freeRx s 8 n) 8

/-- A message is whole: its slots leave the receive buffer, and it is carried out (R24, R45, R114). -/
def wholeMessage (s : State) (l : Nat) (d : Slot128) (data : List Slot128) : Res :=
  let x := getLink s l
  let s1 := setLink s l { x with hdr := none, need := 0, data := [] }
  if l < 8 then
    let opc := d.toNat % 32
    let s2 := freeRx s1 l (1 + data.length)
    .next (returnCredit
      (if knownOpc opc then requestOp l opc (reqHdrOf d) data s2 else badOpcode l opc (reqHdrOf d) s2) l)
  else
    andThen (psgMessage (d.toNat % 16) (psgHdrOf d) data s1)
      (fun t => .next (psgTakenIn s1.psg.held.length (1 + data.length) t))

/-- How many data slots a header slot announces; a header whose CRC fails or whose opcode is unknown announces none (R24, R34,
R36). -/
def announced (l : Nat) (d : Slot128) : Nat :=
  if !slotCrcOk d then 0
  else if l < 8 then
    if knownOpc (d.toNat % 32) then reqSlots (d.toNat % 32) (lineCount (reqHdrOf d).count) else 0
  else psgSlots (d.toNat % 16) (psgHdrOf d)

/-- A header slot before the previous message is whole (R24): a request is answered with LEN_ERR and TRUNC; a Passage message
is dropped (log 24, DESIGN CHOICE). -/
def truncateMessage (s : State) (l : Nat) : Res :=
  let x := getLink s l
  match x.hdr with
  | none => .next s
  | some d =>
    if l < 8 then wholeMessage s l d x.data
    else .next (freeRx (setLink s l { x with hdr := none, need := 0, data := [] }) l (1 + x.data.length))

/-- A header slot. -/
def headerSlot (s : State) (l : Nat) (d : Slot128) : Res :=
  andThen (truncateMessage s l) (fun s1 =>
    let n := announced l d
    if n = 0 then wholeMessage s1 l d []
    else .next (setLink s1 l { getLink s1 l with hdr := some d, need := n, data := [] }))

/-- A data slot: the message grows; one that belongs to none is discarded with ORPHAN (R24). The Passage has no such source. -/
def dataSlot (s : State) (l : Nat) (d : Slot128) : Res :=
  let x := getLink s l
  match x.hdr with
  | none =>
    let s1 := returnCredit (freeRx s l 1) l
    .next (if l < 8 then raise s1 (srcBlv l 7) else s1)
  | some h =>
    let data := x.data ++ [d]
    if x.need ≤ data.length then wholeMessage s l h data
    else .next (setLink s l { x with data := data })

/-- A control slot (R28, R112). -/
def controlSlot (s : State) (l : Nat) (d : Slot128) : State :=
  let s1 := freeRx s l 1
  match d.toNat % 16 with
  | 1 => creditOp s1 l (bitsOf d.toNat 31 16)
  | 2 => if l < 8 then cancelOp s1 l (d.extractLsb' 4 10) (d.extractLsb' 14 16) else raise s1 srcMsgErr
  | 3 => if l < 8 then s1 else raise s1 srcMsgErr
  | _ => s1

/-- A slot without a receive credit is discarded, and the link retrains (R27; log 32, DEDUCED). The Passage has no source for
it. -/
def creditOverflow (s : State) (l : Nat) : State :=
  if l < 8 then raise (startTraining s l false) (srcBlv l 8) else psgTaken s 1

/-- One slot of kind `kind`: it takes a receive credit of its link, unless it is idle; slots freed and not yet returned are no
credit (R27). -/
def slotIn (s : State) (l kind : Nat) (d : Slot128) : Res :=
  if !flitLayer s l || decide (kind = 0) then .next s
  else if rxFree s l ≤ (getLink s l).owed then .next (creditOverflow s l)
  else
    let s1 := setRxFree s l (rxFree s l - 1)
    match kind with
    | 1 => headerSlot s1 l d
    | 2 => dataSlot s1 l d
    | _ => .next (controlSlot s1 l d)

/-- The slots of a flit, in order. -/
def slotsIn (l map : Nat) : List Slot128 → State → Res
  | [], s => .next s
  | d :: rest, s => andThen (slotIn s l (map % 4) d) (slotsIn l (map / 4) rest)

/-- LINK_HDR of a good flit: ACK and NAK act on what this vault has sent (R23, R25). -/
def linkHdrIn (s : State) (l : Nat) (h : BitVec 32) : State :=
  let s1 := if bitAt h.toNat 25 then ackFlits s l (h.extractLsb' 12 12) else s
  if bitAt h.toNat 24 then nakOp s1 l (h.extractLsb' 12 12) else s1

/-- A good flit with slots is acknowledged: by the flits that left while it was taken in, or by one of idle slots (R25; log 56,
DESIGN CHOICE). -/
def ackOut (l map : Nat) (sent : BitVec 12) (s : State) : State :=
  if map = 0 || decide ((getLink s l).txSeq ≠ sent) || !flitLayer s l then s else sendFlit s l [] none none

/-- A flit arrives (R25). A good flit out of sequence is a flit sent again, or one behind a flit that failed: it is not
delivered. The first good flit after training sets the sequence (log 32, DEDUCED). -/
def flitIn (s : State) (l : Nat) (f : Flit) : Res :=
  if !flitLayer s l then .next s else
    let s0 := if l < 8 then bumpBy s (BLV_FEC_CORR_COUNT.inst l) f.fecCorr else s
    if !flitGood f then .next (flitFailed s0 l f) else
      let seq := f.linkHdr.extractLsb' 0 12
      let x := getLink s0 l
      if x.rxSeq.all (fun a => a + 1 = seq) then
        let s1 := linkHdrIn (setLink s0 l { x with rxSeq := some seq, rxBad := [] }) l f.linkHdr
        andThen (slotsIn l f.slotMap.toNat f.slots s1)
          (fun t => .next (ackOut l f.slotMap.toNat (getLink s1 l).txSeq t))
      else .next s0

/-- FLIT_RECEIVE (R25). -/
def execFlitReceive (link : Fin 9) (f : Flit) (s : State) : Res := flitIn s link.val f

end Sys2Proof.Machine
end

