-- ==== Sys2Proof/Machine/BusCmds.lean ====
section
/-! DEFINITION. Accesses to the register pages as commands (R6, R270, R378) and the management frames (R379 to R381). -/
namespace Sys2Proof.Machine

/-- INDEX_WRITE (R378). -/
def execIndexWrite (q : Requester) (pg off : Nat) (v : Word) (s : State) : Res :=
  if indexRegister pg off then busWrite (dropHalf s q) q pg off v else .next s

/-- READ_CLEAR_ACCESS (R6): a whole 64-bit read. From the ring without read rights nothing is read (R380). -/
def execReadClearAccess (q : Requester) (pg off : Nat) (s : State) : Res :=
  .next (if !requesterUp s q || (decide (q = .ring) && !ringReads s pg) then s else
    let p := busRead s q pg off
    emit p.2 (.readData q pg off p.1))

/-- REGISTER_WRITE (R6): an 8-byte write. -/
def execRegisterWrite (q : Requester) (pg off : Nat) (v : Word) (s : State) : Res := busWrite (dropHalf s q) q pg off v

/-! Halves (R270, R369). -/

/-- LOW_HALF_STORE: held for that register. -/
def execLowHalfStore (q : Requester) (addr : Nat) (v : BitVec 32) (s : State) : Res :=
  .next (if requesterUp s q && decide (addr % 8 = 0) then setHalf s q { getHalf s q with held := some (addr, v) } else s)

/-- HIGH_HALF_STORE: both halves at once, or discarded. -/
def execHighHalfStore (q : Requester) (addr : Nat) (v : BitVec 32) (s : State) : Res :=
  if !requesterUp s q || decide (addr % 8 ≠ 4) then .next s else
    match (getHalf s q).held with
    | some (a, lo) =>
      if a + 4 = addr then busWrite (dropHalf s q) q (a / 4096) (a % 4096) (v ++ lo) else .next (dropHalf s q)
    | none => .next s

/-- The address of a register as readData names it. -/
def emitHalf (s : State) (q : Requester) (addr : Nat) (v : BitVec 32) : State :=
  emit s (.readData q (addr / 4096) (addr % 4096) (v.setWidth 64))

/-- A load of the low half returns it and latches the high half; a load of the high half returns the latched half.
Before the first latch the spec gives it no value: a free value (log 4, DESIGN CHOICE; log 34, DESIGN CHOICE). -/
def halfLoad (s : State) (q : Requester) (addr : Nat) : BitVec 32 × State :=
  if addr % 8 = 0 then
    let p := busRead s q (addr / 4096) (addr % 4096)
    (p.1.extractLsb' 0 32, setHalf p.2 q { getHalf p.2 q with latch := some (addr, p.1.extractLsb' 32 32) })
  else if addr % 8 ≠ 4 ∨ !reachable s q (addr / 4096) then (BitVec.allOnes 32, s)
  else match (getHalf s q).latch with
    | some (_, h) => (h, s)
    | none => let p := drawWord s; (p.1.setWidth 32, p.2)

/-- LOW_HALF_LOAD. -/
def execLowHalfLoad (q : Requester) (addr : Nat) (s : State) : Res :=
  .next (if !requesterUp s q then s else
    let p := halfLoad s q addr
    emitHalf p.2 q addr p.1)

/-! Management frames. -/

/-- STATUS of an operation before it acts (R379, R380). -/
def mgmtStatus (s : State) (o : MgmtOp) : Nat :=
  let page := o.addr.toNat / 4096
  let off := o.addr.toNat % 4096
  let read := decide (o.op = 1)
  if o.addr.toNat % 8 ≠ 0 ∨ 2 ^ 20 ≤ o.addr.toNat ∨ (o.op ≠ 1 ∧ o.op ≠ 2) ∨ !mappedPage page then 2
  else if !reachable s .ring page then 3
  else if (read && !ringReads s page) || (!read && !ringMayWrite s page off o.data) then 1 else 0

/-- The answer to an operation that is not carried out: all ones for a read that reaches no page (R370), zero for a write; what
else a read carries the spec does not say: a free value (log 4, DESIGN CHOICE). -/
def mgmtRefused (s : State) (o : MgmtOp) (st : Nat) : MgmtOp × State :=
  if o.op = 2 then (⟨o.addr, BitVec.ofNat 8 st, 0⟩, s)
  else if o.op = 1 ∧ (st = 2 ∨ st = 3) then (⟨o.addr, BitVec.ofNat 8 st, allOnes⟩, s)
  else let p := drawWord s; (⟨o.addr, BitVec.ofNat 8 st, p.1⟩, p.2)

/-- The operations of a group in order; after the first that is not OK the rest reports NOT_DONE (R381). -/
def mgmtRun (k : State → List MgmtOp → Res) : List MgmtOp → Bool → List MgmtOp → State → Res
  | [], _, acc, s => k s acc
  | o :: rest, failed, acc, s =>
    let st := if failed then 4 else mgmtStatus s o
    if st ≠ 0 then
      let p := mgmtRefused s o st
      mgmtRun k rest true (acc ++ [p.1]) p.2
    else if o.op = 1 then
      let p := busRead s .ring (o.addr.toNat / 4096) (o.addr.toNat % 4096)
      mgmtRun k rest false (acc ++ [⟨o.addr, 0, p.1⟩]) p.2
    else
      andThen (busWrite s .ring (o.addr.toNat / 4096) (o.addr.toNat % 4096) o.data)
        (fun x => mgmtRun k rest false (acc ++ [⟨o.addr, 0, 0⟩]) x)

/-- The response is kept, the last of each of 16 origins, and sent (R381). -/
def mgmtAnswer (s : State) (f : FrameHdr) (g : MgmtGroup) : State :=
  let others := s.ring.kept.filter (fun r => r.origin ≠ f.origin)
  let kept := (others ++ [⟨f.origin, f.incarn, g.rtag, g⟩])
  let s1 := { s with ring := { s.ring with kept := kept.drop (kept.length - 16) } }
  ringSend s1 0x41 f.origin (.mgmt g)

/-- A delivered MGMT_REQ: answered from the store, or executed (log 52, DEDUCED). -/
def mgmtReqIn (s : State) (f : FrameHdr) (g : MgmtGroup) : Res :=
  match s.ring.kept.find? (fun r => decide (r.origin = f.origin) && decide (r.incarn = f.incarn) && decide (r.rtag = g.rtag)) with
  | some r => .next (ringSend s 0x41 f.origin (.mgmt r.resp))
  | none =>
    mgmtRun (fun x ops => .next (mgmtAnswer x f ⟨g.rtag, g.count, ops⟩)) (g.ops.take (min 8 g.count.toNat)) false []
      (dropHalf s .ring)

/-- MGMT_REQ (R381): a frame for another vault is forwarded. -/
def execMgmtReq (p : RingPort) (f : FrameHdr) (g : MgmtGroup) (s : State) : Res :=
  match arrives s p f false with
  | (s1, .mine) => if f.dest = 0 then .next (forward s1 p 0x40 f (.mgmt g)) else mgmtReqIn s1 f g
  | (s1, .dup) => .next (forwardAll s1 p 0x40 f (.mgmt g))
  | (s1, .pass) => .next (forward s1 p 0x40 f (.mgmt g))
  | (s1, _) => .next s1

/-- MGMT_RESP (R377, R381): handed to the core, with the RNG event. -/
def execMgmtResp (p : RingPort) (f : FrameHdr) (g : MgmtGroup) (s : State) : Res :=
  .next (frameIn s p 0x41 f (.mgmt g) (fun x => if f.dest = 0 then x else pendEvent (emit x (.mgmtResponse g)) 0x90 1))

end Sys2Proof.Machine
end

