-- ==== Sys2Proof/Machine/Hart.lean ====
section
/-! DEFINITION. The instruction set of the management core: RV32IMAC in machine and user mode (R268). The spec names the RISC-V
instruction set and does not repeat it: encodings and results follow the RISC-V manuals (log 58, PRESUMED). -/
namespace Sys2Proof.Machine

/-- An operation of the integer unit. -/
inductive AluOp
  | add | sub | sll | slt | sltu | xor | srl | sra | or | and
  | mul | mulh | mulhsu | mulhu | div | divu | rem | remu
  deriving DecidableEq, Repr

/-- The condition of a branch. -/
inductive BranchOp
  | eq | ne | lt | ge | ltu | geu
  deriving DecidableEq, Repr

/-- The read-modify-write of an atomic memory operation. -/
inductive AmoOp
  | swap | add | xor | and | or | min | max | minu | maxu
  deriving DecidableEq, Repr

/-- How a CSR instruction changes its register. -/
inductive CsrOp
  | write | set | clear
  deriving DecidableEq, Repr

/-- An instruction of the core. Register numbers are 0 to 31; offsets and immediates are already extended; a load or store names its
bytes, and a load whether it extends the sign. -/
inductive CoreOp
  | lui (rd : Nat) (imm : BitVec 32)
  | auipc (rd : Nat) (imm : BitVec 32)
  | jal (rd : Nat) (off : BitVec 32)
  | jalr (rd rs1 : Nat) (off : BitVec 32)
  | branch (c : BranchOp) (rs1 rs2 : Nat) (off : BitVec 32)
  | load (n : Nat) (signed : Bool) (rd rs1 : Nat) (off : BitVec 32)
  | store (n : Nat) (rs1 rs2 : Nat) (off : BitVec 32)
  | aluImm (o : AluOp) (rd rs1 : Nat) (imm : BitVec 32)
  | alu (o : AluOp) (rd rs1 rs2 : Nat)
  | fence
  | ecall
  | ebreak
  | mret
  | wfi
  /-- `imm`: the source is the number rs1 itself. -/
  | csr (o : CsrOp) (imm : Bool) (rd rs1 num : Nat)
  | lr (rd rs1 : Nat)
  | sc (rd rs1 rs2 : Nat)
  | amo (o : AmoOp) (rd rs1 rs2 : Nat)
  deriving DecidableEq, Repr

/-! Decoding. -/

/-- The low k bits of n, sign-extended. -/
def sext32 (k n : Nat) : BitVec 32 := BitVec.ofInt 32 (toSigned k n)

/-- A number put together from fields, the highest first: each is (value, bits). -/
def joinBits (fs : List (Nat × Nat)) : Nat := fs.foldl (fun a f => a * 2 ^ f.2 + f.1 % 2 ^ f.2) 0

/-- Field [hi:lo] of n with its width. -/
def part (n hi lo : Nat) : Nat × Nat := (bitsOf n hi lo, hi + 1 - lo)

/-- Immediates of the 32-bit formats. -/
def immI (w : Nat) : BitVec 32 := sext32 12 (bitsOf w 31 20)
def immS (w : Nat) : BitVec 32 := sext32 12 (joinBits [part w 31 25, part w 11 7])
def immB (w : Nat) : BitVec 32 := sext32 13 (joinBits [part w 31 31, part w 7 7, part w 30 25, part w 11 8, (0, 1)])
def immU (w : Nat) : BitVec 32 := BitVec.ofNat 32 (bitsOf w 31 12 * 4096)
def immJ (w : Nat) : BitVec 32 := sext32 21 (joinBits [part w 31 31, part w 19 12, part w 20 20, part w 30 21, (0, 1)])

/-- Fields common to the 32-bit formats. -/
def rdOf (w : Nat) : Nat := bitsOf w 11 7
def rs1Of (w : Nat) : Nat := bitsOf w 19 15
def rs2Of (w : Nat) : Nat := bitsOf w 24 20

def branchOf : Nat → Option BranchOp
  | 0 => some .eq | 1 => some .ne | 4 => some .lt | 5 => some .ge | 6 => some .ltu | 7 => some .geu | _ => none

/-- Bytes and sign of a load. -/
def loadOf : Nat → Option (Nat × Bool)
  | 0 => some (1, true) | 1 => some (2, true) | 2 => some (4, true) | 4 => some (1, false) | 5 => some (2, false) | _ => none

def storeOf : Nat → Option Nat
  | 0 => some 1 | 1 => some 2 | 2 => some 4 | _ => none

/-- The operation of funct3 in the base set. -/
def aluBase : Nat → AluOp
  | 0 => .add | 1 => .sll | 2 => .slt | 3 => .sltu | 4 => .xor | 5 => .srl | 6 => .or | _ => .and

/-- The operation of funct3 in the multiply and divide set. -/
def aluMul : Nat → AluOp
  | 0 => .mul | 1 => .mulh | 2 => .mulhsu | 3 => .mulhu | 4 => .div | 5 => .divu | 6 => .rem | _ => .remu

/-- Register with immediate. -/
def decodeImm (w : Nat) : Option CoreOp :=
  let f3 := bitsOf w 14 12
  let sh := BitVec.ofNat 32 (rs2Of w)
  let f7 := bitsOf w 31 25
  if f3 = 1 then (if f7 = 0 then some (.aluImm .sll (rdOf w) (rs1Of w) sh) else none)
  else if f3 = 5 then
    (if f7 = 0 then some (.aluImm .srl (rdOf w) (rs1Of w) sh)
    else if f7 = 0x20 then some (.aluImm .sra (rdOf w) (rs1Of w) sh) else none)
  else some (.aluImm (aluBase f3) (rdOf w) (rs1Of w) (immI w))

/-- Register with register. -/
def decodeReg (w : Nat) : Option CoreOp :=
  let f3 := bitsOf w 14 12
  let f7 := bitsOf w 31 25
  if f7 = 0 then some (.alu (aluBase f3) (rdOf w) (rs1Of w) (rs2Of w))
  else if f7 = 1 then some (.alu (aluMul f3) (rdOf w) (rs1Of w) (rs2Of w))
  else if f7 = 0x20 ∧ f3 = 0 then some (.alu .sub (rdOf w) (rs1Of w) (rs2Of w))
  else if f7 = 0x20 ∧ f3 = 5 then some (.alu .sra (rdOf w) (rs1Of w) (rs2Of w))
  else none

/-- Atomic operations on a word. -/
def decodeAmo (w : Nat) : Option CoreOp :=
  if bitsOf w 14 12 ≠ 2 then none else
    let k := fun (o : AmoOp) => some (CoreOp.amo o (rdOf w) (rs1Of w) (rs2Of w))
    match bitsOf w 31 27 with
    | 0 => k .add | 1 => k .swap
    | 2 => if rs2Of w = 0 then some (.lr (rdOf w) (rs1Of w)) else none
    | 3 => some (.sc (rdOf w) (rs1Of w) (rs2Of w))
    | 4 => k .xor | 8 => k .or | 12 => k .and
    | 16 => k .min | 20 => k .max | 24 => k .minu | 28 => k .maxu
    | _ => none

/-- The system instructions. -/
def decodeSystem (w : Nat) : Option CoreOp :=
  let f3 := bitsOf w 14 12
  let k := fun (o : CsrOp) => some (CoreOp.csr o (decide (4 ≤ f3)) (rdOf w) (rs1Of w) (bitsOf w 31 20))
  if f3 = 0 then
    (if w = 0x00000073 then some .ecall else if w = 0x00100073 then some .ebreak
    else if w = 0x30200073 then some .mret else if w = 0x10500073 then some .wfi else none)
  else match f3 % 4 with
    | 1 => k .write | 2 => k .set | 3 => k .clear | _ => none

/-- A 32-bit instruction; none is illegal. -/
def decode32 (w : Nat) : Option CoreOp :=
  match bitsOf w 6 0 with
  | 0x37 => some (.lui (rdOf w) (immU w))
  | 0x17 => some (.auipc (rdOf w) (immU w))
  | 0x6F => some (.jal (rdOf w) (immJ w))
  | 0x67 => if bitsOf w 14 12 = 0 then some (.jalr (rdOf w) (rs1Of w) (immI w)) else none
  | 0x63 => (branchOf (bitsOf w 14 12)).map (fun c => .branch c (rs1Of w) (rs2Of w) (immB w))
  | 0x03 => (loadOf (bitsOf w 14 12)).map (fun p => .load p.1 p.2 (rdOf w) (rs1Of w) (immI w))
  | 0x23 => (storeOf (bitsOf w 14 12)).map (fun n => .store n (rs1Of w) (rs2Of w) (immS w))
  | 0x13 => decodeImm w
  | 0x33 => decodeReg w
  | 0x0F => if bitsOf w 14 12 = 0 then some .fence else none
  | 0x2F => decodeAmo w
  | 0x73 => decodeSystem w
  | _ => none

/-- Registers of the compressed formats. -/
def cReg (w lo : Nat) : Nat := 8 + bitsOf w (lo + 2) lo
def cImm (w : Nat) : BitVec 32 := sext32 6 (joinBits [part w 12 12, part w 6 2])
def cJump (w : Nat) : BitVec 32 :=
  sext32 12 (joinBits [part w 12 12, part w 8 8, part w 10 9, part w 6 6, part w 7 7, part w 2 2, part w 11 11, part w 5 3, (0, 1)])
def cBranch (w : Nat) : BitVec 32 :=
  sext32 9 (joinBits [part w 12 12, part w 6 5, part w 2 2, part w 11 10, part w 4 3, (0, 1)])
def cWord (w : Nat) : BitVec 32 := BitVec.ofNat 32 (joinBits [part w 5 5, part w 12 10, part w 6 6, (0, 2)])

/-- Quadrant 0. -/
def decodeC0 (w : Nat) : Option CoreOp :=
  match bitsOf w 15 13 with
  | 0 =>
    let u := joinBits [part w 10 7, part w 12 11, part w 5 5, part w 6 6, (0, 2)]
    if u = 0 then none else some (.aluImm .add (cReg w 2) 2 (BitVec.ofNat 32 u))
  | 2 => some (.load 4 true (cReg w 2) (cReg w 7) (cWord w))
  | 6 => some (.store 4 (cReg w 7) (cReg w 2) (cWord w))
  | _ => none

/-- The arithmetic of quadrant 1. -/
def decodeCArith (w : Nat) : Option CoreOp :=
  let rd := cReg w 7
  let sh := BitVec.ofNat 32 (bitsOf w 6 2)
  match bitsOf w 11 10 with
  | 0 => if bitAt w 12 then none else some (.aluImm .srl rd rd sh)
  | 1 => if bitAt w 12 then none else some (.aluImm .sra rd rd sh)
  | 2 => some (.aluImm .and rd rd (cImm w))
  | _ =>
    if bitAt w 12 then none else
      let o : AluOp := match bitsOf w 6 5 with
        | 0 => .sub | 1 => .xor | 2 => .or | _ => .and
      some (.alu o rd rd (cReg w 2))

/-- Quadrant 1. -/
def decodeC1 (w : Nat) : Option CoreOp :=
  let rd := rdOf w
  match bitsOf w 15 13 with
  | 0 => some (.aluImm .add rd rd (cImm w))
  | 1 => some (.jal 1 (cJump w))
  | 2 => some (.aluImm .add rd 0 (cImm w))
  | 3 =>
    if bitAt w 12 = false ∧ bitsOf w 6 2 = 0 then none
    else if rd = 2 then
      some (.aluImm .add 2 2 (sext32 10 (joinBits [part w 12 12, part w 4 3, part w 5 5, part w 2 2, part w 6 6, (0, 4)])))
    else some (.lui rd (sext32 18 (joinBits [part w 12 12, part w 6 2, (0, 12)])))
  | 4 => decodeCArith w
  | 5 => some (.jal 0 (cJump w))
  | 6 => some (.branch .eq (cReg w 7) 0 (cBranch w))
  | _ => some (.branch .ne (cReg w 7) 0 (cBranch w))

/-- Quadrant 2. -/
def decodeC2 (w : Nat) : Option CoreOp :=
  let rd := rdOf w
  let rs2 := bitsOf w 6 2
  match bitsOf w 15 13 with
  | 0 => if bitAt w 12 then none else some (.aluImm .sll rd rd (BitVec.ofNat 32 rs2))
  | 2 => if rd = 0 then none
    else some (.load 4 true rd 2 (BitVec.ofNat 32 (joinBits [part w 3 2, part w 12 12, part w 6 4, (0, 2)])))
  | 4 =>
    if bitAt w 12 then
      (if rs2 ≠ 0 then some (.alu .add rd rd rs2) else if rd = 0 then some .ebreak else some (.jalr 1 rd 0))
    else if rs2 ≠ 0 then some (.alu .add rd 0 rs2)
    else if rd = 0 then none else some (.jalr 0 rd 0)
  | 6 => some (.store 4 2 rs2 (BitVec.ofNat 32 (joinBits [part w 8 7, part w 12 9, (0, 2)])))
  | _ => none

/-- A 16-bit instruction; none is illegal. -/
def decode16 (w : Nat) : Option CoreOp :=
  match w % 4 with
  | 0 => decodeC0 w
  | 1 => decodeC1 w
  | _ => decodeC2 w

/-! Results. -/

/-- The upper half of a product. -/
def mulHigh (a b : Int) : BitVec 32 := BitVec.ofInt 32 (a * b / 2 ^ 32)

/-- The result of an operation. A shift takes the low five bits; a division by zero gives all ones, its remainder the dividend; the
signed overflow gives the dividend, and remainder zero. -/
def aluRun (o : AluOp) (a b : BitVec 32) : BitVec 32 :=
  let sh := b.toNat % 32
  match o with
  | .add => a + b
  | .sub => a - b
  | .sll => a <<< sh
  | .slt => if a.toInt < b.toInt then 1 else 0
  | .sltu => if a.toNat < b.toNat then 1 else 0
  | .xor => a ^^^ b
  | .srl => a >>> sh
  | .sra => a.sshiftRight sh
  | .or => a ||| b
  | .and => a &&& b
  | .mul => a * b
  | .mulh => mulHigh a.toInt b.toInt
  | .mulhsu => mulHigh a.toInt b.toNat
  | .mulhu => mulHigh a.toNat b.toNat
  | .div => if b = 0 then BitVec.allOnes 32 else BitVec.ofInt 32 (a.toInt.tdiv b.toInt)
  | .divu => if b = 0 then BitVec.allOnes 32 else BitVec.ofNat 32 (a.toNat / b.toNat)
  | .rem => if b = 0 then a else BitVec.ofInt 32 (a.toInt.tmod b.toInt)
  | .remu => if b = 0 then a else BitVec.ofNat 32 (a.toNat % b.toNat)

/-- A branch is taken. -/
def branchRun (c : BranchOp) (a b : BitVec 32) : Bool :=
  match c with
  | .eq => decide (a = b)
  | .ne => decide (a ≠ b)
  | .lt => decide (a.toInt < b.toInt)
  | .ge => decide (b.toInt ≤ a.toInt)
  | .ltu => decide (a.toNat < b.toNat)
  | .geu => decide (b.toNat ≤ a.toNat)

/-- What an atomic operation stores over old. -/
def amoRun (o : AmoOp) (old v : BitVec 32) : BitVec 32 :=
  match o with
  | .swap => v
  | .add => old + v
  | .xor => old ^^^ v
  | .and => old &&& v
  | .or => old ||| v
  | .min => if old.toInt ≤ v.toInt then old else v
  | .max => if old.toInt ≤ v.toInt then v else old
  | .minu => if old.toNat ≤ v.toNat then old else v
  | .maxu => if old.toNat ≤ v.toNat then v else old

/-- A loaded number of n bytes, extended. -/
def extendLoad (n : Nat) (signed : Bool) (v : Nat) : BitVec 32 :=
  if signed then sext32 (8 * n) v else BitVec.ofNat 32 v

/-! mstatus: MIE is bit 3, MPIE bit 7, MPP bits 12 and 11, MPRV bit 17, TW bit 21; the other bits read zero. -/

/-- The previous mode was user mode. -/
def mppUser (m : BitVec 32) : Bool := !m.getLsbD 11

/-- mstatus with a field's bits set or cleared. -/
def setBits (m mask : BitVec 32) (v : Bool) : BitVec 32 := if v then m ||| mask else m &&& ~~~mask

/-- mstatus as a write leaves it: MPP holds user or machine mode only. -/
def mstatusLegal (v : BitVec 32) : BitVec 32 :=
  let m := v &&& 0x00220088
  if v.getLsbD 11 && v.getLsbD 12 then m ||| 0x1800 else m

/-- mstatus after a trap from a mode. -/
def mstatusTrap (m : BitVec 32) (user : Bool) : BitVec 32 :=
  setBits (setBits (setBits m 0x80 (m.getLsbD 3)) 0x8 false) 0x1800 (!user)

/-- mstatus after MRET: MIE from MPIE, MPIE one, MPP user mode, and MPRV cleared on the way to user mode. -/
def mstatusRet (m : BitVec 32) : BitVec 32 :=
  let r := setBits (setBits (setBits m 0x8 (m.getLsbD 7)) 0x80 true) 0x1800 false
  if mppUser m then setBits r 0x20000 false else r

/-- Where a trap goes: BASE, or in the vectored mode BASE + 4 × cause for an interrupt. -/
def trapTarget (mtvec cause : BitVec 32) : BitVec 32 :=
  let base := mtvec &&& 0xFFFFFFFC
  if cause.getLsbD 31 && mtvec.getLsbD 0 then base + 4 * (cause &&& 0x7FFFFFFF) else base

/-- misa: RV32 with A, C, I, M and user mode. -/
def misaValue : BitVec 32 := 0x40101105

end Sys2Proof.Machine
end

