-- ==== Sys2Proof/Machine/HartOps.lean ====
section
/-! DEFINITION. The management core at work: its address map, stalls, traps and instructions (R268 to R271, R275, R279, R286, R290).
It runs in the steps on an empty queue (log 1, DESIGN CHOICE; log 58, PRESUMED). -/
namespace Sys2Proof.Machine

/-- Change the hart. -/
def withHart (s : State) (f : HartSt → HartSt) : State := { s with mgt := { s.mgt with hart := f s.mgt.hart } }

/-- Integer register r; register 0 reads zero. -/
def coreReg (s : State) (r : Nat) : BitVec 32 := if r = 0 then 0 else s.mgt.hart.x[r]?.getD 0

/-- Write integer register r; register 0 discards it. -/
def setCoreReg (s : State) (r : Nat) (v : BitVec 32) : State :=
  if r = 0 then s else withHart s (fun h => { h with x := h.x.setIfInBounds r v })

/-! The clock of domain 20 (R268, R279). -/

/-- A cycle of domain 20 in 1/48 ns: 400 MHz, and 32 MHz during an Alley rendezvous. -/
def corePeriod (s : State) : Nat := if s.vault = .alley then 1500 else 120

/-- Cycles of a read of the array: WS + 1. -/
def arrayCycles (s : State) : Nat := max (fld s NVC_WAIT_WS) (wsMin s) + 1

/-- A read of the array at byte a: the cycles beyond the first, and the line buffers after it; the oldest of the four gives way
(log 58, DESIGN CHOICE). -/
def arrayCost (s : State) (fetch : Bool) (a : Nat) : State :=
  let h := s.mgt.hart
  let b := a / 16
  let s1 := if fetch then withHart s (fun h => { h with seqPc := a + 2 }) else s
  if fetch && decide (a = h.seqPc) && h.lines.contains b then s1
  else withHart s1 (fun h => { h with busy := h.busy + arrayCycles s - 1, lines := (b :: h.lines.filter (fun x => x ≠ b)).take 4 })

/-! The address map (R269). -/

/-- A range of the core's address map, with the offset in it. -/
inductive CoreRange
  | flash (off : Nat)
  | sram (off : Nat)
  | page (off : Nat)
  | rom (off : Nat)
  | unmapped
  deriving DecidableEq, Repr

def coreRange (a : Nat) : CoreRange :=
  if a < 0x800000 then .flash a
  else if 0x10000000 ≤ a ∧ a < 0x10080000 then .sram (a - 0x10000000)
  else if 0x20000000 ≤ a ∧ a < 0x20100000 then .page (a - 0x20000000)
  else if 0x30000000 ≤ a ∧ a < 0x30004000 then .rom (a - 0x30000000)
  else .unmapped

/-- The register pages. -/
def pageRange (a : Nat) : Bool :=
  match coreRange a with
  | .page _ => true
  | _ => false

/-- What an access of the core is. -/
inductive CoreAccess
  | fetch | load | store | amo
  deriving DecidableEq, Repr

/-- User mode reaches n bytes of the SRAM at off: inside MGT_UWIN only. -/
def userWindow (s : State) (off n : Nat) : Bool :=
  decide (fld s MGT_UWIN_BASE ≤ off) && decide (off + n ≤ fld s MGT_UWIN_LIMIT)

/-- The access is allowed (R269, R270). -/
def coreMay (s : State) (user : Bool) (acc : CoreAccess) (a n : Nat) : Bool :=
  match coreRange a with
  | .flash _ => decide (acc = .fetch) || decide (acc = .load)
  | .sram off => decide (off + n ≤ 0x80000) && (!user || userWindow s off n)
  | .page _ => !user && (decide (acc = .load) || decide (acc = .store))
  | .rom _ => !user && (decide (acc = .fetch) || decide (acc = .load))
  | .unmapped => false

/-- The mode whose rights a load or store has: MPP's while MPRV is one. -/
def dataUser (s : State) : Bool :=
  let h := s.mgt.hart
  h.user || (h.mstatus.getLsbD 17 && mppUser h.mstatus)

/-- The array programs or erases (R286). -/
def arrayBusy (s : State) : Bool := s.mgt.op.isSome

/-- A word of the array as the core reads it: all ones from the key area (R290), a free value where its content is open, and no value
where the word is uncorrectable, which a word of undefined content may be (R275, R288; log 4, DESIGN CHOICE). -/
def arrayWord (s : State) (w : Nat) : Option Word × State :=
  if keyAreaSec (w / 512) then (some allOnes, s)
  else if s.mgt.dubious.contains w then
    let p := drawNat s
    if p.1 % 3 = 0 then (none, raise p.2 (srcNvc 3))
    else let q := drawWord (if p.1 % 3 = 1 then raise p.2 (srcNvc 2) else p.2); (some q.1, q.2)
  else let q := readWord s w; (some q.1, q.2)

/-- How a read of the core ends: it stalls, it faults, or it gives a number of n bytes. -/
inductive CoreRead
  | stall
  | fault
  | val (v : Nat)
  deriving DecidableEq, Repr

/-- n bytes of the boot ROM. -/
def romNum (a : Nat) : Nat → Nat
  | 0 => 0
  | n + 1 => (Config.bootRom a).toNat + 256 * romNum (a + 1) n

/-- An allowed read of n bytes at a, inside one aligned word of 8 bytes. A read of a page of another size or alignment than the half rule
has gives all ones (R369). -/
def coreRead (s : State) (acc : CoreAccess) (a n : Nat) : CoreRead × State :=
  match coreRange a with
  | .flash off =>
    if arrayBusy s then (.stall, s) else
      match arrayWord (arrayCost s (decide (acc = .fetch)) off) (off / 8) with
      | (some w, s1) => (.val (w.toNat / 256 ^ (off % 8) % 256 ^ n), s1)
      | (none, s1) => (.fault, s1)
  | .sram off => (.val (sramNum s off n), s)
  | .page off =>
    if n = 4 ∧ off % 4 = 0 then let p := halfLoad s .core off; (.val p.1.toNat, p.2) else (.val (256 ^ n - 1), s)
  | .rom off => (.val (romNum off n), s)
  | .unmapped => (.fault, s)

/-- Write n bytes of the SRAM. -/
def sramPut (s : State) (off v : Nat) : Nat → State
  | 0 => s
  | n + 1 =>
    sramPut { s with mgt := { s.mgt with sram := sset 0 s.mgt.sram off (BitVec.ofNat 8 v) } } (off + 1) (v / 256) n

/-- A store ends a reservation it meets. -/
def breakReserve (s : State) (a n : Nat) : State :=
  withHart s (fun h => { h with reserved := h.reserved.filter (fun r => !(decide (r < a + n) && decide (a < r + 4))) })

/-- An allowed store of n bytes at a. One to a page of another size or alignment is discarded (R369); it drops the held half (R270). -/
def coreWrite (s : State) (a n v : Nat) : Res :=
  match coreRange a with
  | .sram off => .next (breakReserve (sramPut s off v n) a n)
  | .page off =>
    if n = 4 ∧ off % 8 = 0 then execLowHalfStore .core off (BitVec.ofNat 32 v) s
    else if n = 4 ∧ off % 8 = 4 then execHighHalfStore .core off (BitVec.ofNat 32 v) s
    else .next (dropHalf s .core)
  | _ => .next s

/-! Traps (R269, R270, R275). -/

/-- A trap: mepc, mcause and mtval, mstatus and the mode, and mtvec. -/
def coreTrap (s : State) (cause tval : BitVec 32) : State :=
  withHart s (fun h =>
    { h with mepc := h.pc, mcause := cause, mtval := tval, mstatus := mstatusTrap h.mstatus h.user, user := false,
             pc := trapTarget h.mtvec cause })

/-- mip: the machine external interrupt, bit 11, is pending while any page has one (R271). -/
def coreMip (s : State) : BitVec 32 := if (irqPages s).isEmpty then 0 else 0x800

/-- A pending interrupt is enabled. -/
def interruptReady (s : State) : Bool :=
  let h := s.mgt.hart
  decide (coreMip s &&& h.mie ≠ 0) && (h.user || h.mstatus.getLsbD 3)

/-- The interrupt is taken: the trap to mtvec. -/
def takeInterrupt (s : State) : State := coreTrap s 0x8000000B 0

/-! Stalls (R286). -/

/-- A fetch or a load stalls: it counts, and the first sets SELF_STALL, which is the one that finds the bit clear
(log 58, DEDUCED). -/
def startStall (s : State) (fetch : Bool) : State :=
  let s1 := withHart s (fun h => { h with stall := some (fetch, s.now) })
  let s2 := setFld s1 NVC_STALL_COUNT (min (2 ^ 32 - 1) (fld s1 NVC_STALL_COUNT + 1))
  if flag s2 (FLT_STICKY_SRC 0x88 7) then s2 else raise s2 (srcNvc 7)

/-- The stall ends: LONGEST, in whole µs. -/
def endStall (s : State) (since : Nat) : State :=
  let us := (s.now - since) / usUnits
  let s1 := withHart s (fun h => { h with stall := none })
  setFld s1 NVC_STALL_LONGEST (min (2 ^ 32 - 1) (max (fld s1 NVC_STALL_LONGEST) us))

/-! Control and status registers (R268). -/

/-- A CSR; none is one the core does not have. -/
def csrRead (s : State) (n : Nat) : Option (BitVec 32) :=
  let h := s.mgt.hart
  match n with
  | 0x300 => some h.mstatus
  | 0x301 => some misaValue
  | 0x304 => some h.mie
  | 0x305 => some h.mtvec
  | 0x340 => some h.mscratch
  | 0x341 => some h.mepc
  | 0x342 => some h.mcause
  | 0x343 => some h.mtval
  | 0x344 => some (coreMip s)
  | 0xB00 => some (h.mcycle.extractLsb' 0 32)
  | 0xB80 => some (h.mcycle.extractLsb' 32 32)
  | 0xB02 => some (h.minstret.extractLsb' 0 32)
  | 0xB82 => some (h.minstret.extractLsb' 32 32)
  | 0xF14 => some 0
  | _ => none

/-- A write to a CSR; misa and mip keep their values, and mie holds the external interrupt alone. -/
def csrWrite (h : HartSt) (n : Nat) (v : BitVec 32) : HartSt :=
  match n with
  | 0x300 => { h with mstatus := mstatusLegal v }
  | 0x304 => { h with mie := v &&& 0x800 }
  | 0x305 => { h with mtvec := v &&& 0xFFFFFFFD }
  | 0x340 => { h with mscratch := v }
  | 0x341 => { h with mepc := v &&& 0xFFFFFFFE }
  | 0x342 => { h with mcause := v }
  | 0x343 => { h with mtval := v }
  | 0xB00 => { h with mcycle := h.mcycle.extractLsb' 32 32 ++ v }
  | 0xB80 => { h with mcycle := v ++ h.mcycle.extractLsb' 0 32 }
  | 0xB02 => { h with minstret := h.minstret.extractLsb' 32 32 ++ v }
  | 0xB82 => { h with minstret := v ++ h.minstret.extractLsb' 0 32 }
  | _ => h

/-! Instructions. -/

/-- The instruction is done and the next is at pc. -/
def goTo (s : State) (pc : BitVec 32) : State := withHart s (fun h => { h with pc := pc, minstret := h.minstret + 1 })

/-- The instruction of len bytes is done and the next follows it. -/
def goOn (s : State) (len : Nat) : State := goTo s (s.mgt.hart.pc + BitVec.ofNat 32 len)

/-- The instruction is illegal. -/
def illegal (s : State) (bits : Nat) : State := coreTrap s 2 (BitVec.ofNat 32 bits)

/-- A load: misaligned (outside the pages), refused by the address map, stalled, uncorrectable, or done. -/
def runLoad (s : State) (len n : Nat) (signed : Bool) (rd : Nat) (addr : BitVec 32) : State :=
  let a := addr.toNat
  if !coreMay s (dataUser s) .load a n then coreTrap s 5 addr
  else if a % n ≠ 0 ∧ !pageRange a then coreTrap s 4 addr
  else match coreRead s .load a n with
    | (.stall, s1) => startStall s1 false
    | (.fault, s1) => coreTrap s1 5 addr
    | (.val v, s1) => goOn (setCoreReg s1 rd (extendLoad n signed v)) len

/-- A store. The instruction is done before it takes effect: one that restarts the core leaves the start. -/
def runStore (s : State) (len n : Nat) (addr v : BitVec 32) : Res :=
  let a := addr.toNat
  if !coreMay s (dataUser s) .store a n then .next (coreTrap s 7 addr)
  else if a % n ≠ 0 ∧ !pageRange a then .next (coreTrap s 6 addr)
  else coreWrite (goOn s len) a n (v.toNat % 256 ^ n)

/-- An access of LR, SC or an atomic operation: SRAM only, else a store access fault (R270). -/
def atomicAt (s : State) (addr : BitVec 32) (k : Nat → State) : State :=
  match coreRange addr.toNat with
  | .sram off =>
    if !coreMay s (dataUser s) .amo addr.toNat 4 then coreTrap s 7 addr
    else if addr.toNat % 4 ≠ 0 then coreTrap s 6 addr
    else k off
  | _ => coreTrap s 7 addr

/-- A word of the SRAM. -/
def sramWord (s : State) (off : Nat) : BitVec 32 := BitVec.ofNat 32 (sramNum s off 4)

def runLr (s : State) (rd : Nat) (addr : BitVec 32) : State :=
  atomicAt s addr (fun off =>
    goOn (setCoreReg (withHart s (fun h => { h with reserved := some addr.toNat })) rd (sramWord s off)) 4)

def runSc (s : State) (rd : Nat) (addr v : BitVec 32) : State :=
  atomicAt s addr (fun off =>
    let hit := decide (s.mgt.hart.reserved = some addr.toNat)
    let s1 := withHart s (fun h => { h with reserved := none })
    goOn (setCoreReg (if hit then sramPut s1 off v.toNat 4 else s1) rd (if hit then 0 else 1)) 4)

def runAmo (s : State) (o : AmoOp) (rd : Nat) (addr v : BitVec 32) : State :=
  atomicAt s addr (fun off =>
    let old := sramWord s off
    goOn (setCoreReg (breakReserve (sramPut s off (amoRun o old v).toNat 4) addr.toNat 4) rd old) 4)

/-- A CSR instruction: machine registers from machine mode only, and none written that is read-only. A set or clear of nothing writes
nothing. A write of minstret stands in place of the instruction's own count. -/
def runCsr (s : State) (bits : Nat) (o : CsrOp) (imm : Bool) (rd rs1 n : Nat) : State :=
  let src := if imm then BitVec.ofNat 32 rs1 else coreReg s rs1
  let writes := decide (o = .write) || decide (rs1 ≠ 0)
  if s.mgt.hart.user || (writes && decide (0xC00 ≤ n)) then illegal s bits else
    match csrRead s n with
    | none => illegal s bits
    | some old =>
      let v := match o with
        | .write => src
        | .set => old ||| src
        | .clear => old &&& ~~~src
      let s1 := setCoreReg (goOn s 4) rd old
      if writes then
        withHart s1 (fun h => csrWrite (if n = 0xB02 ∨ n = 0xB82 then { h with minstret := h.minstret - 1 } else h) n v)
      else s1

/-- One instruction of len bytes, its bits given for mtval. -/
def runCore (s : State) (bits len : Nat) (i : CoreOp) : Res :=
  let pc := s.mgt.hart.pc
  let r := coreReg s
  match i with
  | .lui rd imm => .next (goOn (setCoreReg s rd imm) len)
  | .auipc rd imm => .next (goOn (setCoreReg s rd (pc + imm)) len)
  | .jal rd off => .next (goTo (setCoreReg s rd (pc + BitVec.ofNat 32 len)) (pc + off))
  | .jalr rd rs1 off =>
    .next (goTo (setCoreReg s rd (pc + BitVec.ofNat 32 len)) ((r rs1 + off) &&& 0xFFFFFFFE))
  | .branch c a b off => .next (if branchRun c (r a) (r b) then goTo s (pc + off) else goOn s len)
  | .load n signed rd rs1 off => .next (runLoad s len n signed rd (r rs1 + off))
  | .store n rs1 rs2 off => runStore s len n (r rs1 + off) (r rs2)
  | .aluImm o rd rs1 imm => .next (goOn (setCoreReg s rd (aluRun o (r rs1) imm)) len)
  | .alu o rd a b => .next (goOn (setCoreReg s rd (aluRun o (r a) (r b))) len)
  | .fence => .next (goOn s len)
  | .ecall => .next (coreTrap s (if s.mgt.hart.user then 8 else 11) 0)
  | .ebreak => .next (coreTrap s 3 pc)
  | .mret =>
    .next (if s.mgt.hart.user then illegal s bits else
      withHart (goTo s s.mgt.hart.mepc)
        (fun h => { h with user := mppUser h.mstatus, mstatus := mstatusRet h.mstatus }))
  | .wfi => .next (if s.mgt.hart.user && s.mgt.hart.mstatus.getLsbD 21 then illegal s bits else goOn s len)
  | .csr o imm rd rs1 n => .next (runCsr s bits o imm rd rs1 n)
  | .lr rd rs1 => .next (runLr s rd (r rs1))
  | .sc rd rs1 rs2 => .next (runSc s rd (r rs1) (r rs2))
  | .amo o rd rs1 rs2 => .next (runAmo s o rd (r rs1) (r rs2))

/-- A fetched instruction runs, or is illegal. -/
def runBits (s : State) (bits len : Nat) : Res :=
  match if len = 2 then decode16 bits else decode32 bits with
  | none => .next (illegal s bits)
  | some i => runCore s bits len i

/-- Two bytes of an instruction at a, then k with them. -/
def fetchHalf (s : State) (a : Nat) (k : Nat → State → Res) : Res :=
  if !coreMay s s.mgt.hart.user .fetch a 2 then .next (coreTrap s 1 (BitVec.ofNat 32 a)) else
    match coreRead s .fetch a 2 with
    | (.stall, s1) => .next (startStall s1 true)
    | (.fault, s1) => .next (coreTrap s1 1 (BitVec.ofNat 32 a))
    | (.val v, s1) => k v s1

/-- The hart fetches and runs one instruction. -/
def coreInstr (s : State) : Res :=
  let pc := s.mgt.hart.pc.toNat
  fetchHalf s pc (fun lo s1 =>
    if lo % 4 ≠ 3 then runBits s1 lo 2
    else fetchHalf s1 ((pc + 2) % 2 ^ 32) (fun hi s2 => runBits s2 (lo + 65536 * hi) 4))

/-- A cycle in which the hart is free: it waits in a stall, leaves it, takes an interrupt, or runs an instruction. A stalled fetch is
abandoned for an enabled interrupt, a stalled load is not (R286). -/
def hartFree (s : State) : Res :=
  match s.mgt.hart.stall with
  | some (fetch, t) =>
    if fetch && interruptReady s then .next (takeInterrupt (endStall s t))
    else if arrayBusy s then .next s
    else coreInstr (endStall s t)
  | none => if interruptReady s then .next (takeInterrupt s) else coreInstr s

/-- A cycle of domain 20. -/
def hartCycle (s : State) : Res :=
  let s1 := withHart s (fun h => { h with mcycle := h.mcycle + 1 })
  if s1.mgt.hart.busy = 0 then hartFree s1 else .next (withHart s1 (fun h => { h with busy := h.busy - 1 }))

/-- The hart at the end of a Plaza cycle: a cycle of domain 20 begins, and firmware runs. -/
def hartTick (s : State) : Res :=
  if mgtUp s && s.mgt.hart.running && decide (s.now % corePeriod s < cycleUnits) then hartCycle s else .next s

/-- CORE_INTERRUPT (R271, R286): the request of the pages reaches the core, which takes the interrupt where it is enabled, unless an
instruction is under way or a load stalls; a stalled fetch is abandoned. -/
def execCoreInterrupt (s : State) : Res :=
  .next (if mgtUp s then
    let s1 := { s with mgt := { s.mgt with irqTaken := !(irqPages s).isEmpty } }
    if !s1.mgt.hart.running || !interruptReady s1 || decide (s1.mgt.hart.busy ≠ 0) then s1 else
      match s1.mgt.hart.stall with
      | none => takeInterrupt s1
      | some (true, t) => takeInterrupt (endStall s1 t)
      | some (false, _) => s1
  else s)

end Sys2Proof.Machine
end

