-- ==== Sys2Proof/Machine/Requests.lean ====
section
/-! DEFINITION. The eleven requests of the Boulevard (R36 to R51). -/
namespace Sys2Proof.Machine

/-- RD (R37): n lines read. -/
def execRd (link : Fin 8) (h : ReqHdr) (s : State) : Res := .next (requestOp link.val opRD h [] s)
/-- WR (R37): n full lines written, at both vaults. -/
def execWr (link : Fin 8) (h : ReqHdr) (data : List Slot128) (s : State) : Res := .next (requestOp link.val opWR h data s)
/-- WRD (R37): a WR answered once the partner holds the lines. -/
def execWrd (link : Fin 8) (h : ReqHdr) (data : List Slot128) (s : State) : Res := .next (requestOp link.val opWRD h data s)
/-- ADD64 (R38). -/
def execAdd64 (link : Fin 8) (h : ReqHdr) (data : List Slot128) (s : State) : Res := .next (requestOp link.val opADD64 h data s)
/-- ADDPAIR (R38). -/
def execAddpair (link : Fin 8) (h : ReqHdr) (data : List Slot128) (s : State) : Res :=
  .next (requestOp link.val opADDPAIR h data s)
/-- CAS64 (R38). -/
def execCas64 (link : Fin 8) (h : ReqHdr) (data : List Slot128) (s : State) : Res := .next (requestOp link.val opCAS64 h data s)
/-- CAS128 (R38). -/
def execCas128 (link : Fin 8) (h : ReqHdr) (data : List Slot128) (s : State) : Res :=
  .next (requestOp link.val opCAS128 h data s)
/-- EXM (R40): look a key up. -/
def execExm (link : Fin 8) (h : ReqHdr) (data : List Slot128) (s : State) : Res := .next (requestOp link.val opEXM h data s)
/-- EXI (R40): insert an entry. -/
def execExi (link : Fin 8) (h : ReqHdr) (data : List Slot128) (s : State) : Res := .next (requestOp link.val opEXI h data s)
/-- EXD (R40): delete an entry. -/
def execExd (link : Fin 8) (h : ReqHdr) (data : List Slot128) (s : State) : Res := .next (requestOp link.val opEXD h data s)
/-- FENCE (R51). -/
def execFence (link : Fin 8) (h : ReqHdr) (s : State) : Res := .next (requestOp link.val opFENCE h [] s)

end Sys2Proof.Machine
end

