-- ==== Sys2Proof/Machine/Dispatch.lean ====
section
/-! DEFINITION. The command table: one arm per command, each a direct call of its meaning. -/
namespace Sys2Proof.Machine

/-- The effect of a command on everything but the queue. -/
def exec (i : Instr) (s : State) : Host.Outcome State Fault Refusal :=
  match i with
  | .powerGood => Sys2Proof.Machine.execPowerGood s
  | .pgTimeout pin => Sys2Proof.Machine.execPgTimeout pin s
  | .powerUpRetry => Sys2Proof.Machine.execPowerUpRetry s
  | .logicRailFall pin => Sys2Proof.Machine.execLogicRailFall pin s
  | .xtalStop => Sys2Proof.Machine.execXtalStop s
  | .xtalSwitch stable => Sys2Proof.Machine.execXtalSwitch stable s
  | .pllLockLoss pll => Sys2Proof.Machine.execPllLockLoss pll s
  | .pcieReset => Sys2Proof.Machine.execPcieReset s
  | .testLogicReset => Sys2Proof.Machine.execTestLogicReset s
  | .warmReset q => Sys2Proof.Machine.execWarmReset q s
  | .sysRstNLow => Sys2Proof.Machine.execSysRstNLow s
  | .heldResetTaken => Sys2Proof.Machine.execHeldResetTaken s
  | .warmResetEffect drainNs => Sys2Proof.Machine.execWarmResetEffect drainNs s
  | .fencedReset => Sys2Proof.Machine.execFencedReset s
  | .bootDone q => Sys2Proof.Machine.execBootDone q s
  | .joinLate => Sys2Proof.Machine.execJoinLate s
  | .regWaitExpire => Sys2Proof.Machine.execRegWaitExpire s
  | .joinWaitExpire => Sys2Proof.Machine.execJoinWaitExpire s
  | .bkupRearm => Sys2Proof.Machine.execBkupRearm s
  | .mainLossDeclare => Sys2Proof.Machine.execMainLossDeclare s
  | .mainReturnQualify => Sys2Proof.Machine.execMainReturnQualify s
  | .senseError => Sys2Proof.Machine.execSenseError s
  | .pwrSenseWrite q v => Sys2Proof.Machine.execPwrSenseWrite q v s
  | .specCopyStart => Sys2Proof.Machine.execSpecCopyStart s
  | .rideWindowExpire => Sys2Proof.Machine.execRideWindowExpire s
  | .dumpDrainDone => Sys2Proof.Machine.execDumpDrainDone s
  | .checkpoint q => Sys2Proof.Machine.execCheckpoint q s
  | .abort q => Sys2Proof.Machine.execAbort q s
  | .dumpHoldEnd => Sys2Proof.Machine.execDumpHoldEnd s
  | .estimatorUpdate a b => Sys2Proof.Machine.execEstimatorUpdate a b s
  | .impedanceBurstDone p v0 i0 v i1 t moved => Sys2Proof.Machine.execImpedanceBurstDone p v0 i0 v i1 t moved s
  | .adcAutoZero p ok => Sys2Proof.Machine.execAdcAutoZero p ok s
  | .packRemoval p => Sys2Proof.Machine.execPackRemoval p s
  | .packInsertion p v => Sys2Proof.Machine.execPackInsertion p v s
  | .auth q p => Sys2Proof.Machine.execAuth q p s
  | .authPeriodic p => Sys2Proof.Machine.execAuthPeriodic p s
  | .authAttemptEnd p id o => Sys2Proof.Machine.execAuthAttemptEnd p id o s
  | .learn q p => Sys2Proof.Machine.execLearn q p s
  | .learnStop q p => Sys2Proof.Machine.execLearnStop q p s
  | .learnChargeEnd p terminated => Sys2Proof.Machine.execLearnChargeEnd p terminated s
  | .learnRestEnd p => Sys2Proof.Machine.execLearnRestEnd p s
  | .learnDischargeEnd p i1 t => Sys2Proof.Machine.execLearnDischargeEnd p i1 t s
  | .chargerWrite p ok => Sys2Proof.Machine.execChargerWrite p ok s
  | .chargeFault p => Sys2Proof.Machine.execChargeFault p s
  | .ship q => Sys2Proof.Machine.execShip q s
  | .pageLockWrite q pg v => Sys2Proof.Machine.execPageLockWrite q pg v s
  | .rd link h => Sys2Proof.Machine.execRd link h s
  | .wr link h data => Sys2Proof.Machine.execWr link h data s
  | .wrd link h data => Sys2Proof.Machine.execWrd link h data s
  | .add64 link h data => Sys2Proof.Machine.execAdd64 link h data s
  | .addpair link h data => Sys2Proof.Machine.execAddpair link h data s
  | .cas64 link h data => Sys2Proof.Machine.execCas64 link h data s
  | .cas128 link h data => Sys2Proof.Machine.execCas128 link h data s
  | .exm link h data => Sys2Proof.Machine.execExm link h data s
  | .exi link h data => Sys2Proof.Machine.execExi link h data s
  | .exd link h data => Sys2Proof.Machine.execExd link h data s
  | .fence link h => Sys2Proof.Machine.execFence link h s
  | .flitReceive link f => Sys2Proof.Machine.execFlitReceive link f s
  | .nakReceive link ack => Sys2Proof.Machine.execNakReceive link ack s
  | .credit link slots => Sys2Proof.Machine.execCredit link slots s
  | .cancel link port tag => Sys2Proof.Machine.execCancel link port tag s
  | .linkTrain q link => Sys2Proof.Machine.execLinkTrain q link s
  | .linkUp link => Sys2Proof.Machine.execLinkUp link s
  | .laneFail link lane => Sys2Proof.Machine.execLaneFail link lane s
  | .cdrLockLoss link => Sys2Proof.Machine.execCdrLockLoss link s
  | .portCfgWrite q link v => Sys2Proof.Machine.execPortCfgWrite q link v s
  | .boundWrite q v => Sys2Proof.Machine.execBoundWrite q v s
  | .poolCfgWrite q v => Sys2Proof.Machine.execPoolCfgWrite q v s
  | .poolBurstWrite q v => Sys2Proof.Machine.execPoolBurstWrite q v s
  | .poolRefill => Sys2Proof.Machine.execPoolRefill s
  | .binBoundary => Sys2Proof.Machine.execBinBoundary s
  | .reserveFollow => Sys2Proof.Machine.execReserveFollow s
  | .plazaGrant output inter => Sys2Proof.Machine.execPlazaGrant output inter s
  | .plazaCancel client seq => Sys2Proof.Machine.execPlazaCancel client seq s
  | .zonWinCommit q => Sys2Proof.Machine.execZonWinCommit q s
  | .zonWinRead q => Sys2Proof.Machine.execZonWinRead q s
  | .drcMapWrite q quad v => Sys2Proof.Machine.execDrcMapWrite q quad v s
  | .commandSlot sub ecc => Sys2Proof.Machine.execCommandSlot sub ecc s
  | .refreshDue sub => Sys2Proof.Machine.execRefreshDue sub s
  | .refLate sub => Sys2Proof.Machine.execRefLate sub s
  | .mr4Read quad temp => Sys2Proof.Machine.execMr4Read quad temp s
  | .rateChangeEffect quad => Sys2Proof.Machine.execRateChangeEffect quad s
  | .zqLatch sub => Sys2Proof.Machine.execZqLatch sub s
  | .dqsOscRead sub drift => Sys2Proof.Machine.execDqsOscRead sub drift s
  | .patrolScrubStep sub ecc => Sys2Proof.Machine.execPatrolScrubStep sub ecc s
  | .phyLockLoss sub => Sys2Proof.Machine.execPhyLockLoss sub s
  | .stepReq q quad => Sys2Proof.Machine.execStepReq q quad s
  | .freqStepStart quad => Sys2Proof.Machine.execFreqStepStart quad s
  | .freqStepResume quad => Sys2Proof.Machine.execFreqStepResume quad s
  | .stepFail quad => Sys2Proof.Machine.execStepFail quad s
  | .subchannelOffline q sub estMs => Sys2Proof.Machine.execSubchannelOffline q sub estMs s
  | .subchannelReady sub => Sys2Proof.Machine.execSubchannelReady sub s
  | .subchannelOnline q sub estMs => Sys2Proof.Machine.execSubchannelOnline q sub estMs s
  | .csSampling q sub => Sys2Proof.Machine.execCsSampling q sub s
  | .caSampling q sub => Sys2Proof.Machine.execCaSampling q sub s
  | .writeLevelling q sub => Sys2Proof.Machine.execWriteLevelling q sub s
  | .readGate q sub => Sys2Proof.Machine.execReadGate q sub s
  | .readEye q sub => Sys2Proof.Machine.execReadEye q sub s
  | .writeEye q sub => Sys2Proof.Machine.execWriteEye q sub s
  | .readVrefPoint q sub => Sys2Proof.Machine.execReadVrefPoint q sub s
  | .writeVrefPoint q sub => Sys2Proof.Machine.execWriteVrefPoint q sub s
  | .trainActionDone sub pass finalSweep => Sys2Proof.Machine.execTrainActionDone sub pass finalSweep s
  | .mark q sub sets => Sys2Proof.Machine.execMark q sub sets s
  | .devReset q sub => Sys2Proof.Machine.execDevReset q sub s
  | .drpDlyWrite q sub v => Sys2Proof.Machine.execDrpDlyWrite q sub v s
  | .phyLocked sub => Sys2Proof.Machine.execPhyLocked sub s
  | .mirror h data => Sys2Proof.Machine.execMirror h data s
  | .mirrorAck h => Sys2Proof.Machine.execMirrorAck h s
  | .stream h data => Sys2Proof.Machine.execStream h data s
  | .streamEnd h => Sys2Proof.Machine.execStreamEnd h s
  | .ownReq h => Sys2Proof.Machine.execOwnReq h s
  | .ownGiverFlip => Sys2Proof.Machine.execOwnGiverFlip s
  | .ownGrant h => Sys2Proof.Machine.execOwnGrant h s
  | .ownDone h => Sys2Proof.Machine.execOwnDone h s
  | .digest h data => Sys2Proof.Machine.execDigest h data s
  | .digestResult h => Sys2Proof.Machine.execDigestResult h s
  | .scrubRecheck unit => Sys2Proof.Machine.execScrubRecheck unit s
  | .repair h data => Sys2Proof.Machine.execRepair h data s
  | .fetch h => Sys2Proof.Machine.execFetch h s
  | .fetchData h data => Sys2Proof.Machine.execFetchData h data s
  | .notice h => Sys2Proof.Machine.execNotice h s
  | .resyncStreamStart => Sys2Proof.Machine.execResyncStreamStart s
  | .gen h data => Sys2Proof.Machine.execGen h data s
  | .ownsum h data => Sys2Proof.Machine.execOwnsum h data s
  | .ownsumSend => Sys2Proof.Machine.execOwnsumSend s
  | .ownHandshakeGo q => Sys2Proof.Machine.execOwnHandshakeGo q s
  | .force q => Sys2Proof.Machine.execForce q s
  | .fwdEnd q => Sys2Proof.Machine.execFwdEnd q s
  | .bootScan q => Sys2Proof.Machine.execBootScan q s
  | .bootScanDone unread => Sys2Proof.Machine.execBootScanDone unread s
  | .format q => Sys2Proof.Machine.execFormat q s
  | .reshape q => Sys2Proof.Machine.execReshape q s
  | .gcReclaim block => Sys2Proof.Machine.execGcReclaim block s
  | .wearRelocate => Sys2Proof.Machine.execWearRelocate s
  | .flashProgramDone ch stripe ok => Sys2Proof.Machine.execFlashProgramDone ch stripe ok s
  | .flashEraseDone ch block ok => Sys2Proof.Machine.execFlashEraseDone ch block ok s
  | .flashReadDone ch stripe o => Sys2Proof.Machine.execFlashReadDone ch stripe o s
  | .flashCmdTimeout ch => Sys2Proof.Machine.execFlashCmdTimeout ch s
  | .retire q ch => Sys2Proof.Machine.execRetire q ch s
  | .flashTrain q ch ok => Sys2Proof.Machine.execFlashTrain q ch ok s
  | .channelReturn q ch ok => Sys2Proof.Machine.execChannelReturn q ch ok s
  | .arcadePllLoss a => Sys2Proof.Machine.execArcadePllLoss a s
  | .selftest q ok => Sys2Proof.Machine.execSelftest q ok s
  | .imgSramError e count => Sys2Proof.Machine.execImgSramError e count s
  | .commitCopy1Done verified => Sys2Proof.Machine.execCommitCopy1Done verified s
  | .commitCopy2Done => Sys2Proof.Machine.execCommitCopy2Done s
  | .unitRestored unit => Sys2Proof.Machine.execUnitRestored unit s
  | .lostWaitExpire => Sys2Proof.Machine.execLostWaitExpire s
  | .apply q => Sys2Proof.Machine.execApply q s
  | .rlogIndexLoad q index => Sys2Proof.Machine.execRlogIndexLoad q index s
  | .reconDone q => Sys2Proof.Machine.execReconDone q s
  | .reconAbandon q => Sys2Proof.Machine.execReconAbandon q s
  | .routineStart ctx => Sys2Proof.Machine.execRoutineStart ctx s
  | .seqNop ctx m => Sys2Proof.Machine.execSeqNop ctx m s
  | .seqMov ctx m => Sys2Proof.Machine.execSeqMov ctx m s
  | .seqAdd ctx m => Sys2Proof.Machine.execSeqAdd ctx m s
  | .seqSub ctx m => Sys2Proof.Machine.execSeqSub ctx m s
  | .seqAnd ctx m => Sys2Proof.Machine.execSeqAnd ctx m s
  | .seqOr ctx m => Sys2Proof.Machine.execSeqOr ctx m s
  | .seqXor ctx m => Sys2Proof.Machine.execSeqXor ctx m s
  | .seqShl ctx m => Sys2Proof.Machine.execSeqShl ctx m s
  | .seqShr ctx m => Sys2Proof.Machine.execSeqShr ctx m s
  | .seqCmp ctx m => Sys2Proof.Machine.execSeqCmp ctx m s
  | .seqBr ctx m => Sys2Proof.Machine.execSeqBr ctx m s
  | .seqCall ctx m => Sys2Proof.Machine.execSeqCall ctx m s
  | .seqRet ctx m => Sys2Proof.Machine.execSeqRet ctx m s
  | .seqLds ctx m => Sys2Proof.Machine.execSeqLds ctx m s
  | .seqSts ctx m => Sys2Proof.Machine.execSeqSts ctx m s
  | .seqLdl ctx m => Sys2Proof.Machine.execSeqLdl ctx m s
  | .seqTime ctx m => Sys2Proof.Machine.execSeqTime ctx m s
  | .seqMap ctx m => Sys2Proof.Machine.execSeqMap ctx m s
  | .seqFindd ctx m => Sys2Proof.Machine.execSeqFindd ctx m s
  | .seqFindr ctx m => Sys2Proof.Machine.execSeqFindr ctx m s
  | .copyDramToImage ctx m => Sys2Proof.Machine.execCopyDramToImage ctx m s
  | .copyImageToDram ctx m => Sys2Proof.Machine.execCopyImageToDram ctx m s
  | .copyDramToPassage ctx m => Sys2Proof.Machine.execCopyDramToPassage ctx m s
  | .copyDramToDram ctx m => Sys2Proof.Machine.execCopyDramToDram ctx m s
  | .copyImageToImage ctx m => Sys2Proof.Machine.execCopyImageToImage ctx m s
  | .copyZeroToDram ctx m => Sys2Proof.Machine.execCopyZeroToDram ctx m s
  | .seqScatter ctx m => Sys2Proof.Machine.execSeqScatter ctx m s
  | .seqDigest ctx m => Sys2Proof.Machine.execSeqDigest ctx m s
  | .seqLedger ctx m => Sys2Proof.Machine.execSeqLedger ctx m s
  | .seqClose ctx m => Sys2Proof.Machine.execSeqClose ctx m s
  | .recordOpen ctx m => Sys2Proof.Machine.execRecordOpen ctx m s
  | .recordIntent ctx m => Sys2Proof.Machine.execRecordIntent ctx m s
  | .recordVoid ctx m => Sys2Proof.Machine.execRecordVoid ctx m s
  | .seqCommit ctx m => Sys2Proof.Machine.execSeqCommit ctx m s
  | .seqMsg ctx m => Sys2Proof.Machine.execSeqMsg ctx m s
  | .seqWaite ctx m => Sys2Proof.Machine.execSeqWaite ctx m s
  | .seqEvt ctx m => Sys2Proof.Machine.execSeqEvt ctx m s
  | .seqHook ctx m => Sys2Proof.Machine.execSeqHook ctx m s
  | .seqReth ctx m => Sys2Proof.Machine.execSeqReth ctx m s
  | .seqReti ctx m => Sys2Proof.Machine.execSeqReti ctx m s
  | .seqEnd ctx m => Sys2Proof.Machine.execSeqEnd ctx m s
  | .dumpEvent => Sys2Proof.Machine.execDumpEvent s
  | .returnEvent => Sys2Proof.Machine.execReturnEvent s
  | .lossEvent => Sys2Proof.Machine.execLossEvent s
  | .abortEvent => Sys2Proof.Machine.execAbortEvent s
  | .pauseEvent ctx => Sys2Proof.Machine.execPauseEvent ctx s
  | .resumeEvent ctx => Sys2Proof.Machine.execResumeEvent ctx s
  | .leaveEvent ctx => Sys2Proof.Machine.execLeaveEvent ctx s
  | .tickEvent ctx => Sys2Proof.Machine.execTickEvent ctx s
  | .doorbell q ctx => Sys2Proof.Machine.execDoorbell q ctx s
  | .msgin => Sys2Proof.Machine.execMsgin s
  | .seqFault ctx cause => Sys2Proof.Machine.execSeqFault ctx cause s
  | .watchdog ctx => Sys2Proof.Machine.execWatchdog ctx s
  | .postCommitTimeout ctx => Sys2Proof.Machine.execPostCommitTimeout ctx s
  | .contextStop q ctx => Sys2Proof.Machine.execContextStop q ctx s
  | .bankSwitch q => Sys2Proof.Machine.execBankSwitch q s
  | .bankCheck q => Sys2Proof.Machine.execBankCheck q s
  | .customerStart q => Sys2Proof.Machine.execCustomerStart q s
  | .ckptPoll => Sys2Proof.Machine.execCkptPoll s
  | .csIndexWrite q v => Sys2Proof.Machine.execCsIndexWrite q v s
  | .csWordWrite q v => Sys2Proof.Machine.execCsWordWrite q v s
  | .tableLoad q => Sys2Proof.Machine.execTableLoad q s
  | .tableLoadEnd lines pcieError => Sys2Proof.Machine.execTableLoadEnd lines pcieError s
  | .coreRestart q => Sys2Proof.Machine.execCoreRestart q s
  | .bootOk q => Sys2Proof.Machine.execBootOk q s
  | .bootWdogExpire => Sys2Proof.Machine.execBootWdogExpire s
  | .coreInterrupt => Sys2Proof.Machine.execCoreInterrupt s
  | .lowHalfStore q addr v => Sys2Proof.Machine.execLowHalfStore q addr v s
  | .highHalfStore q addr v => Sys2Proof.Machine.execHighHalfStore q addr v s
  | .lowHalfLoad q addr => Sys2Proof.Machine.execLowHalfLoad q addr s
  | .nvcKeyWrite q v => Sys2Proof.Machine.execNvcKeyWrite q v s
  | .nvcLock q => Sys2Proof.Machine.execNvcLock q s
  | .nvcProgram q => Sys2Proof.Machine.execNvcProgram q s
  | .nvcSectorErase q => Sys2Proof.Machine.execNvcSectorErase q s
  | .nvcRead q => Sys2Proof.Machine.execNvcRead q s
  | .nvcBlankCheck q => Sys2Proof.Machine.execNvcBlankCheck q s
  | .nvcSetBoot q => Sys2Proof.Machine.execNvcSetBoot q s
  | .nvcSetLevel q => Sys2Proof.Machine.execNvcSetLevel q s
  | .nvcKeyProgram q => Sys2Proof.Machine.execNvcKeyProgram q s
  | .nvcDataWrite q v => Sys2Proof.Machine.execNvcDataWrite q v s
  | .nvcOpDone ok pulses => Sys2Proof.Machine.execNvcOpDone ok pulses s
  | .nvcSuspend q => Sys2Proof.Machine.execNvcSuspend q s
  | .nvcResume q => Sys2Proof.Machine.execNvcResume q s
  | .eraseStarved => Sys2Proof.Machine.execEraseStarved s
  | .pumpGuardTrip => Sys2Proof.Machine.execPumpGuardTrip s
  | .pumpGuardRelease => Sys2Proof.Machine.execPumpGuardRelease s
  | .hello p f b => Sys2Proof.Machine.execHello p f b s
  | .helloSend p => Sys2Proof.Machine.execHelloSend p s
  | .helloTimeout p => Sys2Proof.Machine.execHelloTimeout p s
  | .portLos p => Sys2Proof.Machine.execPortLos p s
  | .unwrap p => Sys2Proof.Machine.execUnwrap p s
  | .pdelayReq p f t1 t2 t3 => Sys2Proof.Machine.execPdelayReq p f t1 t2 t3 s
  | .pdelayResp p f t1 t2 t3 t4 => Sys2Proof.Machine.execPdelayResp p f t1 t2 t3 t4 s
  | .syncSend => Sys2Proof.Machine.execSyncSend s
  | .sync p f b => Sys2Proof.Machine.execSync p f b s
  | .syncHoldover => Sys2Proof.Machine.execSyncHoldover s
  | .portStable => Sys2Proof.Machine.execPortStable s
  | .discover p f lowest count => Sys2Proof.Machine.execDiscover p f lowest count s
  | .discoverTimeout => Sys2Proof.Machine.execDiscoverTimeout s
  | .elect p f master n hop => Sys2Proof.Machine.execElect p f master n hop s
  | .confirm p f master => Sys2Proof.Machine.execConfirm p f master s
  | .beaconSend => Sys2Proof.Machine.execBeaconSend s
  | .beacon p f id podTime => Sys2Proof.Machine.execBeacon p f id podTime s
  | .lost p f lostId senderEast => Sys2Proof.Machine.execLost p f lostId senderEast s
  | .reg p f e => Sys2Proof.Machine.execReg p f e s
  | .regRefresh => Sys2Proof.Machine.execRegRefresh s
  | .squareRingCheck => Sys2Proof.Machine.execSquareRingCheck s
  | .reform q => Sys2Proof.Machine.execReform q s
  | .timeSet q v => Sys2Proof.Machine.execTimeSet q v s
  | .txDescriptorGo q v => Sys2Proof.Machine.execTxDescriptorGo q v s
  | .txCancel q => Sys2Proof.Machine.execTxCancel q s
  | .txGrant d => Sys2Proof.Machine.execTxGrant d s
  | .wrapForceWrite q p v => Sys2Proof.Machine.execWrapForceWrite q p v s
  | .arm q => Sys2Proof.Machine.execArm q s
  | .cenArmRebroadcast => Sys2Proof.Machine.execCenArmRebroadcast s
  | .cenArm p f c t => Sys2Proof.Machine.execCenArm p f c t s
  | .censusCut => Sys2Proof.Machine.execCensusCut s
  | .censusPassStart => Sys2Proof.Machine.execCensusPassStart s
  | .cenDone p f c result units => Sys2Proof.Machine.execCenDone p f c result units s
  | .cenReportTimeout => Sys2Proof.Machine.execCenReportTimeout s
  | .cenRelease q => Sys2Proof.Machine.execCenRelease q s
  | .mgmtReq p f g => Sys2Proof.Machine.execMgmtReq p f g s
  | .mgmtResp p f g => Sys2Proof.Machine.execMgmtResp p f g s
  | .rendezvousWake => Sys2Proof.Machine.execRendezvousWake s
  | .rdvSend p => Sys2Proof.Machine.execRdvSend p s
  | .rdv p f b => Sys2Proof.Machine.execRdv p f b s
  | .rendezvousEnd => Sys2Proof.Machine.execRendezvousEnd s
  | .listenEnd p => Sys2Proof.Machine.execListenEnd p s
  | .fltForceWrite q pg v => Sys2Proof.Machine.execFltForceWrite q pg v s
  | .fltStickyClear q pg v => Sys2Proof.Machine.execFltStickyClear q pg v s
  | .fltClassWrite q pg v => Sys2Proof.Machine.execFltClassWrite q pg v s
  | .graceExpire src => Sys2Proof.Machine.execGraceExpire src s
  | .fenceNow q => Sys2Proof.Machine.execFenceNow q s
  | .sealNow q => Sys2Proof.Machine.execSealNow q s
  | .isolated => Sys2Proof.Machine.execIsolated s
  | .injectionArmWrite q timeReg v => Sys2Proof.Machine.execInjectionArmWrite q timeReg v s
  | .injectionFire => Sys2Proof.Machine.execInjectionFire s
  | .pageEnable q pg v => Sys2Proof.Machine.execPageEnable q pg v s
  | .blockReset q pg v => Sys2Proof.Machine.execBlockReset q pg v s
  | .blockResetDone pg => Sys2Proof.Machine.execBlockResetDone pg s
  | .quiesce q pg v => Sys2Proof.Machine.execQuiesce q pg v s
  | .indexWrite q pg off v => Sys2Proof.Machine.execIndexWrite q pg off v s
  | .readClearAccess q pg off => Sys2Proof.Machine.execReadClearAccess q pg off s
  | .registerWrite q pg off v => Sys2Proof.Machine.execRegisterWrite q pg off v s
  | .powerOnResetEnd => Sys2Proof.Machine.execPowerOnResetEnd s
  | .pgRise pin => Sys2Proof.Machine.execPgRise pin s
  | .domain25SupplyLoss => Sys2Proof.Machine.execDomain25SupplyLoss s
  | .ringPortLinkUp p rate => Sys2Proof.Machine.execRingPortLinkUp p rate s
  | .scrubPace => Sys2Proof.Machine.execScrubPace s
  | .parkedNeighbourRendezvous p b => Sys2Proof.Machine.execParkedNeighbourRendezvous p b s

end Sys2Proof.Machine
end

