-- ==== Sys2Proof/Safety.lean ====
section
/-! DEFINITION. What the statements about a run speak of: canonical forms of the state, what a command leaves unchanged, and the
invariant every step keeps. -/
namespace Sys2Proof.Machine

/-- The memory is in canonical form: addresses strictly rising, no listed byte zero (log 3, DESIGN CHOICE). -/
def Memory.wf (m : List Host.Cell) : Bool := sparseWf (fun _ => (0 : BitVec 8)) m

/-- The register map is in canonical form: keys strictly rising, no entry at its reset value. -/
def Regs.wf (m : Sparse Word) : Bool := sparseWf resetWord m

/-- The invariant of the machine: memory and registers are in canonical form. -/
def State.Inv (s : State) : Prop := Memory.wf s.dram.cells = true ∧ Regs.wf s.regs = true

/-- Every register but those with a key of the list reads in t as in s. -/
def regsKept (ks : List Nat) (s t : State) : Prop := ∀ k, k ∉ ks → getReg t k = getReg s k

/-- The key of a field's own register: entry 0 of the shared bank. -/
def Fld.reg (f : Fld) : Nat := f.key 0 0

/-- Every byte and every poison mark of DRAM is in t as in s. -/
def dramKept (s t : State) : Prop := (∀ a, readByte t a = readByte s a) ∧ t.dram.poison = s.dram.poison

/-- The command completes in a state that has the property. -/
def Completes (r : Res) (p : State → Prop) : Prop := ∃ t, r = .next t ∧ p t

/-- An event of the source, raised now, is acted on at once with class `cls` and does not become raised: the collector runs, the
state is one with every domain powered, the source is unmasked, no escalation is due, no grace applies, and no Census runs. -/
def ActsAtOnce (s : State) (src cls : Nat) : Prop :=
  listedSource src = true ∧ aoUp s = true ∧ mgtUp s = true ∧ s.vault.full = true ∧ isMasked s src = false ∧
    isRaised s src = false ∧
    (fldAt s FLT_ESC_A_N src = 0 ∨ fldAt s FLT_ESC_B_COUNT src + 1 < fldAt s FLT_ESC_A_N src) ∧ classOf s src = cls ∧
    fldAt s FLT_ESC_A_GRACE_US src = 0 ∧ graceRuns s src = false ∧ censusActive s = false

/-- The same for an event that has no action of its own: effective class 0 or 1. -/
def LogsOnly (s : State) (src : Nat) : Prop :=
  listedSource src = true ∧ aoUp s = true ∧ mgtUp s = true ∧ s.vault.full = true ∧ isMasked s src = false ∧
    isRaised s src = false ∧
    (fldAt s FLT_ESC_A_N src = 0 ∨ fldAt s FLT_ESC_B_COUNT src + 1 < fldAt s FLT_ESC_A_N src) ∧ classOf s src ≤ 1

/-- A frame that the ring block takes in at port p: the port is up, the frame check holds, the EtherType and the pod are this
pod's, and the hops are not used up (R297 to R300). -/
def GoodFrame (s : State) (p : RingPort) (f : FrameHdr) : Prop :=
  ringOn s = true ∧ flag s (portFld p RNE_CTL_ENABLE) = true ∧ portLink s p = true ∧ f.fcsOk = true ∧
    f.etype.toNat = fld s RNG_CTL_ETYPE ∧ f.podId.toNat = fld s RNG_CTL_POD_ID ∧ f.hops.toNat < 8192

/-- A good frame of another vault, for this one or for all, that it has not had before. -/
def FreshFrame (s : State) (p : RingPort) (f : FrameHdr) : Prop :=
  GoodFrame s p f ∧ f.origin ≠ vaultId s ∧ isDup s f = false ∧ (f.dest = 0 ∨ f.dest = vaultId s)

/-- An own frame that comes back and is removed. -/
def OwnFrameBack (s : State) (p : RingPort) (f : FrameHdr) : Prop :=
  GoodFrame s p f ∧ f.origin = vaultId s ∧ (p = .west ∨ portWrapped s .west = true)

/-- The transmitter of port p is not disabled: in ALLEY its module has 1000BASE-LX (R294). -/
def Transmits (s : State) (p : RingPort) : Prop := s.vault ≠ .alley ∨ (portSt s p).rateErr = false

/-- Frames leave through port p as they are: it has link, transmits and is not wrapped. -/
def PortOpen (s : State) (p : RingPort) : Prop := portLink s p = true ∧ portWrapped s p = false ∧ Transmits s p

/-- No context of the sequencer runs and none has a start request. -/
def contextsStopped (s : State) : Prop :=
  ∀ c : Fin 4, (getCtx s c).run = 0 ∧ (getCtx s c).pend = [] ∧ (getCtx s c).events = []

/-- A core start in this state raises nothing: its half stands, the code flash is idle, no XTAL event is held. -/
def quietStart (s : State) : Prop :=
  s.mgt.op = none ∧ s.mgt.suspended = none ∧ headerOk s s.mgt.next = true ∧ s.rst.xtalHeld = false

end Sys2Proof.Machine
end

