-- ==== Sys2Proof/WellFormed.lean ====
section
/-! DEFINITION. When a command is one that its sender can put on the interface: lengths and numbers that the operand types alone do
not bound. The meanings are total and do not lean on it. -/
namespace Sys2Proof

/-- A register offset: eight-byte registers in a page of 4 KiB (R368). -/
def offsetOk (off : Nat) : Bool := decide (off < 0x1000) && decide (off % 8 = 0)

/-- A page number (R368): 256 pages. -/
def pageOk (pg : Nat) : Bool := decide (pg < 0x100)

/-- An address of a 32-bit access: the register pages take 1 MiB, and the access is aligned (R270). -/
def halfAddrOk (high : Bool) (addr : Nat) : Bool := decide (addr < 0x100000) && decide (addr % 8 = if high then 4 else 0)

/-- A message with its header has at most 64 lines of four slots behind it (R32, R113). -/
def slotsOk (d : List Slot128) : Bool := decide (d.length ≤ 256)

/-- A flit carries sixteen slots (R23). -/
def Flit.wellFormed (f : Flit) : Bool := decide (f.slots.length = 16)

/-- A unit of the largest installation (R86). -/
def unitOk (u : Nat) : Bool := decide (u < 2 ^ 24)

/-- A management group holds one to eight operations (R379). -/
def MgmtGroup.wellFormed (g : MgmtGroup) : Bool := decide (1 ≤ g.ops.length) && decide (g.ops.length ≤ 8)

/-- A fault source: page and source number (R332). -/
def sourceOk (src : Nat) : Bool := decide (src < 256 * 32)

/-- The decoder corrects up to 6 symbols and detects every error of up to 10; only a larger one can escape (R95). -/
def Ecc.possible : Ecc → Bool
  | .clean => true
  | .corrected k => decide (1 ≤ k) && decide (k ≤ 6)
  | .uncorrectable k => decide (7 ≤ k)
  | .miscorrected k _ | .undetected k _ => decide (11 ≤ k)

/-- A page has four codewords (R166). -/
def FlashRead.possible (o : FlashRead) : Bool := (o.hard :: o.soft :: o.levels).all (fun n => decide (n.getD 0 ≤ 4))

/-- The command can be put on the interface. -/
def Instr.wellFormed : Instr → Bool
  | .wr _ _ d | .wrd _ _ d | .add64 _ _ d | .addpair _ _ d | .cas64 _ _ d | .cas128 _ _ d | .exm _ _ d | .exi _ _ d
  | .exd _ _ d => slotsOk d
  | .mirror _ d | .stream _ d | .digest _ d | .repair _ d | .fetchData _ d | .gen _ d | .ownsum _ d => slotsOk d
  | .flitReceive _ f => f.wellFormed
  | .pageLockWrite _ pg _ | .fltForceWrite _ pg _ | .fltStickyClear _ pg _ | .fltClassWrite _ pg _ | .pageEnable _ pg _
  | .blockReset _ pg _ | .quiesce _ pg _ => pageOk pg
  | .blockResetDone pg => pageOk pg
  | .indexWrite _ pg off _ | .registerWrite _ pg off _ => pageOk pg && offsetOk off
  | .readClearAccess _ pg off => pageOk pg && offsetOk off
  | .lowHalfStore _ a _ => halfAddrOk false a
  | .highHalfStore _ a _ => halfAddrOk true a
  | .lowHalfLoad _ a => halfAddrOk false a || halfAddrOk true a
  | .commandSlot _ es => es.all Ecc.possible && decide (es.length ≤ 4)
  | .patrolScrubStep _ e => e.possible
  | .mr4Read _ ts => decide (ts.length = 24)
  | .flashReadDone _ _ o => o.possible
  | .scrubRecheck u | .unitRestored u => unitOk u
  | .graceExpire src => sourceOk src
  | .mgmtReq _ _ g | .mgmtResp _ _ g => g.wellFormed
  | _ => true

end Sys2Proof
end

