-- ==== Sys2Proof/Certificates/Slice0/Obligations.lean ====
section
/-! DEFINITION. The statements for the provers, from the numbered rules of spec/. `Completes r p` says that the outcome r is a next
state with property p; `regsKept` and `dramKept` are the frame of registers and of DRAM. -/
open Sys2Proof Sys2Proof.Machine

/-! The machine. -/

/-- A step runs the command at the front of the queue on the state with the queue's rest, and nothing else. -/
def Obligations.StepRunsFrontCommand : Prop :=
  ∀ (c : Instr) (s : State), step { s with pending := c :: s.pending } = exec c s

/-- With no command waiting one Plaza cycle passes (the model's choice, log 1): 30 of its 1/48 ns. While the management core
is held and pod time is not slewed nothing else changes; a slew that stands out moves pod time by at most one unit of 1/48 ns
in the cycle, toward its end. A core that waits out an instruction, or an access the array holds up, counts its cycle alone; one that
is free takes an enabled interrupt, with the interrupted address in mepc. -/
def Obligations.EmptyQueuePassesOneCycle : Prop :=
  (∀ s : State, s.pending = [] → s.mgt.hart.running = false → s.ring.slewLeft = 0 → Completes (step s) (fun t =>
    t = { s with now := t.now, pod := t.pod } ∧ t.now = s.now + 30 ∧ t.pod = s.pod + 30)) ∧
  (∀ s : State, s.pending = [] → s.mgt.hart.running = false → s.ring.slewAcc < 100000 → Completes (step s) (fun t =>
    t.now = s.now + 30 ∧ (t.pod : Int) = s.pod + 30 + (s.ring.slewLeft - t.ring.slewLeft) ∧
    (s.ring.slewLeft - t.ring.slewLeft).natAbs ≤ 1 ∧ t.ring.slewLeft.natAbs ≤ s.ring.slewLeft.natAbs ∧
    t.regs = s.regs ∧ dramKept s t)) ∧
  (∀ s : State, mgtUp s = true → s.mgt.hart.busy ≠ 0 → Completes (hartCycle s) (fun t =>
    t = { s with mgt := { s.mgt with hart := { s.mgt.hart with mcycle := s.mgt.hart.mcycle + 1, busy := s.mgt.hart.busy - 1 } } })) ∧
  (∀ s : State, s.mgt.hart.busy = 0 → s.mgt.hart.stall = none → interruptReady s = true → Completes (hartCycle s) (fun t =>
    t.mgt.hart.mepc = s.mgt.hart.pc ∧ t.mgt.hart.mcause = 0x8000000B ∧ t.mgt.hart.mcycle = s.mgt.hart.mcycle + 1 ∧
    t.regs = s.regs ∧ dramKept s t))

/-- The invariant of the machine: memory and register map stay in canonical form. -/
def Obligations.StepKeepsCanonicalForms : Prop :=
  ∀ s t : State, s.Inv → step s = .next t → t.Inv

/-- The state after reset meets that invariant: memory and register map are in canonical form. -/
def Obligations.ResetHasCanonicalForms : Prop := State.reset.Inv

/-- What reset leaves of the values the register tables give: BOOT, KERB_HOLD released, and the reset values of six register
fields. That every byte of DRAM then reads zero is the model's choice (log 3). -/
def Obligations.ResetHoldsStatedValues : Prop :=
  State.reset.vault = .boot ∧ fld State.reset PWR_STAT_STATE = 2 ∧ State.reset.pins.kerbHold = false ∧
    fld State.reset BOOT_CFG_REG_WAIT_MS = 800 ∧ fld State.reset BOOT_CFG_WRITE_CAP = 5900 ∧
    fld State.reset ADM_CTL_RESERVE = 32 ∧ fld State.reset DRC_MAP_DENSITY = 0 ∧
    (∀ l : Fin 8, fld State.reset (BLV_CREDIT_RX_FREE.inst l.val) = 4096) ∧
    State.reset.dram.frozen = false ∧ (∀ a, readByte State.reset a = 0)

/-! The fault collector. -/

/-- What a class 3 event leaves: FENCED, KERB_HOLD released, contexts stopped, links idle, no accepted work, the action record. -/
def fencedBy (s t : State) (src : Nat) : Prop :=
  t.vault = .fenced ∧ t.pins.kerbHold = false ∧ contextsStopped t ∧ t.adm.flights = [] ∧ t.adm.items = [] ∧
    t.psg.mirrorQ = [] ∧ (∀ l : Fin 8, fld t (BLV_STAT_STATE.inst l.val) = 4) ∧ fld t PSG_STAT_STATE = 4 ∧
    fld t FLT_ACT_FENCE_SOURCE = src ∧ fld t FLT_ACT_FENCE_TIME_POD_TIME = podNs s % 2 ^ 64 ∧
    fld t PWR_STAT_PREV_STATE = stateCode s.vault ∧ dramKept s t

/-- FENCE_NOW, the isolation of the vault and an injected event, each of class 3 without grace, fence the vault. SEAL_NOW at class 4
seals the vault: no context, no work, no grace timer, KERB_HOLD released and every domain but 21 and 25 without power. When a grace
timer ends its timer is gone, and the action is that of the class at that moment: below 2 none, class 3 fences and counts. -/
def Obligations.ClassActionsFenceAndSeal : Prop :=
  (∀ (q : Requester) (s : State), canWrite s q 0x03 = true → ActsAtOnce s srcFenceReq 3 →
    Completes (exec (.fenceNow q) s) (fun t => fencedBy s t srcFenceReq)) ∧
  (∀ s : State, isolatedNow s = true → ActsAtOnce s srcIsolated 3 →
    Completes (exec .isolated s) (fun t => fencedBy s t srcIsolated)) ∧
  (∀ s : State, flag s FLT_INJ_CTL_ARM = true → ActsAtOnce s (fld s FLT_INJ_CTL_SOURCE) 3 →
    Completes (exec .injectionFire s) (fun t => fencedBy s t (fld s FLT_INJ_CTL_SOURCE) ∧
      flag t FLT_INJ_CTL_FIRED = true ∧ flag t FLT_INJ_CTL_ARM = false ∧ flag t FLT_ACT_FENCE_FORCED = true)) ∧
  (∀ (q : Requester) (s : State), canWrite s q 0x03 = true → ActsAtOnce s srcSealReq 4 →
    Completes (exec (.sealNow q) s) (fun t =>
      t.vault = .sealed ∧ t.pins.kerbHold = false ∧ t.pins.enMr = false ∧ t.pins.enCore = false ∧ t.pins.enDram = false ∧
      t.pins.enFlash = false ∧ t.pins.enPcie = s.pins.enPcie ∧ contextsStopped t ∧ t.adm.flights = [] ∧ t.flt.grace = [] ∧
      fld t FLT_ACT_SEAL_SOURCE = srcSealReq ∧ mgtUp t = false ∧ dramKept s t)) ∧
  (∀ (src : Nat) (s : State), mgtUp s = true → graceRuns s src = true → effClass s src < 2 →
    Completes (exec (.graceExpire src) s) (fun t => graceRuns t src = false ∧ t = { s with flt := t.flt } ∧
      t.flt = { s.flt with grace := s.flt.grace.filter (fun g => g.1 ≠ src) })) ∧
  (∀ (src : Nat) (s : State), mgtUp s = true → s.vault.full = true → graceRuns s src = true → effClass s src = 3 →
    censusActive s = false → src < 2 ^ 13 →
    Completes (exec (.graceExpire src) s) (fun t => fencedBy s t src ∧ graceRuns t src = false ∧
      fld t FLT_COUNTS_GRACE_EXP = min (2 ^ 16 - 1) (fld s FLT_COUNTS_GRACE_EXP + 1)))

/-- FLT_CLASS holds three bits for each source, its default class at reset; a write in which no source of the page gets 5, 6 or 7 is
taken, any other leaves the register as it is and sets CFG_ERR. -/
def Obligations.ClassWriteIsTakenWholeOrRefused : Prop :=
  (∀ (q : Requester) (pg : Nat) (v : Word) (s : State), canWriteHdr s q pg = true → pg < 256 →
    (∀ b, b < (sourceClasses pg).length → bitsOf v.toNat (3 * b + 2) (3 * b) ≤ 4) →
    Completes (exec (.fltClassWrite q pg v) s) (fun t =>
      (∀ b, b < (sourceClasses pg).length → classOf t (srcNo pg b) = bitsOf v.toNat (3 * b + 2) (3 * b)) ∧
      regsKept [rkey 0 0 pg 0x038] s t ∧ t = { s with regs := t.regs, mgt := t.mgt })) ∧
  (∀ (q : Requester) (pg b : Nat) (v : Word) (s : State), canWriteHdr s q pg = true → aoUp s = true →
    b < (sourceClasses pg).length → 4 < bitsOf v.toNat (3 * b + 2) (3 * b) →
    exec (.fltClassWrite q pg v) s = .next (dropHalf (raise s srcFltCfgErr) q) ∧
    flag (raise s srcFltCfgErr) (FLT_STICKY_SRC 0x03 7) = true ∧ ∀ src, classOf (raise s srcFltCfgErr) src = classOf s src) ∧
  (∀ pg b : Nat, pg < 256 → b < (sourceClasses pg).length → classOf State.reset (srcNo pg b) = defaultClass (srcNo pg b))

/-- Writing one bit of FLT_FORCE is one forced event of that source; the event of a source of effective class 0 or 1 sets its
sticky bit and the page's fault interrupt, counts, and is logged; the grace timers and everything but registers and the
collector stay. A write of ones to FLT_STICKY clears those bits and handles the events of those sources: their timers stop, and
no other register changes. Arming an injection whose time has passed is one forced event of its source at once; one whose time
is to come waits with ARM at one. A time write while ARM is zero changes that register alone. -/
def Obligations.FaultEventsAreCountedAndHandled : Prop :=
  (∀ (q : Requester) (pg b : Nat) (s : State), canWriteHdr s q pg = true → pg < 256 → LogsOnly s (srcNo pg b) →
    b < (sourceClasses pg).length →
    Completes (exec (.fltForceWrite q pg (BitVec.ofNat 64 (2 ^ b))) s) (fun t =>
      flag t (FLT_STICKY_SRC pg b) = true ∧ flag t (IRQ_PEND_BIT pg 63) = true ∧
      fld t FLT_COUNTS_EVENTS = min (2 ^ 32 - 1) (fld s FLT_COUNTS_EVENTS + 1) ∧
      fld t FLT_COUNTS_FORCED = min (2 ^ 16 - 1) (fld s FLT_COUNTS_FORCED + 1) ∧
      (fld s FLT_LOG_HEAD_NEXT, ⟨BitVec.ofNat 64 (podNs s), srcNo pg b, classOf s (srcNo pg b), true, false, false, 0⟩) ∈
        t.flt.log ∧
      fld t FLT_LOG_HEAD_NEXT = (fld s FLT_LOG_HEAD_NEXT + 1) % 256 ∧
      t = { s with regs := t.regs, flt := t.flt, mgt := t.mgt } ∧ t.flt.grace = s.flt.grace)) ∧
  (∀ (q : Requester) (pg : Nat) (v : Word) (s : State), canWriteHdr s q pg = true → pg < 256 →
    Completes (exec (.fltStickyClear q pg v) s) (fun t =>
      (∀ b, b < (sourceClasses pg).length →
        flag t (FLT_STICKY_SRC pg b) = (flag s (FLT_STICKY_SRC pg b) && !bitAt v.toNat b) ∧
        graceRuns t (srcNo pg b) = (graceRuns s (srcNo pg b) && !bitAt v.toNat b)) ∧
      (∀ src, src / 32 ≠ pg → graceRuns t src = graceRuns s src) ∧
      regsKept [rkey 0 0 pg 0x020] s t ∧ t = { s with regs := t.regs, flt := t.flt, mgt := t.mgt })) ∧
  (∀ (q : Requester) (v : Word) (s : State), canWrite s q 0x07 = true → listedSource (bitsOf v.toNat 12 0) = true →
    bitAt v.toNat 13 = true → podNs s < fld s FLT_INJ_TIME_POD_TIME →
    Completes (exec (.injectionArmWrite q false v) s) (fun t => flag t FLT_INJ_CTL_ARM = true ∧
      fld t FLT_INJ_CTL_SOURCE = bitsOf v.toNat 12 0 ∧ regsKept [FLT_INJ_CTL_ARM.reg] s t ∧
      t = { s with regs := t.regs, mgt := t.mgt })) ∧
  (∀ (q : Requester) (v : Word) (s : State), canWrite s q 0x07 = true → listedSource (bitsOf v.toNat 12 0) = true →
    bitAt v.toNat 13 = true → fld s FLT_INJ_TIME_POD_TIME ≤ podNs s →
    ∃ s1, exec (.injectionArmWrite q false v) s = .next (dropHalf (raiseForced s1 (bitsOf v.toNat 12 0)) q) ∧
      flag s1 FLT_INJ_CTL_ARM = false ∧ flag s1 FLT_INJ_CTL_FIRED = true ∧ regsKept [FLT_INJ_CTL_ARM.reg] s s1 ∧
      s1 = { s with regs := s1.regs }) ∧
  (∀ (q : Requester) (v : Word) (s : State), canWrite s q 0x07 = true → flag s FLT_INJ_CTL_ARM = false →
    Completes (exec (.injectionArmWrite q true v) s) (fun t => fld t FLT_INJ_TIME_POD_TIME = v.toNat ∧
      regsKept [FLT_INJ_TIME_POD_TIME.reg] s t ∧ t = { s with regs := t.regs, mgt := t.mgt }))

/-! Power-up, clocks and resets. -/

/-- What every entry to BOOT leaves: BOOT, LAST_KIND and CAUSE of the kind, no KERB_HOLD, the unlock released, and the core started
on the half that NEXT names. -/
def startedBy (s t : State) (kind cause : Nat) : Prop :=
  t.vault = .boot ∧ fld t BOOT_STAT_LAST_KIND = kind ∧ fld t MGT_STAT_CAUSE = cause ∧ t.pins.kerbHold = false ∧
    flag t NVC_STAT_UNLOCKED = false ∧ flag t MGT_STAT_HALF = s.mgt.next ∧ flag t BOOT_STAT_ROM_WAIT = false ∧
    t.mgt.flash = s.mgt.flash ∧ t.mgt.keyArea = s.mgt.keyArea ∧ t.img.pages = s.img.pages

/-- The enable sequence of a power-up: EN_MR and EN_PCIE at the end of power-on reset and at a retry, EN_CORE once PG_MR and
PG_PCIE are high, EN_DRAM and EN_FLASH once PG_CORE is; a missed PG drops every enable and makes the retry due. The last PG pin
of a power-up boots the vault, and so does a fenced reset, whose enables rise; the code flash, the key area and the image's
pages are kept, by the fenced reset also pod time, the fault log, the grace timers and the control store, while its DRAM reads
as memory that nothing has written (log 3). A fall of the logic rails: FENCED and SEALED go to OFF, latched, with every enable
low; in another state the logic fails where it stands, KERB_HOLD is released and the accepted work is gone. Loss of the supply
of domain 25: OFF, or SHIP from SHIP, with KERB_HOLD, BKUP_EN and every enable low, every register at its reset value and the
code flash, the pages and the records of the image kept. -/
def Obligations.PowerRisesAndFallsInOrder : Prop :=
  (∀ s : State, s.rst.ao = false → Completes (exec .powerOnResetEnd s) (fun t =>
    t.pins = { s.pins with enMr := true, enPcie := true } ∧ t.rst = { s.rst with ao := true } ∧
      flag t CLK_STAT_RC_FALLBACK = true ∧ regsKept [CLK_STAT_RC_FALLBACK.reg] s t ∧
      t = { s with regs := t.regs, pins := t.pins, rst := t.rst })) ∧
  (∀ (g : PgPin) (s : State), poweringUp s = true → pgEnabled s.pins g = true → pgHigh s.pins g = false →
    Completes (exec (.pgRise g) s) (fun t => pgHigh t.pins g = true ∧
      (∀ h, h ≠ g → pgHigh t.pins h = pgHigh s.pins h) ∧
      t.pins.enCore = (s.pins.enCore || (t.pins.pgMr && t.pins.pgPcie)) ∧ t.pins.enDram = (s.pins.enDram || t.pins.pgCore) ∧
      t.pins.enFlash = (s.pins.enFlash || t.pins.pgCore) ∧ t.pins.enMr = s.pins.enMr ∧ t.pins.enPcie = s.pins.enPcie ∧
      t = { s with pins := t.pins })) ∧
  (∀ (g : PgPin) (s : State), poweringUp s = true → pgEnabled s.pins g = true → pgHigh s.pins g = false →
    Completes (exec (.pgTimeout g) s) (fun t => (∀ h, pgEnabled t.pins h = false ∧ pgHigh t.pins h = false) ∧
      t.rst = { s.rst with retry := true } ∧ t = { s with pins := t.pins, rst := t.rst })) ∧
  (∀ s : State, s.rst.retry = true → Completes (exec .powerUpRetry s) (fun t =>
    t = { s with pins := { s.pins with enMr := true, enPcie := true }, rst := { s.rst with retry := false } })) ∧
  (∀ s : State, (s.vault = .off ∨ s.vault = .ship) → lastPgDue s = true → quietStart s →
    Completes (exec .powerGood s) (fun t => startedBy s t 0 0 ∧ (∀ g, pgHigh t.pins g = true))) ∧
  (∀ s : State, s.vault = .fenced → s.rst.fencedReq = true → logicFailed s = false → quietStart s →
    Completes (exec .fencedReset s) (fun t => startedBy s t 2 3 ∧ (∀ a, readByte t a = 0) ∧ t.pod = s.pod ∧
      (∀ pg, pg < 256 → locked t pg = false) ∧ t.mgt.sram = [] ∧ t.adm.flights = [] ∧
      t.flt.log = s.flt.log ∧ t.flt.grace = s.flt.grace ∧ t.seq.bankA = s.seq.bankA ∧ t.seq.bankB = s.seq.bankB ∧
      t.rst.fromFenced = true ∧ t.pins.enDram = true ∧ t.pins.enFlash = true)) ∧
  (∀ (g : PgPin) (s : State), (s.vault = .fenced ∨ s.vault = .sealed) → aoUp s = true → pgEnabled s.pins g = true →
    pgHigh s.pins g = true → Completes (exec (.logicRailFall g) s) (fun t => t.vault = .off ∧ t.rst.offLatched = true ∧
      t.pins.kerbHold = false ∧ (∀ h, pgEnabled t.pins h = false) ∧ dramKept s t)) ∧
  (∀ (g : PgPin) (s : State), s.vault ≠ .fenced → s.vault ≠ .sealed → aoUp s = true → pgEnabled s.pins g = true →
    pgHigh s.pins g = true → Completes (exec (.logicRailFall g) s) (fun t => t.vault = s.vault ∧ logicFailed t = true ∧
      t.pins.kerbHold = false ∧ t.adm.flights = [] ∧ t.adm.items = [] ∧ regsKept [PWR_STAT_LOGIC_FAIL.reg] s t ∧
      dramKept s t)) ∧
  (∀ s : State, Completes (exec .domain25SupplyLoss s) (fun t =>
    t.vault = (if s.vault = .ship then .ship else .off) ∧ t.rst.ao = false ∧ (∀ k, getReg t k = resetWord k) ∧ t.pod = 0 ∧
      t.pins.kerbHold = false ∧ t.pins.bkupEn = false ∧ (∀ g, pgEnabled t.pins g = false) ∧ (∀ a, readByte t a = 0) ∧
      t.flt = FltSt.reset ∧ t.mgt.flash = s.mgt.flash ∧ t.img.pages = s.img.pages ∧ t.img.anchors = s.img.anchors))

/-- The crystal: its stop moves domain 25 to its oscillator and raises XTAL; a stable one takes over; one that has not started
raises XTAL, at once where domain 20 runs and held until then otherwise. A PLL that loses lock clears its lock bit, counts, and
raises the source of its own; a quadrant PLL has none, and the ring PLL wraps both ports. -/
def Obligations.CrystalAndPllLossesAreNoted : Prop :=
  (∀ s : State, s.rst.ao = true → ∃ s1, exec .xtalStop s = .next (raise s1 (srcClk 5)) ∧
    flag s1 CLK_STAT_RC_FALLBACK = true ∧ flag s1 CLK_STAT_XTAL_OK = false ∧ regsKept [CLK_STAT_XTAL_OK.reg] s s1 ∧
    s1 = { s with regs := s1.regs }) ∧
  (∀ s : State, s.rst.ao = true → LogsOnly s (srcClk 5) → Completes (exec .xtalStop s) (fun t =>
    flag t CLK_STAT_RC_FALLBACK = true ∧ flag t CLK_STAT_XTAL_OK = false ∧ flag t (FLT_STICKY_SRC 0x01 5) = true ∧ dramKept s t)) ∧
  (∀ s : State, s.rst.ao = true → Completes (exec (.xtalSwitch true) s) (fun t => flag t CLK_STAT_RC_FALLBACK = false ∧
    flag t CLK_STAT_XTAL_OK = true ∧ regsKept [CLK_STAT_XTAL_OK.reg] s t ∧ t = { s with regs := t.regs })) ∧
  (∀ s : State, s.rst.ao = true → mgtUp s = true → exec (.xtalSwitch false) s = .next (raise s (srcClk 5))) ∧
  (∀ s : State, s.rst.ao = true → mgtUp s = false → Completes (exec (.xtalSwitch false) s) (fun t =>
    t = { s with rst := { s.rst with xtalHeld := true } })) ∧
  (∀ (q : Fin 4) (s : State), dataUp s = true → Completes (exec (.pllLockLoss (.quad q)) s) (fun t =>
    bitAt (fld t CLK_STAT_QUAD) q.val = false ∧ (∀ r : Fin 4, r ≠ q → bitAt (fld t CLK_STAT_QUAD) r.val = bitAt (fld s CLK_STAT_QUAD) r.val) ∧
    fld t CLK_LOCK_LOSS_COUNT = min (2 ^ 64 - 1) (fld s CLK_LOCK_LOSS_COUNT + 1) ∧
    regsKept [CLK_STAT_QUAD.reg, CLK_LOCK_LOSS_COUNT.reg] s t ∧ t = { s with regs := t.regs })) ∧
  (∀ (p : Pll) (f : Fld) (n : Nat) (s : State), pllUp s p = true →
    (p, f, n) ∈ [(Pll.core, CLK_STAT_CORE, 0), (.serdes, CLK_STAT_SERDES_TX, 1), (.mgt, CLK_STAT_MGT, 2), (.pcie, CLK_STAT_PCIE, 4)] →
    ∃ s1, exec (.pllLockLoss p) s = .next (raise s1 (srcClk n)) ∧ flag s1 f = false ∧
      fld s1 CLK_LOCK_LOSS_COUNT = min (2 ^ 64 - 1) (fld s CLK_LOCK_LOSS_COUNT + 1) ∧
      regsKept [CLK_STAT_CORE.reg, CLK_LOCK_LOSS_COUNT.reg] s s1 ∧ s1 = { s with regs := s1.regs }) ∧
  (∀ s : State, ringUp s = true → ∃ s1, exec (.pllLockLoss .ring) s =
      .next (raise (wrapPort (wrapPort s1 .east true) .west true) (srcClk 3)) ∧ flag s1 CLK_STAT_RING = false ∧
      fld s1 CLK_LOCK_LOSS_COUNT = min (2 ^ 64 - 1) (fld s CLK_LOCK_LOSS_COUNT + 1) ∧
      regsKept [CLK_STAT_RING.reg, CLK_LOCK_LOSS_COUNT.reg] s s1 ∧ s1 = { s with regs := s1.regs })

/-- The endpoint's and the test logic's resets reset those alone: nothing of the vault changes. -/
def Obligations.OutsideResetsChangeNothingElse : Prop :=
  (∀ s : State, Completes (exec .pcieReset s) (fun t => t = { s with out := s.out ++ [.endpointReset] })) ∧
  (∀ s : State, Completes (exec .testLogicReset s) (fun t => t = { s with out := s.out ++ [.testLogicReset] }))

/-- A reset taken in SERVE, RESTORE, CULDESAC or JOIN: the mirror queue is gone, every context stopped, no accepted request can
answer any more, and the drain runs; DRAM and the vault state stay until it ends. -/
def resetTaken (s t : State) : Prop :=
  t.vault = s.vault ∧ t.psg.mirrorQ = [] ∧ contextsStopped t ∧ (∀ f ∈ t.adm.flights, f.ack = some (2 ^ 33)) ∧
    t.adm.flights.length = s.adm.flights.length ∧ t.adm.items = s.adm.items ∧
    t.rst.drain = some ⟨s.vault, s.psg.mirrorQ.isEmpty⟩ ∧ dramKept s t

/-- A reset request by state, from the register or the pin: taken in SERVE, RESTORE, CULDESAC and JOIN, held in RIDE and DUMP,
discarded in ALLEY, in FENCED the request of the fenced reset, in SEALED nothing; a held one is taken in SERVE and RESTORE. A
warm reset takes effect: BOOT with the DRAM content of the drain, which counts as current exactly if the reset was taken in
SERVE, the drain ended within 4 us and the mirror queue was empty. A later end raises DRAIN_LATE. -/
def Obligations.WarmResetIsTakenAndTakesEffect : Prop :=
  (∀ (q : Requester) (s : State), canWrite s q 0x02 = true → s.rst.drain = none → (s.vault = .serve ∨ s.vault = .restore ∨ s.vault = .culdesac ∨ s.vault = .join) →
    Completes (exec (.warmReset q) s) (fun t => resetTaken s t)) ∧
  (∀ s : State, aoUp s = true → logicFailed s = false → s.rst.drain = none → (s.vault = .serve ∨ s.vault = .restore ∨ s.vault = .culdesac ∨ s.vault = .join) →
    Completes (exec .sysRstNLow s) (fun t => resetTaken s t)) ∧
  (∀ s : State, aoUp s = true → logicFailed s = false → s.rst.drain = none → (s.vault = .ride ∨ s.vault = .dump) →
    Completes (exec .sysRstNLow s) (fun t => flag t BOOT_STAT_RESET_HELD = true ∧ regsKept [BOOT_STAT_RESET_HELD.reg] s t ∧ t = { s with regs := t.regs })) ∧
  (∀ s : State, aoUp s = true → logicFailed s = false → s.rst.drain = none → s.vault = .alley →
    Completes (exec .sysRstNLow s) (fun t => flag t PWR_STAT_RESET_DISCARD = true ∧ regsKept [PWR_STAT_RESET_DISCARD.reg] s t ∧ t = { s with regs := t.regs })) ∧
  (∀ s : State, aoUp s = true → logicFailed s = false → s.rst.drain = none → s.vault = .fenced →
    Completes (exec .sysRstNLow s) (fun t => t = { s with pins := { s.pins with enCore := true }, rst := { s.rst with fencedReq := true } })) ∧
  (∀ s : State, aoUp s = true → s.vault = .sealed → exec .sysRstNLow s = .next s) ∧
  (∀ s : State, (s.vault = .serve ∨ s.vault = .restore) → flag s BOOT_STAT_RESET_HELD = true → logicFailed s = false → s.rst.drain = none →
    Completes (exec .heldResetTaken s) (fun t => resetTaken s t ∧ flag t BOOT_STAT_RESET_HELD = false)) ∧
  (∀ (ns : Nat) (d : Drain) (s : State), s.rst.drain = some d → logicFailed s = false → quietStart (drainItems s) →
      (drainItems s).vault ≠ .boot →
    let kept := decide (d.from_ = .serve) && decide (ns ≤ 4000) && d.mirrorEmpty
    (ns ≤ 4000 → Completes (exec (.warmResetEffect ns) s) (fun t => t.vault = .boot ∧ t.rst.drain = none ∧ t.adm.flights = [] ∧
      fld t BOOT_STAT_LAST_KIND = 1 ∧ ∀ a, readByte t a = readByte (drainItems s) a)) ∧
    ∃ s1, exec (.warmResetEffect ns) s = .next (if ns ≤ 4000 then s1 else raise s1 (srcBoot 0)) ∧
      s1.vault = .boot ∧ fld s1 BOOT_STAT_LAST_KIND = 1 ∧ fld s1 MGT_STAT_CAUSE = 3 ∧ s1.pins.kerbHold = false ∧
      flag s1 BOOT_STAT_DRAM_KEPT = kept ∧ flag s1 BOOT_STAT_MIRROR_DISCARD = !d.mirrorEmpty ∧
      (flag s1 BOOT_STAT_BITMAP_KEPT = true → kept = true) ∧ fld s1 BOOT_TIME_DRAIN_NS = min (2 ^ 32 - 1) ns ∧
      (∀ a, readByte s1 a = readByte (drainItems s) a) ∧ s1.rst.drain = none ∧ s1.pod = (drainItems s).pod)

/-! The ring. -/

/-- A DISCOVER has left East: the vault belongs to no ring, and waits that long for the lap. -/
def discoverSent (wait : Nat) (s t : State) : Prop :=
  t.ring.phase = 1 ∧ t.ring.formed = false ∧ t.ring.wait = wait ∧ fld t RNG_STAT_MEMBERS = 0 ∧
    t.out = s.out ++ [sentFrame .east 0x10 (ownHdr s 0) (.nums [(vaultId s).toNat, 1])] ∧ dramKept s t

/-- Formation, first lap: a vault in no ring sends DISCOVER once both ports are stable; a lower identifier passes on with COUNT
plus one, a higher one ends here; an own token back starts the ELECT lap, or leaves the vault alone where it counted one; a
failed lap is tried again after a doubled wait, and REFORM starts over. Second and third lap: ELECT gives every vault its HOP, N
and the master; back at its origin it sends CONFIRM; CONFIRM makes the ring formed, with its origin as master. -/
def Obligations.FormationFindsMasterAndNumbers : Prop :=
  (∀ s : State, ringOn s = true → s.vault ≠ .alley → portSettled s .east = true → portSettled s .west = true →
    ∃ s1, exec .portStable s = .next (if s.ring.formed then s1 else sendDiscover s1) ∧ flag s1 RNE_STAT_STABLE = true ∧
      flag s1 (portFld .west RNE_STAT_STABLE) = true ∧
      regsKept [RNE_STAT_STABLE.reg, (portFld .west RNE_STAT_STABLE).reg] s s1 ∧ s1 = { s with regs := s1.regs }) ∧
  (∀ s : State, ringOn s = true → s.vault ≠ .alley → portSettled s .east = true → portSettled s .west = true → s.ring.formed = true →
    Completes (exec .portStable s) (fun t => flag t RNE_STAT_STABLE = true ∧ flag t (portFld .west RNE_STAT_STABLE) = true ∧
      regsKept [RNE_STAT_STABLE.reg, (portFld .west RNE_STAT_STABLE).reg] s t ∧ t = { s with regs := t.regs })) ∧
  (∀ (p : RingPort) (f : FrameHdr) (lo : Word) (n : BitVec 16) (s : State), FreshFrame s p f → f.dest = 0 →
    lo.toNat < (vaultId s).toNat → s.ring.fwdLowest = none → PortOpen s (otherPort p) →
    Completes (exec (.discover p f lo n) s) (fun t => t.ring.fwdLowest = some lo ∧
      t.out = s.out ++ [sentFrame (otherPort p) 0x10 { f with hops := f.hops + 1 } (.nums [lo.toNat, n.toNat + 1])])) ∧
  (∀ (p : RingPort) (f : FrameHdr) (lo : Word) (n : BitVec 16) (s : State), FreshFrame s p f → (vaultId s).toNat ≤ lo.toNat →
    Completes (exec (.discover p f lo n) s) (fun t => t.out = s.out ∧ t.ring.fwdLowest = s.ring.fwdLowest)) ∧
  (∀ (p : RingPort) (f : FrameHdr) (n : BitVec 16) (s : State), OwnFrameBack s p f → s.ring.phase = 1 → n ≠ 1 →
    PortOpen s .east → Completes (exec (.discover p f (vaultId s) n) s) (fun t => t.ring.phase = 2 ∧ t.ring.lapAt = s.now ∧
      t.out = s.out ++ [sentFrame .east 0x11 (ownHdr s 0) (.nums [(vaultId s).toNat, n.toNat, 0])] ∧
      fld t RNG_LAP_LAST = min (2 ^ 32 - 1) ((s.now - s.ring.lapAt) / 48))) ∧
  (∀ (p : RingPort) (f : FrameHdr) (s : State), OwnFrameBack s p f → s.ring.phase = 1 →
    ∃ s1, exec (.discover p f (vaultId s) 1) s = .next (becomeSolitary s1) ∧
      fld s1 RNG_LAP_LAST = min (2 ^ 32 - 1) ((s.now - s.ring.lapAt) / 48) ∧ s1 = { s with regs := s1.regs, ring := s1.ring }) ∧
  (∀ s : State, s.ring.phase ≠ 0 → exec .discoverTimeout s =
    .next (sendDiscover { s with ring := { s.ring with wait := min 240 (2 * s.ring.wait) } })) ∧
  (∀ (q : Requester) (s : State), canWrite s q 0x90 = true → exec (.reform q) s =
    .next (dropHalf (sendDiscover { s with ring := { s.ring with wait := 15 } }) q)) ∧
  (∀ s : State, ringOn s = true → s.vault ≠ .alley → PortOpen s .east → ∃ s1, sendDiscover s = ringSend s1 0x10 0 (.nums [(vaultId s).toNat, 1]) ∧
    s1.ring.phase = 1 ∧ s1.ring.formed = false ∧ s1.ring.lapAt = s.now ∧ fld s1 RNG_STAT_MEMBERS = 0 ∧
    flag s1 RNG_STAT_MASTER = false ∧ s1.out = s.out ∧
    (s.ring.phase ≠ 0 → Completes (exec .discoverTimeout s) (discoverSent (min 240 (2 * s.ring.wait)) s)) ∧
    (∀ q, canWrite s q 0x90 = true → Completes (exec (.reform q) s) (discoverSent 15 s))) ∧
  (∀ (p : RingPort) (f : FrameHdr) (m : Word) (n hop : BitVec 16) (s : State), FreshFrame s p f →
    n.toNat < 2 ^ 13 → hop.toNat + 1 < 2 ^ 12 →
    ∃ s1, exec (.elect p f m n hop) s = .next (settleTopo s1) ∧ fld s1 RNG_STAT_HOP = hop.toNat + 1 ∧
      fld s1 RNG_STAT_MEMBERS = n.toNat ∧ fld s1 RNG_MASTER_ID = m.toNat ∧ flag s1 RNG_STAT_MASTER = false ∧ s1.ring.phase = 0 ∧
      s1 = { s with regs := s1.regs, ring := s1.ring, out := s1.out }) ∧
  (∀ (p : RingPort) (f : FrameHdr) (m : Word) (n hop : BitVec 16) (s : State), OwnFrameBack s p f → s.ring.phase = 2 →
    n.toNat < 2 ^ 13 → PortOpen s .east → Completes (exec (.elect p f m n hop) s) (fun t => t.ring.phase = 3 ∧
      fld t RNG_STAT_MEMBERS = n.toNat ∧ t.out = s.out ++ [sentFrame .east 0x12 (ownHdr s 0) (.nums [(vaultId s).toNat])] ∧
      t = { s with regs := t.regs, ring := t.ring, out := t.out })) ∧
  (∀ (p : RingPort) (f : FrameHdr) (m : Word) (s : State), FreshFrame s p f →
    ∃ s1, exec (.confirm p f m) s = .next (formedNow s1 (decide (1 < fld s RNG_STAT_MEMBERS))) ∧
      fld s1 RNG_MASTER_ID = m.toNat ∧ flag s1 RNG_STAT_MASTER = false ∧ s1 = { s with regs := s1.regs, ring := s1.ring, out := s1.out } ∧
      (s.vault = .serve → s.ring.keptPartner = none → LogsOnly s (srcRng 2) → Completes (exec (.confirm p f m) s) (fun t =>
        t.ring.formed = true ∧ t.ring.phase = 0 ∧ fld t RNG_MASTER_ID = m.toNat ∧ flag t RNG_STAT_MASTER = false ∧
        t.ring.keptOwn.isSome = true ∧ dramKept s t))) ∧
  (∀ (p : RingPort) (f : FrameHdr) (m : Word) (s : State), OwnFrameBack s p f → s.ring.phase = 3 →
    ∃ s1, exec (.confirm p f m) s = .next (formedNow s1 (decide (1 < fld s RNG_STAT_MEMBERS))) ∧
      fld s1 RNG_STAT_HOP = 0 ∧ flag s1 RNG_STAT_MASTER = true ∧ fld s1 RNG_MASTER_ID = (vaultId s).toNat ∧ s1.ring.formed = true ∧
      s1 = { s with regs := s1.regs, ring := s1.ring, out := s1.out })

/-- HELLO: the neighbour's identifier and what it says of the hop are kept; one that reports the hop wrapped, or no forwarding,
wraps the port here. HELLO_SEND sends the HELLO and the delay request behind it. A port that hears no HELLO, loses its light or
is told to wrap wraps for a cause of its own; one whose causes are gone unwraps, and a port that unwraps or comes up starts the
discovery wait afresh. A solitary vault's BEACON leaves through both ports; a BEACON of another vault ends solitude, and in
ALLEY puts the port back in step. The conventions of log 36 stand behind parked ports and FWD_OK. -/
def Obligations.HellosBeaconsAndPortEventsWrap : Prop :=
  (∀ (p : RingPort) (f : FrameHdr) (b : HelloBody) (s : State), s.vault ≠ .alley → FreshFrame s p f → b.state ≠ 7 →
    ((portSt s p).former = 0 ∨ (portSt s p).former = f.origin) →
    ∃ s1, exec (.hello p f b) s = .next (helloRing (if !b.fwdOk || b.wrappedPort then wrapPort s1 p false else s1) p f.origin b
        (!(portSt s p).helloSeen)) ∧
      fld s1 (portFld p RNE_NEIGH_ID) = f.origin.toNat ∧ (portSt s1 p).helloSeen = true ∧ (portSt s1 p).neighFwdOk = b.fwdOk ∧
      (portSt s1 p).neighWrap = b.wrappedPort ∧ (portSt s1 p).former = f.origin ∧
      flag s1 (portFld p RNE_STAT_NEIGH_PARKED) = false ∧ s1 = { s with regs := s1.regs, ring := s1.ring }) ∧
  (∀ (p : RingPort) (f : FrameHdr) (b : HelloBody) (s : State), s.vault ≠ .alley → FreshFrame s p f → b.state ≠ 7 →
    ((portSt s p).former = 0 ∨ (portSt s p).former = f.origin) → b.fwdOk = true → b.wrappedPort = false →
    s.ring.formed = true → solitary s = false → (portSt s p).helloSeen = true →
    Completes (exec (.hello p f b) s) (fun t => fld t (portFld p RNE_NEIGH_ID) = f.origin.toNat ∧
      (portSt t p).neighFwdOk = true ∧ (portSt t p).neighWrap = false ∧ t.out = s.out ∧ t = { s with regs := t.regs, ring := t.ring })) ∧
  (∀ (p : RingPort) (s : State), ringOn s = true → s.vault ≠ .alley → flag s (portFld p RNE_CTL_ENABLE) = true →
    portLink s p = true → Completes (exec (.helloSend p) s) (fun t =>
      (∃ b : HelloBody, t.out = s.out ++ [sentFrame p 1 (ownHdr s 0) (.hello b),
          sentFrame p 2 { ownHdr s 0 with seq := s.ring.seq + 1 } (.nums [podNs s])] ∧ b.state.toNat = stateCode s.vault ∧
        b.master.toNat = fld s RNG_MASTER_ID ∧ b.wrappedPort = (portSt s p).ownWrap ∧ b.fwdOk = true) ∧
      t.ring = { s.ring with seq := s.ring.seq + 2 } ∧ regsKept [(portFld p RNE_FRAMES_TX).reg] s t ∧
      t = { s with regs := t.regs, out := t.out, ring := t.ring })) ∧
  (∀ (p : RingPort) (s : State), ringOn s = true → s.vault ≠ .alley → flag s (portFld p RNE_CTL_ENABLE) = true →
    ∃ s1, exec (.helloTimeout p) s = .next (wrapPort (raise s1 (srcPort p 1)) p true) ∧ (portSt s1 p).helloSeen = false ∧
      portSt s1 (otherPort p) = portSt s (otherPort p) ∧ s1 = { s with ring := s1.ring }) ∧
  (∀ (p : RingPort) (s : State), ringOn s = true → s.vault ≠ .alley → flag s (portFld p RNE_CTL_ENABLE) = true →
    portWrapped s p = true → LogsOnly s (srcPort p 1) → Completes (exec (.helloTimeout p) s) (fun t => (portSt t p).helloSeen = false ∧
      (portSt t p).ownWrap = true ∧ portWrapped t p = true ∧
      flag t (FLT_STICKY_SRC (portFld p RNE_CTL_ENABLE).page 1) = true ∧ dramKept s t)) ∧
  (∀ (p : RingPort) (s : State), aoUp s = true → flag s (portFld p RNE_CTL_ENABLE) = true →
    ∃ s1, exec (.portLos p) s = .next (let s2 := raise s1 (srcPort p 0)
        if ringOn s2 && decide (s2.vault ≠ .alley) then wrapPort s2 p true else s2) ∧
      portLink s1 p = false ∧ flag s1 (portFld p RNE_STAT_LOS) = true ∧ fld s1 (portFld p RNE_STAT_RATE) = 0 ∧
      (portSt s1 p).helloSeen = false ∧ regsKept [(portFld p RNE_STAT_LOS).reg] s s1 ∧ s1 = { s with regs := s1.regs, ring := s1.ring }) ∧
  (∀ (p : RingPort) (s : State), flag s (portFld p RNE_CTL_ENABLE) = true → portWrapped s p = true → LogsOnly s (srcPort p 0) →
    Completes (exec (.portLos p) s) (fun t => portLink t p = false ∧ flag t (portFld p RNE_STAT_LOS) = true ∧
      fld t (portFld p RNE_STAT_RATE) = 0 ∧ (portSt t p).helloSeen = false ∧
      flag t (FLT_STICKY_SRC (portFld p RNE_CTL_ENABLE).page 0) = true ∧ dramKept s t)) ∧
  (∀ (p : RingPort) (s : State), ringOn s = true → portWrapped s p = true → (portSt s p).helloSeen = true →
    (portSt s p).neighFwdOk = true → (portSt s p).neighWrap = false → portLink s p = true →
    flag s (portFld p RNE_CTL_WRAP_FORCE) = false → flag s (portFld p RNE_STAT_NEIGH_PARKED) = false →
    flag s (portFld p RNE_STAT_LOS) = false → solitary s = false →
    ∃ s1, exec (.unwrap p) s = .next (settleTopo s1) ∧ portWrapped s1 p = false ∧ (portSt s1 p).ownWrap = false ∧
      flag s1 (portFld p RNE_STAT_STABLE) = false ∧ s1.ring.wait = 15 ∧ s1.ring.fwdLowest = none ∧
      regsKept [(portFld p RNE_STAT_WRAPPED).reg] s s1 ∧ s1 = { s with regs := s1.regs, ring := s1.ring } ∧
      (LogsOnly s (srcRng 2) → Completes (exec (.unwrap p) s) (fun t => portWrapped t p = false ∧ (portSt t p).ownWrap = false ∧
        flag t (portFld p RNE_STAT_STABLE) = false ∧ t.ring.wait = 15 ∧ t.ring.fwdLowest = none ∧ dramKept s t))) ∧
  (∀ (q : Requester) (p : RingPort) (v : Word) (s : State), canWrite s q (portFld p RNE_CTL_ENABLE).page = true →
    bitAt v.toNat 0 = true → flag s (portFld p RNE_CTL_ENABLE) = false → bitAt v.toNat 1 = flag s (portFld p RNE_CTL_WRAP_FORCE) →
    ∃ s1, exec (.wrapForceWrite q p v) s = .next (dropHalf (readModule s1 p) q) ∧ flag s1 (portFld p RNE_CTL_ENABLE) = true ∧
      regsKept [(portFld p RNE_CTL_ENABLE).reg] s s1 ∧ s1 = { s with regs := s1.regs }) ∧
  (∀ (q : Requester) (p : RingPort) (v : Word) (s : State), canWrite s q (portFld p RNE_CTL_ENABLE).page = true →
    flag s (portFld p RNE_CTL_ENABLE) = true →
    bitAt v.toNat 0 = true → bitAt v.toNat 1 = true → flag s (portFld p RNE_CTL_WRAP_FORCE) = false →
    ∃ s1, exec (.wrapForceWrite q p v) s = .next (dropHalf (wrapPort s1 p true) q) ∧
      flag s1 (portFld p RNE_CTL_WRAP_FORCE) = true ∧ flag s1 (portFld p RNE_CTL_ENABLE) = true ∧
      regsKept [(portFld p RNE_CTL_ENABLE).reg] s s1 ∧ s1 = { s with regs := s1.regs }) ∧
  (∀ (q : Requester) (p : RingPort) (v : Word) (s : State), canWrite s q (portFld p RNE_CTL_ENABLE).page = true →
    flag s (portFld p RNE_CTL_ENABLE) = true → bitAt v.toNat 1 = flag s (portFld p RNE_CTL_WRAP_FORCE) →
    Completes (exec (.wrapForceWrite q p v) s) (fun t => flag t (portFld p RNE_CTL_ENABLE) = bitAt v.toNat 0 ∧
      (bitAt v.toNat 0 = false → portLink t p = false ∧ fld t (portFld p RNE_STAT_RATE) = 0) ∧
      flag t (portFld p RNE_CTL_WRAP_FORCE) = flag s (portFld p RNE_CTL_WRAP_FORCE) ∧
      regsKept [(portFld p RNE_CTL_ENABLE).reg, (portFld p RNE_STAT_LINK).reg] s t ∧ t = { s with regs := t.regs, mgt := t.mgt })) ∧
  (∀ (p : RingPort) (rate : BitVec 2) (s : State), aoUp s = true → flag s (portFld p RNE_CTL_ENABLE) = true →
    (rate = 1 ∨ rate = 2) → s.vault ≠ .alley → solitary s = false → Completes (exec (.ringPortLinkUp p rate) s) (fun t =>
      portLink t p = true ∧ flag t (portFld p RNE_STAT_LOS) = false ∧ fld t (portFld p RNE_STAT_RATE) = rate.toNat ∧
      flag t (portFld p RNE_STAT_STABLE) = false ∧ t.ring.wait = 15 ∧ t.ring.fwdLowest = none ∧
      regsKept [(portFld p RNE_STAT_LINK).reg] s t ∧ t = { s with regs := t.regs, ring := t.ring })) ∧
  (∀ (p : RingPort) (s : State) (x : PortSt), x = portSt s p → portWrapped s p = true →
    wrapPort s p true = setPortSt s p { x with ownWrap := true }) ∧
  (∀ s : State, s.vault ≠ .alley → solitary s = true → ringOn s = true → flag s RNE_CTL_ENABLE = true →
    flag s (portFld .west RNE_CTL_ENABLE) = true → portLink s .east = true → portLink s .west = true →
    Completes (exec .beaconSend s) (fun t => t.out = s.out ++ [sentFrame .east 0x13 (ownHdr s 0) (.nums [(vaultId s).toNat, podNs s]),
        sentFrame .west 0x13 { ownHdr s 0 with seq := s.ring.seq + 1 } (.nums [(vaultId s).toNat, podNs s])] ∧
      t = { s with regs := t.regs, out := t.out, ring := { s.ring with seq := s.ring.seq + 2 } })) ∧
  (∀ (p : RingPort) (f : FrameHdr) (id pt : Word) (s : State), s.vault ≠ .alley → FreshFrame s p f → solitary s = true →
    id ≠ vaultId s → (flag s RNE_STAT_STABLE && flag s (portFld .west RNE_STAT_STABLE)) = false →
    Completes (exec (.beacon p f id pt) s) (fun t => solitary t = false ∧ t.ring.formed = false ∧ fld t RNG_STAT_MEMBERS = 0)) ∧
  (∀ (p : RingPort) (f : FrameHdr) (id pt : Word) (s : State), s.vault = .alley → FreshFrame s p f →
    Completes (exec (.beacon p f id pt) s) (fun t => (portSt t p).rdvDone = true ∧ (portSt t p).lastRdv = s.now ∧
      fld t (portFld p RNE_RDV_MISSES) = 0 ∧ fld t (portFld p RNE_RDV_MODE) = 0 ∧ portSt t (otherPort p) = portSt s (otherPort p)))

/-- A frame comes in: with no link or the block off nothing happens; a bad frame check, another pod's frame and one out of hops are
discarded and counted; a frame delivered before is counted and not delivered again; an own frame that is back is removed. A frame
for all is delivered once and goes on through the other port with one hop more; a LOST report from one side is kept. The registry: a
REG delivered merges its entry, with G and T never falling but by RESYNCED; the own entry is published on a refresh; a vault whose
partner is not on its ring raises SQUARE_RING in JOIN. -/
def Obligations.RingFramesAreDeliveredOnceAndMerged : Prop :=
  (∀ (p : RingPort) (f : FrameHdr) (x : Word) (e : Bool) (s : State), (ringOn s = false ∨ portLink s p = false) →
    exec (.lost p f x e) s = .next s) ∧
  (∀ (p : RingPort) (f : FrameHdr) (x : Word) (e : Bool) (s : State), GoodFrame s p { f with fcsOk := true } → f.fcsOk = false →
    ∃ s1, exec (.lost p f x e) s = .next (raise s1 (srcPort p 2)) ∧
      fld s1 RNG_DISCARD_COUNT = min (2 ^ 64 - 1) (fld s RNG_DISCARD_COUNT + 1) ∧
      fld s1 (portFld p RNE_FCS_COUNT) = min (2 ^ 64 - 1) (fld s (portFld p RNE_FCS_COUNT) + 1) ∧ s1 = { s with regs := s1.regs }) ∧
  (∀ (p : RingPort) (f : FrameHdr) (x : Word) (e : Bool) (pod : BitVec 32) (s : State), GoodFrame s p { f with podId := pod } →
    f.podId ≠ pod → ∃ s1, exec (.lost p f x e) s = .next (raise s1 (srcRng 3)) ∧
      fld s1 RNG_DISCARD_COUNT = min (2 ^ 64 - 1) (fld s RNG_DISCARD_COUNT + 1) ∧ s1 = { s with regs := s1.regs }) ∧
  (∀ (p : RingPort) (f : FrameHdr) (x : Word) (e : Bool) (s : State), GoodFrame s p { f with hops := 0 } → 8192 ≤ f.hops.toNat →
    Completes (exec (.lost p f x e) s) (fun t =>
      fld t RNG_DISCARD_COUNT = min (2 ^ 64 - 1) (fld s RNG_DISCARD_COUNT + 1) ∧
      fld t (portFld p RNE_FRAMES_RX) = min (2 ^ 32 - 1) (fld s (portFld p RNE_FRAMES_RX) + 1) ∧
      regsKept [RNG_DISCARD_COUNT.reg, (portFld p RNE_FRAMES_RX).reg] s t ∧ t = { s with regs := t.regs })) ∧
  (∀ (p : RingPort) (f : FrameHdr) (x : Word) (e : Bool) (s : State), GoodFrame s p f → f.origin ≠ vaultId s →
    isDup s f = true → f.dest = vaultId s → f.dest ≠ 0 → Completes (exec (.lost p f x e) s) (fun t =>
      fld t RNG_DUP_COUNT = min (2 ^ 64 - 1) (fld s RNG_DUP_COUNT + 1) ∧ t.ring.losts = s.ring.losts ∧ t.ring.registry = s.ring.registry ∧
      t.out = s.out)) ∧
  (∀ (p : RingPort) (f : FrameHdr) (x : Word) (e : Bool) (s : State), OwnFrameBack s p f →
    Completes (exec (.lost p f x e) s) (fun t => t.ring.losts = s.ring.losts ∧ t.out = s.out ∧
      regsKept [(portFld p RNE_FRAMES_RX).reg] s t)) ∧
  (∀ (p : RingPort) (f : FrameHdr) (x : Word) (e : Bool) (s : State), FreshFrame s p f → f.dest = 0 →
    PortOpen s (otherPort p) → s.ring.losts.contains (x, !e) = false → (x, e) ∉ s.ring.losts →
    ((dupWin s f).seen = [] → (dupWin s f).high = 0) →
    Completes (exec (.lost p f x e) s) (fun t =>
      t.out = s.out ++ [sentFrame (otherPort p) 0x14 { f with hops := f.hops + 1 } (.nums [x.toNat, b2n e])] ∧
      t.ring.losts = s.ring.losts ++ [(x, e)] ∧ isDup t f = true ∧
      fld t (portFld (otherPort p) RNE_FRAMES_TX) = min (2 ^ 32 - 1) (fld s (portFld (otherPort p) RNE_FRAMES_TX) + 1) ∧
      regsKept [(portFld p RNE_FRAMES_RX).reg, (portFld (otherPort p) RNE_FRAMES_TX).reg] s t ∧
      t = { s with regs := t.regs, out := t.out, ring := t.ring } ∧ t.ring.registry = s.ring.registry)) ∧
  (∀ (p : RingPort) (f : FrameHdr) (e : RegEntry) (s : State), FreshFrame s p f → ∃ s1, exec (.reg p f e) s = .next (mergeIn s1 e) ∧
    s1 = { s with regs := s1.regs, out := s1.out, ring := s1.ring } ∧ s1.ring.registry = s.ring.registry) ∧
  (∀ (p : RingPort) (f : FrameHdr) (e : RegEntry) (s : State), FreshFrame s p f → s.ring.formed = false → e.vaultId ≠ vaultId s →
    e.vaultId ≠ Config.partnerId → e.state ≠ 10 → e.state ≠ 11 → Completes (exec (.reg p f e) s) (fun t =>
      registryFind t e.vaultId = registryFind (mergeIntoRegistry s e) e.vaultId ∧ t.vault = s.vault ∧ dramKept s t)) ∧
  (∀ (e old : RegEntry) (s : State), registryFind s e.vaultId = some old →
    ∃ new, registryFind (mergeIntoRegistry s e) e.vaultId = some new ∧ new.t.toNat = max old.t.toNat e.t.toNat ∧
      (bitAt e.flags.toNat 2 = false → new.g.toNat = max old.g.toNat e.g.toNat) ∧
      (bitAt e.flags.toNat 2 = true → bitAt e.flags.toNat 3 = false → new.g = e.g) ∧
      (bitAt e.flags.toNat 3 = false → new.state = e.state ∧ new.hop = e.hop ∧ new.flags.toNat = e.flags.toNat % 16)) ∧
  (∀ s : State, ringOn s = true → s.vault ≠ .fenced → s.vault ≠ .sealed → PortOpen s .east → Completes (exec .regRefresh s) (fun t => t.ring.keptOwn = some (ownEntry s false) ∧
    t.out = s.out ++ [sentFrame .east 0x20 (ownHdr s 0) (.reg (ownEntry s false))] ∧ t = { s with regs := t.regs, out := t.out, ring := t.ring })) ∧
  (∀ s : State, s.vault = .join → dataUp s = true → psgUp s = true → s.psg.genSeen = true → s.ring.formed = true →
    registryFind s Config.partnerId = none → exec .squareRingCheck s = .next (raise { s with psg := { s.psg with otherRing := true } } (srcPsg 9)) ∧
    (LogsOnly s (srcPsg 9) → Completes (exec .squareRingCheck s) (fun t => t.psg.otherRing = true ∧ t.vault = .join ∧
      flag t (FLT_STICKY_SRC 0x28 9) = true ∧ dramKept s t)))

/-- The delay exchange: a request is answered on its port with its two timestamps; a response gives one measured delay, half of the
exchange's time on the wire plus the asymmetry, and MEAN the average of the last PDELAY_AVG. SYNC: the ring master of a closed or
wrapped ring sends its pod time, closure and Census number East; a vault that receives it steers pod time by the measured error, the
link delay added and the hop's share of the closure taken off, slewed up to STEP_NS and stepped beyond it with STEP raised, or
stepped without at the first SYNC, and is locked; one that gets none, and is no master, holds over and raises TIME_LOST. TIME_SET
moves the ring master's pod time, and no other vault's, nor any while a Census is armed or copying. -/
def Obligations.RingTimeIsMeasuredAndSteered : Prop :=
  (∀ (p : RingPort) (f : FrameHdr) (t1 t2 t3 : Nat) (s : State), FreshFrame s p f → Transmits s p →
    Completes (exec (.pdelayReq p f t1 t2 t3) s) (fun t =>
      t.out = s.out ++ [sentFrame p 3 (ownHdr s 0) (.nums [t2, t3])] ∧ t.ring.seq = s.ring.seq + 1 ∧
      regsKept [(portFld p RNE_FRAMES_RX).reg] s t ∧ t = { s with regs := t.regs, out := t.out, ring := t.ring })) ∧
  (∀ (p : RingPort) (f : FrameHdr) (t1 t2 t3 t4 : Int) (s : State), FreshFrame s p f →
    let d := (t4 - t1 - (t3 - t2)) / 2 + toSigned 32 (fld s (portFld p RNE_DELAY_ASYM))
    let l := (d :: (portSt s p).delays).take (max 1 (fld s TIME_CFG_PDELAY_AVG))
    Completes (exec (.pdelayResp p f t1 t2 t3 t4) s) (fun t => (portSt t p).delays = l ∧
      fld t (portFld p RNE_DELAY_MEAN) = ofSigned 32 (l.foldl (· + ·) 0 / l.length) ∧
      regsKept [(portFld p RNE_FRAMES_RX).reg, (portFld p RNE_DELAY_MEAN).reg] s t ∧
      t = { s with regs := t.regs, ring := t.ring })) ∧
  (∀ s : State, ringOn s = true → s.ring.formed = true → flag s RNG_STAT_MASTER = true → solitary s = false → PortOpen s .east →
    Completes (exec .syncSend s) (fun t =>
      t.out = s.out ++ [sentFrame .east 4 (ownHdr s 0) (.nums [podNs s, 0, toSigned 32 (fld s TIME_STAT_CLOSURE),
        fld s RNG_STAT_MEMBERS, fld s CEN_STAT_NUMBER])] ∧ t.ring = { s.ring with seq := s.ring.seq + 1 } ∧
      regsKept [RNE_FRAMES_TX.reg] s t ∧ t = { s with regs := t.regs, out := t.out, ring := t.ring })) ∧
  (∀ (p : RingPort) (f : FrameHdr) (b : SyncBody) (s : State), FreshFrame s p f → flag s RNG_STAT_MASTER = false → b.n ≠ 0 →
    let e := (b.t0.toNat : Int) * 1000 + b.corr + toSigned 32 (fld s (portFld p RNE_DELAY_MEAN)) -
      (fld s RNG_STAT_HOP : Int) * b.closure / b.n.toNat - podPs s
    (e.natAbs ≤ fld s TIME_CFG_STEP_NS * 1000 ∨ s.ring.firstSync = true ∨ LogsOnly s (srcTime 1)) →
    Completes (exec (.sync p f b) s) (fun t =>
      (if s.ring.firstSync = false ∧ e.natAbs ≤ fld s TIME_CFG_STEP_NS * 1000 then t.pod = s.pod ∧ t.ring.slewLeft = e * 48 / 1000
        else (t.pod : Int) = max 0 ((s.pod : Int) + e * 48 / 1000) ∧ t.ring.slewLeft = 0) ∧
      (s.ring.firstSync = false → fld s TIME_CFG_STEP_NS * 1000 < e.natAbs → flag t (FLT_STICKY_SRC 0x94 1) = true) ∧
      fld t TIME_OFFSET_PS = ofSigned 32 e ∧ fld t TIME_STAT_CLOSURE = ofSigned 32 b.closure ∧
      flag t TIME_STAT_LOCKED = true ∧ flag t TIME_STAT_HOLDOVER = false ∧ t.ring.firstSync = false ∧ t.ring.syncAt = s.now ∧
      dramKept s t ∧ t.vault = s.vault)) ∧
  (∀ s : State, ringOn s = true → flag s RNG_STAT_MASTER = false → flag s TIME_STAT_HOLDOVER = false →
    ∃ s1, exec .syncHoldover s = .next (raise s1 (srcTime 0)) ∧ flag s1 TIME_STAT_LOCKED = false ∧
      flag s1 TIME_STAT_HOLDOVER = true ∧ regsKept [TIME_STAT_LOCKED.reg] s s1 ∧ s1 = { s with regs := s1.regs } ∧
      (LogsOnly s (srcTime 0) → Completes (exec .syncHoldover s) (fun t => flag t TIME_STAT_LOCKED = false ∧
        flag t TIME_STAT_HOLDOVER = true ∧ flag t (FLT_STICKY_SRC 0x94 0) = true ∧ t.pod = s.pod ∧ dramKept s t))) ∧
  (∀ (q : Requester) (v : Word) (s : State), canWrite s q 0x94 = true → flag s RNG_STAT_MASTER = true → censusBusy s = false →
    Completes (exec (.timeSet q v) s) (fun t => podNs t = v.toNat ∧
      t = { s with pod := t.pod, mgt := t.mgt, ring := { s.ring with slewLeft := 0, slewAcc := 0 } })) ∧
  (∀ (q : Requester) (v : Word) (s : State), canWrite s q 0x94 = true → (flag s RNG_STAT_MASTER = false ∨ censusBusy s = true) →
    Completes (exec (.timeSet q v) s) (fun t => t = { s with mgt := t.mgt }))

/-! Parked vaults and the Census. -/

/-- A rendezvous of a parked vault: its wake raises EN_MR, with PG_MR the ring wakes, both ports are due and the events held in
domain 25 are logged. The exchange: an RDV leaves a port that has not heard its neighbour; one that arrives puts the port in
step, and gives pod time where its age (log 16) is the smaller; outside ALLEY it is handled as that of a parked neighbour. The
end of a rendezvous in which both ports exchanged and none listens: the ring sleeps and EN_MR falls; a port that missed it
counts and raises RDV_MISS, and listens from the third; a listen that ends leaves the port beaconing. -/
def Obligations.RendezvousWakesExchangesAndEnds : Prop :=
  (∀ s : State, s.vault = .alley → aoUp s = true → logicFailed s = false → s.ring.awake = false →
    Completes (exec .rendezvousWake s) (fun t => t = { s with pins := { s.pins with enMr := true } })) ∧
  (∀ s : State, s.vault = .alley → logicFailed s = false → s.pins.enMr = true → s.pins.pgMr = false →
    ∃ s1, exec (.pgRise .mr) s = .next (raiseHeldXtal s1) ∧ s1.ring.awake = true ∧ s1.ring.relayed = [] ∧
      (∀ p, (portSt s1 p).rdvDone = false ∧ fld s1 (portFld p RNE_RDV_GUARD_US) = min (2 ^ 32 - 1) (guardUs s p)) ∧
      s1.flt.held = [] ∧ s1.flt.logCount = s.flt.logCount + s.flt.held.length ∧ s1.pins = { s.pins with pgMr := true } ∧
      dramKept s s1 ∧ s1.vault = .alley) ∧
  (∀ (p : RingPort) (s : State), inRendezvous s = true → flag s (portFld p RNE_CTL_ENABLE) = true → portLink s p = true →
    (portSt s p).rdvDone = false → (portSt s p).rateErr = true → Completes (exec (.rdvSend p) s) (fun t => t.out = s.out ∧
      t = { s with ring := { s.ring with seq := s.ring.seq + 1 } })) ∧
  (∀ (p : RingPort) (s : State), inRendezvous s = true → flag s (portFld p RNE_CTL_ENABLE) = true → portLink s p = true →
    (portSt s p).rdvDone = false → Transmits s p → Completes (exec (.rdvSend p) s) (fun t =>
      t.out = s.out ++ [sentFrame p 0x50 (ownHdr s 0) (.rdv (rdvBody s p))] ∧
      t = { s with regs := t.regs, out := t.out, ring := { s.ring with seq := s.ring.seq + 1 } })) ∧
  (∀ (p : RingPort) (f : FrameHdr) (b : RdvBody) (s : State), s.vault = .alley → FreshFrame s p f →
    ∃ s1, exec (.rdv p f b) s = .next (rdvRelay s1 p b) ∧ (portSt s1 p).rdvDone = true ∧ (portSt s1 p).lastRdv = s.now ∧
      fld s1 (portFld p RNE_RDV_MODE) = 0 ∧ fld s1 (portFld p RNE_RDV_MISSES) = 0 ∧
      fld s1 (portFld p RNE_NEIGH_ID) = b.sender.toNat ∧
      flag s1 (portFld p RNE_STAT_NEIGH_PARKED) = b.entries.any (fun e => e.vaultId = b.sender && e.state = 7) ∧
      s1.pod = (if b.age < timeAge s then b.podTime.toNat * 48 else s.pod) ∧
      portSt s1 (otherPort p) = portSt s (otherPort p) ∧ dramKept s s1) ∧
  (∀ (p : RingPort) (f : FrameHdr) (b : RdvBody) (s : State), s.vault = .alley → FreshFrame s p f → b.entries = [] → b.missed = [] →
    (portSt s (otherPort p)).rdvDone = false → Completes (exec (.rdv p f b) s) (fun t => (portSt t p).rdvDone = true ∧
      (portSt t p).lastRdv = s.now ∧ fld t (portFld p RNE_RDV_MODE) = 0 ∧ fld t (portFld p RNE_RDV_MISSES) = 0 ∧
      fld t (portFld p RNE_NEIGH_ID) = b.sender.toNat ∧ flag t (portFld p RNE_STAT_NEIGH_PARKED) = false ∧
      t.pod = (if b.age < timeAge s then b.podTime.toNat * 48 else s.pod) ∧ t.out = s.out ∧ dramKept s t)) ∧
  (∀ (p : RingPort) (f : FrameHdr) (b : RdvBody) (s : State), s.vault ≠ .alley → FreshFrame s p f →
    ∃ s1, exec (.rdv p f b) s = .next (rdvOutside (parkPort s1 p) b) ∧ s1 = { s with regs := s1.regs, ring := s1.ring } ∧
      regsKept [(portFld p RNE_FRAMES_RX).reg] s s1) ∧
  (∀ (p : RingPort) (b : RdvBody) (s : State), ringOn s = true → s.vault ≠ .alley → flag s (portFld p RNE_CTL_ENABLE) = true →
    flag s (portFld p RNE_STAT_NEIGH_PARKED) = true → b.entries = [] → b.missed = [] →
    Completes (exec (.parkedNeighbourRendezvous p b) s) (fun t =>
      (∃ h : RdvBody, t.out = s.out ++ [sentFrame p 0x50 (ownHdr s 0) (.rdv h)] ∧ h.sender = vaultId s) ∧
      portLink t p = false ∧ fld t (portFld p RNE_STAT_RATE) = 0 ∧ t = { s with regs := t.regs, out := t.out, ring := t.ring })) ∧
  (∀ s : State, inRendezvous s = true → (portSt s .east).rdvDone = true → (portSt s .west).rdvDone = true →
    flag s MEAS_STAT_SHIP_PENDING = false → (∀ p, fld s (portFld p RNE_RDV_MODE) ≠ 1) →
    Completes (exec .rendezvousEnd s) (fun t =>
      t = { s with pins := { s.pins with enMr := false, pgMr := false }, ring := { s.ring with awake := false } })) ∧
  (∀ (p : RingPort) (s : State), (portSt s p).rdvDone = false → fld s (portFld p RNE_RDV_MODE) = 0 →
    flag s (portFld p RNE_CTL_ENABLE) = true → ∃ s1,
      missPort s p = (let s2 := raise s1 (srcPort p 3)
        if 3 ≤ fld s2 (portFld p RNE_RDV_MISSES) then setFld s2 (portFld p RNE_RDV_MODE) 1 else s2) ∧
      fld s1 (portFld p RNE_RDV_MISSES) = min 255 (fld s (portFld p RNE_RDV_MISSES) + 1) ∧ s1 = { s with regs := s1.regs }) ∧
  (∀ (p : RingPort) (s : State), inRendezvous s = true → fld s (portFld p RNE_RDV_MODE) = 1 →
    fld s (portFld (otherPort p) RNE_RDV_MODE) ≠ 1 → Completes (exec (.listenEnd p) s) (fun t =>
      fld t (portFld p RNE_RDV_MODE) = 2 ∧ (portSt t p).beacons = 0 ∧ t.ring.awake = false ∧ t.pins.enMr = false ∧
      t = { s with regs := t.regs, ring := t.ring, pins := t.pins }))

/-- Arming: the ring master numbers a Census, announces it and starts its own fill; an arm by another vault, too early or while
one runs changes nothing but ARM_REFUSED. CEN_ARM as a vault receives it: T past, no snapshot but the epoch flips at once; not
serving, busy or too large, no snapshot; else the fill starts. The cut flips the epoch to the Census number mod 4 and gives up a
snapshot that is not filled; a filled one starts to copy once no request of the old epoch waits; the snapshot is released only
after the pass; reports are counted once per vault, and the missing ones when the wait ends. -/
def Obligations.CensusArmsCutsAndPasses : Prop :=
  (∀ (q : Requester) (s : State), canWrite s q 0x93 = true → flag s RNG_STAT_MASTER = true → accepts s 0x93 = true → armBusy s = false →
    podNs s + fld s CEN_CFG_LEAD_MS * 1000000 ≤ (getReg s CEN_T_T.reg).toNat → podNs s < (getReg s CEN_T_T.reg).toNat →
    (s.vault = .serve ∨ s.vault = .restore) → fld s CEN_STAT_STATE = 0 → snapLines s ≤ 2 ^ 29 → PortOpen s .east → flag s RNG_CTL_ENABLE = true →
    Completes (exec (.arm q) s) (fun t =>
      let c : BitVec 32 := BitVec.ofNat 32 (fld s CEN_STAT_NUMBER + 1)
      t.out = s.out ++ [sentFrame .east 0x30 (ownHdr s 0) (.nums [c.toNat, (getReg s CEN_T_T.reg).toNat])] ∧
      t.cen.armed = some (c, getReg s CEN_T_T.reg) ∧ t.cen.master = true ∧ t.cen.snap = true ∧ t.cen.filled = false ∧
      fld t CEN_STAT_NUMBER = c.toNat ∧ fld t CEN_STAT_STATE = 1 ∧ fld t CEN_STAT_RESULT = 0 ∧ fld t CEN_REPORT_DONE = 0 ∧
      9 ∈ (getCtx t 3).pend ∧ fld t CEN_STAT_EPOCH = fld s CEN_STAT_EPOCH ∧ dramKept s t)) ∧
  (∀ (q : Requester) (s : State), canWrite s q 0x93 = true → (flag s RNG_STAT_MASTER = false ∨ armBusy s = true ∨
      (getReg s CEN_T_T.reg).toNat < podNs s + fld s CEN_CFG_LEAD_MS * 1000000) →
    Completes (exec (.arm q) s) (fun t => flag t CEN_STAT_ARM_REFUSED = true ∧ regsKept [CEN_STAT_ARM_REFUSED.reg] s t ∧
      t = { s with regs := t.regs, mgt := t.mgt })) ∧
  (∀ (c : BitVec 32) (x : Word) (s : State), s.cen.armed = some (c, x) → s.cen.master = true → ringOn s = true → PortOpen s .east →
    Completes (exec .cenArmRebroadcast s) (fun t =>
      t.out = s.out ++ [sentFrame .east 0x30 (ownHdr s 0) (.nums [c.toNat, x.toNat])] ∧
      t = { s with regs := t.regs, out := t.out, ring := { s.ring with seq := s.ring.seq + 1 } })) ∧
  (∀ (p : RingPort) (f : FrameHdr) (c : BitVec 32) (x : Word) (s : State), FreshFrame s p f → fld s CEN_STAT_NUMBER ≠ c.toNat →
    x.toNat ≤ podNs s → ∃ s1, exec (.cenArm p f c x) s = .next (raise s1 (srcCen 1)) ∧ fld s1 CEN_STAT_EPOCH = c.toNat % 4 ∧
      fld s1 CEN_STAT_RESULT = 3 ∧ fld s1 CEN_STAT_NUMBER = c.toNat ∧ s1.cen = s.cen ∧ dramKept s s1) ∧
  (∀ (p : RingPort) (f : FrameHdr) (c : BitVec 32) (x : Word) (s : State), FreshFrame s p f → fld s CEN_STAT_NUMBER ≠ c.toNat →
    podNs s < x.toNat → (s.vault ≠ .serve ∧ s.vault ≠ .restore ∨ fld s CEN_STAT_STATE ≠ 0 ∨ 2 ^ 29 < snapLines s) →
    ∃ s1, exec (.cenArm p f c x) s = .next (raise s1 (srcCen 1)) ∧ fld s1 CEN_STAT_EPOCH = fld s CEN_STAT_EPOCH ∧
      fld s1 CEN_STAT_RESULT = 2 ∧ fld s1 CEN_STAT_NUMBER = c.toNat ∧ s1.cen.armed = some (c, x) ∧ s1.cen.snap = false ∧
      dramKept s s1) ∧
  (∀ (p : RingPort) (f : FrameHdr) (c : BitVec 32) (x : Word) (s : State), FreshFrame s p f → fld s CEN_STAT_NUMBER ≠ c.toNat →
    podNs s < x.toNat → (s.vault = .serve ∨ s.vault = .restore) → fld s CEN_STAT_STATE = 0 → snapLines s ≤ 2 ^ 29 →
    Completes (exec (.cenArm p f c x) s) (fun t => t.cen.armed = some (c, x) ∧ t.cen.snap = true ∧ t.cen.filled = false ∧
      fld t CEN_STAT_STATE = 1 ∧ fld t CEN_STAT_RESULT = 0 ∧ fld t CEN_STAT_NUMBER = c.toNat ∧
      fld t CEN_STAT_EPOCH = fld s CEN_STAT_EPOCH ∧ 9 ∈ (getCtx t 3).pend ∧ dramKept s t)) ∧
  (∀ (c : BitVec 32) (x : Word) (s : State), s.cen.armed = some (c, x) → dataUp s = true → s.cen.snap = true → s.cen.filled = true →
    Completes (exec .censusCut s) (fun t => fld t CEN_STAT_EPOCH = c.toNat % 4 ∧ t.cen = { s.cen with armed := none } ∧
      regsKept [CEN_STAT_EPOCH.reg] s t ∧ fld t CEN_STAT_STATE = fld s CEN_STAT_STATE ∧ t = { s with regs := t.regs, cen := t.cen })) ∧
  (∀ (c : BitVec 32) (x : Word) (s : State), s.cen.armed = some (c, x) → dataUp s = true → s.cen.snap = true → s.cen.filled = false →
    ∃ s1, exec .censusCut s = .next (raise s1 (srcCen 1)) ∧ fld s1 CEN_STAT_EPOCH = c.toNat % 4 ∧ fld s1 CEN_STAT_RESULT = 2 ∧
      fld s1 CEN_STAT_STATE = 0 ∧ s1.cen.snap = false ∧ dramKept s s1) ∧
  (∀ s : State, dataUp s = true → s.cen.snap = true → s.cen.filled = true → s.cen.armed = none → fld s CEN_STAT_STATE = 2 →
    oldEpochWaits s = false → Completes (exec .censusPassStart s) (fun t => fld t CEN_STAT_STATE = 3 ∧ t.cen.passStart = s.pod ∧
      regsKept [CEN_STAT_STATE.reg, CEN_PROG_UNITS_LEFT.reg] s t ∧ t = { s with regs := t.regs, cen := t.cen })) ∧
  (∀ (q : Requester) (s : State), canWrite s q 0x93 = true → fld s CEN_STAT_STATE = 4 → Completes (exec (.cenRelease q) s) (fun t =>
    fld t CEN_STAT_STATE = 0 ∧ regsKept [CEN_STAT_STATE.reg] s t ∧ t = { s with regs := t.regs, mgt := t.mgt })) ∧
  (∀ (q : Requester) (s : State), canWrite s q 0x93 = true → fld s CEN_STAT_STATE ≠ 4 → Completes (exec (.cenRelease q) s) (fun t =>
    t = { s with mgt := t.mgt })) ∧
  (∀ (p : RingPort) (f : FrameHdr) (r : BitVec 4) (u : BitVec 32) (s : State), FreshFrame s p f → s.cen.master = true →
    f.origin ∉ s.cen.reports → s.cen.reports.length < 2 ^ 32 - 1 →
    Completes (exec (.cenDone p f (BitVec.ofNat 32 (fld s CEN_STAT_NUMBER)) r u) s) (fun t =>
      t.cen.reports = s.cen.reports ++ [f.origin] ∧ fld t CEN_REPORT_DONE = s.cen.reports.length + 1 ∧ dramKept s t)) ∧
  (∀ s : State, s.cen.master = true → ringOn s = true → Completes (exec .cenReportTimeout s) (fun t => t.cen.master = false ∧
    fld t CEN_REPORT_MISSING = fld s RNG_STAT_MEMBERS - fld s CEN_REPORT_DONE ∧ regsKept [CEN_REPORT_MISSING.reg] s t ∧
    t = { s with regs := t.regs, cen := t.cen }))

/-! The energy packs. -/

/-- PAKx_EN and PAKx_LEARN_EN of a pack, its bus, and the register field that names its charger. -/
def packEn (s : State) (p : PackId) : Bool := match p with | .a => s.pins.pakEnA | .b => s.pins.pakEnB
def packLearnEn (s : State) (p : PackId) : Bool := match p with | .a => s.pins.pakLearnA | .b => s.pins.pakLearnB
def packBus (p : PackId) : Nat := match p with | .a => 0 | .b => 1
def packCharger (s : State) (p : PackId) : Nat := match p with | .a => fld s MEAS_AUTH_CHG_A | .b => fld s MEAS_AUTH_CHG_B

/-- A capacity that differs from the old one by at most LEARN_LIM percent of it (R230). -/
def withinLearnLim (s : State) (new old : Rat) : Prop :=
  new - old ≤ (fld s MEAS_LEARN_LEARN_LIM : Nat) / 100 * old ∧ old - new ≤ (fld s MEAS_LEARN_LEARN_LIM : Nat) / 100 * old

/-- An update of the estimator ends with E_USE combined from the counted packs (rounding free, log 7) and the proof evaluated on
it; a pack's state of charge moves from the counted charge toward the voltage's by the gain of load or rest, and stays in 0 to
1. A burst moves Z25 by the Z_DIV-th part of the way to the normalised measurement and counts; one in which the current moved is
discarded; Z25 crossing its limit raises IMP_HIGH. A failed reference check raises ADC_ERR and marks the pack. -/
def Obligations.EstimatorFollowsPackAndBurst : Prop :=
  (∀ (a b : PackSample) (s : State), aoUp s = true → ∃ s1, exec (.estimatorUpdate a b) s = .next (floorOff (evalProof s1)) ∧
    fld s1 PWR_E_NEED_E_USE = min (2 ^ 32 - 1) (Config.roundReg (combine s1)) ∧
    s1.pwr.noPack = (!s1.packA.counted && !s1.packB.counted)) ∧
  (∀ (p : PackId) (m : PackSample) (s : State), (getPack s p).present = true → fld s (pakF p PAK_CAP_CAP) ≠ 0 → ocvRises s = true →
    tempWithin s MEAS_TEMP_DIS_LO MEAS_TEMP_DIS_HI m.t = true → fld s (pakF p PAK_STAT_LEARN) = 0 →
    let still := decide (m.i.natAbs ≤ fld s MEAS_FILT_REST_I * 1000)
    let rest := if still then (getPack s p).restUs + m.dt else 0
    let atRest := still && decide (fld s MEAS_FILT_REST_T * 1000000 ≤ rest)
    let socM : Rat := (getPack s p).soc - (m.i : Rat) * (m.dt : Rat) / ((fld s (pakF p PAK_CAP_CAP) : Nat) * 3600000000000)
    let socV := if atRest then ocvInv s ((m.v : Rat) / 1000) else ocvInv s ((m.v : Rat) / 1000 + (m.i : Rat) * packZ s p m.t / 10000000)
    let k : Rat := ((if atRest then fld s MEAS_FILT_GAIN_REST else fld s MEAS_FILT_GAIN_LOAD : Nat) : Rat) / 256
    (getPack (updatePack s p m) p).soc = max 0 (min 1 (socM + k * (socV - socM))) ∧
      (getPack (updatePack s p m) p).restUs = rest ∧ flag (updatePack s p m) (pakF p PAK_STAT_REST) = atRest ∧
      fld (updatePack s p m) (pakF p PAK_MEAS_TEMP) = ofSigned 16 m.t ∧
      getPack (updatePack s p m) (otherPack p) = getPack s (otherPack p)) ∧
  (∀ (a b : PackSample) (s : State), aoUp s = true → s.vault ≠ .alley → Completes (exec (.estimatorUpdate a b) s) (fun t =>
    (s.packA.present = true → t.packA.lastV = a.v ∧ t.packA.lastI = a.i ∧ t.packA.lastT = a.t) ∧
    (s.packB.present = true → t.packB.lastV = b.v ∧ t.packB.lastI = b.i ∧ t.packB.lastT = b.t) ∧
    (s.packA.present = false → t.packA.soc = s.packA.soc) ∧ (s.packB.present = false → t.packB.soc = s.packB.soc))) ∧
  (∀ (p : PackId) (v0 i0 v i x : Int) (s : State), aoUp s = true → (getPack s p).present = true → i ≠ i0 → tempScale s x ≠ 0 →
    fld s MEAS_FILT_Z_DIV ≠ 0 →
    let old : Rat := (fld s (pakF p PAK_IMP_Z25) : Nat)
    let n := ((v0 - v : Int) : Rat) / ((i - i0 : Int) : Rat) * 10000 / tempScale s x
    let z := min 65535 (Config.roundReg (max 0 (old + (n - old) / (fld s MEAS_FILT_Z_DIV : Nat))))
    ∃ s1, exec (.impedanceBurstDone p v0 i0 v i x false) s =
        .next (if fld s MEAS_PACK_Z_LIMIT < z then raise s1 (srcPak p 3) else s1) ∧
      fld s1 (pakF p PAK_IMP_Z25) = z ∧ fld s1 (pakF p PAK_IMP_STEPS) = min (pakF p PAK_IMP_STEPS).max (fld s (pakF p PAK_IMP_STEPS) + 1) ∧
      regsKept [(pakF p PAK_IMP_Z25).reg] s s1 ∧ s1 = { s with regs := s1.regs }) ∧
  (∀ (p : PackId) (v0 i0 v i x : Int) (s : State), aoUp s = true → (getPack s p).present = true → i ≠ i0 → tempScale s x ≠ 0 →
    fld s MEAS_FILT_Z_DIV ≠ 0 →
    let old : Rat := (fld s (pakF p PAK_IMP_Z25) : Nat)
    let n := ((v0 - v : Int) : Rat) / ((i - i0 : Int) : Rat) * 10000 / tempScale s x
    let z := min 65535 (Config.roundReg (max 0 (old + (n - old) / (fld s MEAS_FILT_Z_DIV : Nat))))
    z ≤ fld s MEAS_PACK_Z_LIMIT → Completes (exec (.impedanceBurstDone p v0 i0 v i x false) s) (fun t =>
      fld t (pakF p PAK_IMP_Z25) = z ∧ fld t (pakF p PAK_IMP_STEPS) = min (pakF p PAK_IMP_STEPS).max (fld s (pakF p PAK_IMP_STEPS) + 1) ∧
      regsKept [(pakF p PAK_IMP_Z25).reg] s t ∧ t = { s with regs := t.regs })) ∧
  (∀ (p : PackId) (v0 i0 v i x : Int) (s : State), exec (.impedanceBurstDone p v0 i0 v i x true) s = .next s) ∧
  (∀ (p : PackId) (s : State), aoUp s = true → ∃ s1, exec (.adcAutoZero p false) s = .next (recount (raise s1 (srcMeas 1))) ∧
    (getPack s1 p).adcBad = true ∧ regsKept [] s s1) ∧
  (∀ (p : PackId) (s : State), aoUp s = true → ∃ s1, exec (.adcAutoZero p true) s = .next (recount s1) ∧
    (getPack s1 p).adcBad = false ∧ regsKept [] s s1) ∧
  (∀ (p : PackId) (ok : Bool) (s : State), aoUp s = true → Completes (exec (.adcAutoZero p ok) s) (fun t =>
    (getPack t p).adcBad = !ok ∧ (ok = false → (getPack t p).counted = false)))

/-- A removed pack leaves the count with its enable low, its charge and authentication gone and learning ended on both; REMOVED
is raised. An inserted one is authenticated, with its identifier still to be compared; another identifier sets Z25 and CAP to
those of a new pack. An authentication starts with a read of the identifier and a nonce, unless one runs; the periodic one runs
in SERVE and RESTORE and stays due elsewhere; a pass gives status 2, a failed attempt is followed by another up to the third,
and the third failure gives status 3 and AUTH_FAIL. -/
def Obligations.PacksComeGoAndAuthenticate : Prop :=
  (∀ (p : PackId) (s : State), aoUp s = true → (getPack s p).present = true → (getPack s (otherPack p)).counted = true →
    countable s (otherPack p) = true → ∃ s1, exec (.packRemoval p) s = .next (raise s1 (srcPak p 0)) ∧
      (getPack s1 p).present = false ∧ (getPack s1 p).counted = false ∧ (getPack s1 p).attempt = 0 ∧
      fld s1 (pakF p PAK_STAT_AUTH) = 0 ∧ fld s1 (pakF p PAK_STAT_CHG) = 0 ∧
      (∀ r, fld s1 (pakF r PAK_STAT_LEARN) = 0) ∧
      packEn s1 p = false ∧
      (∀ r, fld s (pakF r PAK_STAT_LEARN) ≠ 0 → packLearnEn s1 r = false) ∧ dramKept s s1) ∧
  (∀ (p : PackId) (s : State), aoUp s = true → (getPack s p).present = true → Completes (exec (.packRemoval p) s) (fun t =>
    (getPack t p).present = false ∧ (getPack t p).counted = false ∧ (getPack t p).attempt = 0)) ∧
  (∀ (p : PackId) (v : Int) (s : State), aoUp s = true → (getPack s p).present = false → (getPack s p).attempt = 0 → s.vault.noAuth = false →
    Completes (exec (.packInsertion p v) s) (fun t => (getPack t p).present = true ∧ (getPack t p).qAcc = 0 ∧
      (getPack t p).compare = some v ∧ (getPack t p).lastV = v ∧ (getPack t p).attempt = 1 ∧ fld t (pakF p PAK_STAT_AUTH) = 1 ∧
      flag t (pakF p PAK_STAT_PRESENT) = true ∧ (getPack t p).soc = (getPack s p).soc ∧ dramKept s t ∧
      fld t (pakF p PAK_CAP_CAP) = fld s (pakF p PAK_CAP_CAP))) ∧
  (∀ (q : Requester) (p : PackId) (s : State), canWrite s q (pakPage p) = true → (getPack s p).present = true → s.vault.noAuth = false →
    (getPack s p).attempt = 0 → Completes (exec (.auth q p) s) (fun t => (getPack t p).attempt = 1 ∧ fld t (pakF p PAK_STAT_AUTH) = 1 ∧
      (getPack t p).authBefore.toNat = fld s (pakF p PAK_STAT_AUTH) ∧ (∃ n, t.out = s.out ++ [.smbus (packBus p) 0x72 0,
        .smbus (packBus p) 0x70 n]) ∧ dramKept s t)) ∧
  (∀ (p : PackId) (s : State), aoUp s = true → fld s (pakF p PAK_STAT_AUTH) = 2 → watched s = true → (getPack s p).present = true →
    (getPack s p).attempt = 0 → Completes (exec (.authPeriodic p) s) (fun t => (getPack t p).attempt = 1 ∧
      (getPack t p).authBefore = 2 ∧ fld t (pakF p PAK_STAT_AUTH) = 1)) ∧
  (∀ (p : PackId) (s : State), aoUp s = true → fld s (pakF p PAK_STAT_AUTH) = 2 → watched s = false →
    Completes (exec (.authPeriodic p) s) (fun t => t = setPack s p { getPack s p with authDue := true })) ∧
  (∀ (p : PackId) (id : Word) (r : Slot128) (s : State), aoUp s = true → (getPack s p).attempt ≠ 0 →
    authGood s p (some id) (.answer r) = true → Completes (exec (.authAttemptEnd p (some id) (.answer r)) s) (fun t =>
    (getPack t p).attempt = 0 ∧ fld t (pakF p PAK_STAT_AUTH) = 2)) ∧
  (∀ (p : PackId) (id : Option Word) (o : AuthOutcome) (s : State), aoUp s = true → (getPack s p).attempt ≠ 0 →
    (getPack s p).attempt < 3 → o ≠ .smbusError → authGood s p id o = false → Completes (exec (.authAttemptEnd p id o) s) (fun t => (getPack t p).attempt = (getPack s p).attempt + 1 ∧
      fld t (pakF p PAK_STAT_AUTH) = 1)) ∧
  (∀ (p : PackId) (s : State), aoUp s = true → 3 ≤ (getPack s p).attempt → ∃ s1, exec (.authAttemptEnd p none .timeout) s =
    .next (raise (recount (abandonLearn (abandonLearn s1 .a 7) .b 7)) (srcPak p 1)) ∧ (getPack s1 p).attempt = 0 ∧
      fld s1 (pakF p PAK_STAT_AUTH) = 3 ∧ fld s1 (pakF p PAK_STAT_CHG) = 5) ∧
  (∀ (p : PackId) (id : Word) (v : Int) (s : State), (getPack s p).compare = some v → id ≠ getReg s (pakF p PAK_ID_ID).reg →
    fld (noteId s p id) (pakF p PAK_ID_ID) = id.toNat ∧ (getPack (noteId s p id) p).compare = none ∧
      fld (noteId s p id) (pakF p PAK_IMP_Z25) = fld s MEAS_PACK_Z_NEW ∧
      fld (noteId s p id) (pakF p PAK_CAP_CAP) = fld s MEAS_PACK_NEW_DERATE * fld s MEAS_PACK_NOMINAL_MAH / 256 % 2 ^ 16)

/-- Learning: refused with RESULT 4 and the first condition that fails; started in phase 1; stopped by request with RESULT 3 and
REASON 6, CAP as it was and the discharge pin low. The phases of learning: charged, at rest with charging held, discharging with the
pin high, and the result: a capacity within LEARN_LIM is taken, another rejected with LEARN_REJECT. -/
def Obligations.LearningStartsAndFollowsItsPhases : Prop :=
  (∀ (q : Requester) (p : PackId) (r : Nat) (s : State), canWrite s q (pakPage p) = true → fld s (pakF p PAK_STAT_LEARN) = 0 →
    learnRefuse s p = some r →
    Completes (exec (.learn q p) s) (fun t => fld t (pakF p PAK_LEARN_RESULT) = 4 ∧ fld t (pakF p PAK_LEARN_REASON) = r ∧
      fld t (pakF p PAK_STAT_LEARN) = fld s (pakF p PAK_STAT_LEARN) ∧ regsKept [(pakF p PAK_LEARN_RESULT).reg] s t ∧
      t = { s with regs := t.regs, mgt := t.mgt })) ∧
  (∀ (p : PackId) (s : State), (learnRefuse s p = some 3 ↔ watched s = false ∨ mainPresent s = false)) ∧
  (∀ (q : Requester) (p : PackId) (s : State), canWrite s q (pakPage p) = true → fld s (pakF p PAK_STAT_LEARN) = 0 →
    learnRefuse s p = none →
    ∃ s1, exec (.learn q p) s = .next (dropHalf (recount s1) q) ∧ fld s1 (pakF p PAK_STAT_LEARN) = 1 ∧
      fld s1 (pakF p PAK_LEARN_RESULT) = 0 ∧ countable s1 p = false ∧ s1 = { s with regs := s1.regs }) ∧
  (∀ (q : Requester) (p : PackId) (s : State), canWrite s q (pakPage p) = true → fld s (pakF p PAK_STAT_LEARN) ≠ 0 →
    exec (.learn q p) s = .next (dropHalf s q)) ∧
  (∀ (q : Requester) (p : PackId) (s : State), canWrite s q (pakPage p) = true → fld s (pakF p PAK_STAT_LEARN) ≠ 0 →
    Completes (exec (.learnStop q p) s) (fun t => fld t (pakF p PAK_STAT_LEARN) = 0 ∧ fld t (pakF p PAK_LEARN_RESULT) = 3 ∧
      fld t (pakF p PAK_LEARN_REASON) = 6 ∧ packLearnEn t p = false ∧
      regsKept [(pakF p PAK_STAT_LEARN).reg, (pakF p PAK_LEARN_RESULT).reg] s t ∧
      t = { s with regs := t.regs, pins := t.pins, mgt := t.mgt })) ∧
  (∀ (p : PackId) (s : State), aoUp s = true → fld s (pakF p PAK_STAT_LEARN) = 1 → Completes (exec (.learnChargeEnd p true) s) (fun t =>
    fld t (pakF p PAK_STAT_LEARN) = 2 ∧ fld t (pakF p PAK_STAT_CHG) = 5 ∧ regsKept [(pakF p PAK_STAT_LEARN).reg] s t ∧
    t = { s with regs := t.regs })) ∧
  (∀ (p : PackId) (s : State), aoUp s = true → fld s (pakF p PAK_STAT_LEARN) = 1 → Completes (exec (.learnChargeEnd p false) s) (fun t =>
    fld t (pakF p PAK_STAT_LEARN) = 0 ∧ fld t (pakF p PAK_LEARN_RESULT) = 3 ∧ fld t (pakF p PAK_LEARN_REASON) = 5)) ∧
  (∀ (p : PackId) (s : State), aoUp s = true → fld s (pakF p PAK_STAT_LEARN) = 2 → Completes (exec (.learnRestEnd p) s) (fun t =>
    fld t (pakF p PAK_STAT_LEARN) = 3 ∧ fld t (pakF p PAK_LEARN_Q_MAH) = 0 ∧ (getPack t p).qLearn = 0 ∧
    packLearnEn t p = true ∧
    regsKept [(pakF p PAK_STAT_LEARN).reg, (pakF p PAK_LEARN_Q_MAH).reg] s t)) ∧
  (∀ (p : PackId) (i x : Int) (s : State), aoUp s = true → fld s (pakF p PAK_STAT_LEARN) = 3 →
    let send := ocvInv s ((fld s MEAS_CFG_V_MIN : Nat) + (i : Rat) * packZ s p x / 10000000)
    let new := (getPack s p).qLearn / 1000 / (1 - send)
    let cap : Rat := (fld s (pakF p PAK_CAP_CAP) : Nat)
    send ≠ 1 → withinLearnLim s new cap →
    (fld s MEAS_PACK_NEW_DERATE : Nat) / 256 * (fld s MEAS_PACK_NOMINAL_MAH : Nat) ≤ new →
    Completes (exec (.learnDischargeEnd p i x) s) (fun t => fld t (pakF p PAK_STAT_LEARN) = 4 ∧ fld t (pakF p PAK_LEARN_RESULT) = 1 ∧
      fld t (pakF p PAK_CAP_CAP) = Config.roundReg new % 2 ^ 16 ∧ fld t (pakF p PAK_LEARN_LAST_MAH) = Config.roundReg new % 2 ^ 16 ∧
      packLearnEn t p = false)) ∧
  (∀ (p : PackId) (i x : Int) (s : State), aoUp s = true → fld s (pakF p PAK_STAT_LEARN) = 3 →
    let send := ocvInv s ((fld s MEAS_CFG_V_MIN : Nat) + (i : Rat) * packZ s p x / 10000000)
    let new := (getPack s p).qLearn / 1000 / (1 - send)
    let cap : Rat := (fld s (pakF p PAK_CAP_CAP) : Nat)
    send ≠ 1 → ¬ withinLearnLim s new cap →
    ∃ s1, exec (.learnDischargeEnd p i x) s = .next (raise s1 (srcPak p 5)) ∧ fld s1 (pakF p PAK_LEARN_RESULT) = 2 ∧
      fld s1 (pakF p PAK_CAP_CAP) = fld s (pakF p PAK_CAP_CAP) ∧ fld s1 (pakF p PAK_STAT_LEARN) = 4)

/-- A charger write sends the voltage and the current of the stage, zero current outside the two charging stages, and none of
these two is taken without the main rail; the third failure in a row, and a current that stays off its value, hold charging with
CHG_FAULT. Ship mode: the request is held in ALLEY, refused with CFG_ERR elsewhere, and taken at the end of a rendezvous in
which both ports exchanged (log 41: domain 25 loses its supply in that step). -/
def Obligations.ChargerStagesAndShipRequest : Prop :=
  (∀ (p : PackId) (s : State), aoUp s = true → fld s (pakF p PAK_STAT_LEARN) ≠ 4 →
    let st := chargeStage s p
    let cur := if st = 1 ∨ st = 2 then fld s MEAS_CHG_CHG_I else 0
    Completes (exec (.chargerWrite p true) s) (fun t => fld t (pakF p PAK_STAT_CHG) = st ∧
      fld t (pakF p PAK_CHG_SET_V) = fld s MEAS_CHG_CHG_V ∧ fld t (pakF p PAK_CHG_SET_I) = cur ∧ (getPack t p).chgFails = 0 ∧
      t.out = s.out ++ [.smbus 2 (packCharger s p * 256 + 0x15) (fld s MEAS_CHG_CHG_V), .smbus 2 (packCharger s p * 256 + 0x14) cur] ∧
      regsKept [(pakF p PAK_STAT_CHG).reg, (pakF p PAK_CHG_SET_V).reg] s t)) ∧
  (∀ (p : PackId) (s : State), mainPresent s = false → chargeStage s p ≠ 1 ∧ chargeStage s p ≠ 2) ∧
  (∀ (p : PackId) (s : State), aoUp s = true → (getPack s p).chgFails + 1 < 3 → Completes (exec (.chargerWrite p false) s) (fun t =>
    (getPack t p).chgFails = (getPack s p).chgFails + 1 ∧ regsKept [] s t)) ∧
  (∀ (p : PackId) (s : State), aoUp s = true → 2 ≤ (getPack s p).chgFails → ∃ s1, exec (.chargerWrite p false) s = .next (raise s1 (srcPak p 6)) ∧
    (getPack s1 p).chgHeld = true ∧ fld s1 (pakF p PAK_STAT_CHG) = 5) ∧
  (∀ (p : PackId) (s : State), aoUp s = true → (getPack s p).present = true → ∃ s1, exec (.chargeFault p) s = .next (raise s1 (srcPak p 6)) ∧
    (getPack s1 p).chgHeld = true ∧ fld s1 (pakF p PAK_STAT_CHG) = 5 ∧ regsKept [(pakF p PAK_STAT_CHG).reg] s s1) ∧
  (∀ (p : PackId) (s : State), aoUp s = true → (getPack s p).present = true → Completes (exec (.chargeFault p) s) (fun t =>
    (getPack t p).chgHeld = true ∧ fld t (pakF p PAK_STAT_CHG) = 5)) ∧
  (∀ (q : Requester) (s : State), canWrite s q 0x0B = true → s.vault = .alley → Completes (exec (.ship q) s) (fun t =>
    flag t MEAS_STAT_SHIP_PENDING = true ∧ t.vault = .alley ∧ regsKept [MEAS_STAT_SHIP_PENDING.reg] s t ∧ t = { s with regs := t.regs, mgt := t.mgt })) ∧
  (∀ (q : Requester) (s : State), canWrite s q 0x0B = true → s.vault ≠ .alley → exec (.ship q) s = .next (dropHalf (raise s (srcMeas 2)) q)) ∧
  (∀ s : State, inRendezvous s = true → flag s MEAS_STAT_SHIP_PENDING = true → (∀ p, (portSt s p).rdvDone = true) →
    Completes (exec .rendezvousEnd s) (fun t => t.vault = .ship ∧ t.rst.ao = false ∧ t.pins.kerbHold = false ∧ t.pins.bkupEn = false ∧
      t.pins.pakEnA = false ∧ t.pins.pakEnB = false))

/-! The boot ladder's end and the power watch. -/

/-- BOOT_DONE in BOOT: refused with the first failing condition in DONE_REFUSE, or JOIN with KERB_HOLD driven and both ring
ports enabled; then the source choice. JOIN_LATE is raised where the vault is not ring-ready in time. A registry wait that ends
lets a vault that is older than its partner's record enter CULDESAC, and one whose DRAM is kept and whose partner serves enter
SERVE. JOIN_WAIT that ends in the hold of DUMP or behind SQUARE_RING is noted (log 28). -/
def Obligations.BootDoneEntersJoinAndChoosesSource : Prop :=
  (∀ (q : Requester) (s : State), canWrite s q 0x02 = true → s.vault = .boot → doneRefuse s ≠ 0 →
    ∃ s1, exec (.bootDone q) s = .next (dropHalf (raise s1 (srcBoot 1)) q) ∧ fld s1 BOOT_STAT_DONE_REFUSE = doneRefuse s ∧
      regsKept [BOOT_STAT_DONE_REFUSE.reg] s s1 ∧ s1 = { s with regs := s1.regs }) ∧
  (∀ (q : Requester) (s : State), canWrite s q 0x02 = true → s.vault = .boot → doneRefuse s = 0 →
    ∃ s1, exec (.bootDone q) s = .next (dropHalf (joinDecide s1) q) ∧ s1.vault = .join ∧ s1.pins.kerbHold = true ∧
      flag s1 (portFld .east RNE_CTL_ENABLE) = true ∧ flag s1 (portFld .west RNE_CTL_ENABLE) = true ∧
      fld s1 BOOT_TIME_JOIN_MS = min (2 ^ 32 - 1) ((s.now - s.rst.bootAt) / 48000000) ∧ s1.psg.genSeen = false ∧
      s1.pwr.regWaited = false ∧ s1.pwr.joinWaited = false ∧ dramKept s s1) ∧
  (∀ (q : Requester) (s : State), canWrite s q 0x02 = true → s.vault = .boot → doneRefuse s = 0 → s.rst.fromFenced = false →
    registryFind s Config.partnerId = none → Completes (exec (.bootDone q) s) (fun t => t.vault = .join ∧ t.pins.kerbHold = true ∧
      fld t BOOT_STAT_DONE_REFUSE = 0 ∧ flag t (portFld .east RNE_CTL_ENABLE) = true ∧ flag t (portFld .west RNE_CTL_ENABLE) = true ∧
      fld t BOOT_TIME_JOIN_MS = min (2 ^ 32 - 1) ((s.now - s.rst.bootAt) / 48000000) ∧ dramKept s t)) ∧
  (∀ s : State, dataUp s = true → ringReady s = false → exec .joinLate s = .next (raise s (srcBoot 2))) ∧
  (∀ s : State, dataUp s = true → ringReady s = false → LogsOnly s (srcBoot 2) → Completes (exec .joinLate s) (fun t =>
    flag t (FLT_STICKY_SRC 0x02 2) = true ∧ t.vault = s.vault ∧ t.pins = s.pins ∧ dramKept s t)) ∧
  (∀ s : State, s.vault = .join → dataUp s = true → squareSplit s = false → genOlder s = true →
    s.psg.genSeen = true → Completes (exec .regWaitExpire s) (fun t => t.vault = .culdesac ∧ t.pwr.regWaited = true ∧
      flag t PSG_STAT_RESYNC_DST = true ∧ fld t IMG_RST_STAT_SOURCE = 4 ∧ dramKept s t)) ∧
  (∀ s : State, s.vault = .join → dataUp s = true → squareSplit s = false → flag s BOOT_STAT_DRAM_KEPT = true →
    genOlder s = false → s.psg.genSeen = true → partnerGone s = false → s.psg.partner = some .serve → flag s PWR_STAT_PROVEN = true →
    s.adm.flights = [] → psgLive s = true → Completes (exec .regWaitExpire s) (fun t => t.vault = .serve ∧ fld t IMG_RST_STAT_SOURCE = 3 ∧
      t.pins.kerbHold = true ∧ dramKept s t)) ∧
  (∀ s : State, dataUp s = true → (s.vault = .dump ∧ flag s IMG_RST_STAT_HOLD = true ∨
      s.vault = .join ∧ squareSplit s = true) →
    Completes (exec .joinWaitExpire s) (fun t => t = { s with pwr := { s.pwr with joinWaited := true } }))

/-- A declared loss of the main rail isolates it, records the pod time and arms the back-up; SERVE and RESTORE enter RIDE,
FENCED and SEALED release the back-up, BOOT, JOIN and CULDESAC park, with DRAM read as unwritten (log 3). PWR_SENSE takes
thresholds at least 200 mV apart and refuses others. A qualified return closes the isolation; a RIDE that came from a proven
SERVE goes back to it and the copy is told, ALLEY boots with its enables rising, and in every state but RIDE, ALLEY and DUMP
nothing else follows. The speculative copy starts where both packs are enabled or neither is; the window's end commits to the
dump; the drain freezes DRAM with every link idle; a checkpoint starts or waits for CK_MIN; an abort is ignored, seen or too
late; the hold ends in SERVE where the partner serves with a T no greater, with the enabled links up (log 28). -/
def Obligations.MainLossReturnAndDumpSteps : Prop :=
  (∀ s : State, aoUp s = true → s.vault = .serve → flag s PWR_CTL_BKUP_ARM = false → Completes (exec .bkupRearm s) (fun t =>
    t.pins.bkupEn = true ∧ flag t PWR_CTL_BKUP_ARM = true ∧ flag t PWR_STAT_MAIN_RAW = false ∧
    regsKept [PWR_CTL_BKUP_ARM.reg, PWR_STAT_MAIN_RAW.reg] s t ∧ t = { s with regs := t.regs, pins := t.pins })) ∧
  (∀ s : State, (s.vault = .serve ∨ s.vault = .restore) → s.pins.mainIsoN = true → LogsOnly s srcMainLoss → censusActive s = false →
    Completes (exec .mainLossDeclare s) (fun t => t.vault = .ride ∧ t.pwr.rideFrom = s.vault ∧ mainPresent t = false ∧
      t.pins.mainIsoN = false ∧ t.pins.bkupEn = true ∧ t.pins.kerbHold = true ∧ flag t PWR_STAT_ISO = true ∧
      fld t PWR_LOSS_TIME_POD_TIME = podNs s % 2 ^ 64 ∧
      fld t PWR_COUNTS_RIDES = min PWR_COUNTS_RIDES.max (fld s PWR_COUNTS_RIDES + 1) ∧ evPause ∈ (getCtx t 1).events ∧ dramKept s t)) ∧
  (∀ s : State, aoUp s = true → s.pins.mainIsoN = true → ∃ s1, exec .mainLossDeclare s = .next (actOnLoss (raise s1 srcMainLoss)) ∧
    mainPresent s1 = false ∧ flag s1 PWR_STAT_ISO = true ∧ s1.pins.mainIsoN = false ∧ flag s1 PWR_CTL_BKUP_ARM = true ∧
    s1 = { s with regs := s1.regs, pins := s1.pins }) ∧
  (∀ s : State, logicFailed s = false → (s.vault = .fenced ∨ s.vault = .sealed) → (actOnLoss s).vault = s.vault ∧
    (actOnLoss s).pins.bkupEn = false ∧ (actOnLoss s).pins.pakEnA = false ∧ (actOnLoss s).pins.pakEnB = false) ∧
  (∀ s : State, logicFailed s = false → (s.vault = .boot ∨ s.vault = .join ∨ s.vault = .culdesac) → (actOnLoss s).vault = .alley ∧
    (actOnLoss s).pins.kerbHold = true ∧ (actOnLoss s).pins.enCore = false ∧ contextsStopped (actOnLoss s) ∧
    (∀ a, readByte (actOnLoss s) a = 0)) ∧
  (∀ s : State, aoUp s = true → LogsOnly s srcSenseErr → ∃ s1, exec .senseError s = .next (mainLoss s1 true) ∧
    flag s1 (FLT_STICKY_SRC 0x08 7) = true ∧ flag s1 PWR_STAT_MAIN_RAW = true ∧ s1 = { s with regs := s1.regs, flt := s1.flt }) ∧
  (∀ s : State, (s.vault = .serve ∨ s.vault = .restore) → s.pins.mainIsoN = true → LogsOnly s srcSenseErr → LogsOnly s srcMainLoss →
    censusActive s = false → Completes (exec .senseError s) (fun t => t.vault = .ride ∧ mainPresent t = false ∧
      flag t PWR_STAT_MAIN_RAW = true ∧ t.pins.mainIsoN = false ∧ t.pins.bkupEn = true ∧ flag t (FLT_STICKY_SRC 0x08 7) = true ∧
      fld t PWR_LOSS_TIME_POD_TIME = podNs s % 2 ^ 64 ∧ dramKept s t)) ∧
  (∀ (q : Requester) (v : Word) (s : State), canWrite s q 0x08 = true → locked s 0x08 = false →
    bitsOf v.toNat 31 16 + 20 ≤ bitsOf v.toNat 47 32 → Completes (exec (.pwrSenseWrite q v) s) (fun t =>
      fld t PWR_SENSE_LOSS = bitsOf v.toNat 31 16 ∧ fld t PWR_SENSE_RETURN = bitsOf v.toNat 47 32 ∧
      fld t PWR_SENSE_LOSS_QUAL = bitsOf v.toNat 7 0 ∧ fld t PWR_SENSE_RET_QUAL = bitsOf v.toNat 15 8 ∧
      regsKept [PWR_SENSE_LOSS.reg] s t ∧ t = { s with regs := t.regs, mgt := t.mgt })) ∧
  (∀ (q : Requester) (v : Word) (s : State), canWrite s q 0x08 = true → locked s 0x08 = false →
    bitsOf v.toNat 47 32 < bitsOf v.toNat 31 16 + 20 → exec (.pwrSenseWrite q v) s = .next (dropHalf (raise s srcPwrCfgErr) q)) ∧
  (∀ s : State, aoUp s = true → mainPresent s = false → logicFailed s = false → s.vault = .ride → s.pwr.rideFrom = .serve →
    flag s PWR_STAT_PROVEN = true → Completes (exec .mainReturnQualify s) (fun t => t.vault = .serve ∧ mainPresent t = true ∧
      flag t PWR_STAT_ISO = false ∧ t.pins.mainIsoN = true ∧ t.pins.bkupEn = flag s PWR_CTL_BKUP_ARM ∧
      evReturn ∈ (getCtx t 0).events ∧ evResume ∈ (getCtx t 1).events ∧ dramKept s t)) ∧
  (∀ s : State, aoUp s = true → mainPresent s = false → logicFailed s = false → s.vault = .alley →
    Completes (exec .mainReturnQualify s) (fun t => t.vault = .boot ∧ t.rst.raising = true ∧ t.pins.enMr = true ∧
      t.pins.enPcie = true ∧ t.pins.kerbHold = false ∧ t.pins.mainIsoN = true ∧ mainPresent t = true ∧
      flag t MEAS_STAT_SHIP_PENDING = false ∧
      flag t MEAS_STAT_SHIP_DISCARD = (flag s MEAS_STAT_SHIP_DISCARD || flag s MEAS_STAT_SHIP_PENDING))) ∧
  (∀ s : State, aoUp s = true → mainPresent s = false → s.vault ≠ .ride → s.vault ≠ .alley → s.vault ≠ .dump →
    Completes (exec .mainReturnQualify s) (fun t => mainPresent t = true ∧ flag t PWR_STAT_MAIN_RAW = true ∧
      flag t PWR_STAT_ISO = false ∧ t.pins = { s.pins with mainIsoN := true } ∧ regsKept [PWR_STAT_MAIN.reg] s t ∧
      t = { s with regs := t.regs, pins := t.pins })) ∧
  (∀ s : State, s.vault = .ride → dataUp s = true → flag s PWR_CTL_SPEC_EN = true →
    fld s PWR_RIDE_SPEC_DELAY < fld s PWR_RIDE_WINDOW → s.pins.pakEnA = s.pins.pakEnB →
    Completes (exec .specCopyStart s) (fun t => (getCtx t 0).pend = lins 1 (getCtx s 0).pend ∧ t = { s with seq := t.seq } ∧
      (∀ c : Fin 4, c ≠ 0 → getCtx t c = getCtx s c))) ∧
  (∀ s : State, s.vault = .ride → dataUp s = true → censusActive s = false → s.adm.flights = [] →
    ∃ s1, exec .rideWindowExpire s = .next (raise s1 srcDump) ∧ s1.vault = .dump ∧ fld s1 PSG_STAT_STATE = 4 ∧
      fld s1 PWR_DUMP_STAT_PHASE = 3 ∧ fld s1 PWR_COUNTS_DUMPS = min PWR_COUNTS_DUMPS.max (fld s PWR_COUNTS_DUMPS + 1) ∧
      evDump ∈ (getCtx s1 0).events ∧ (∀ c : Fin 4, c ≠ 0 → evLeave ∈ (getCtx s1 c).events) ∧ s1.pins.kerbHold = true ∧
      s1.pins.bkupEn = true ∧ s1.pwr.dumpStart = s.pod ∧ s1.pwr.log = [] ∧ s1.psg.genSent = false ∧ dramKept s s1) ∧
  (∀ s : State, s.vault = .ride → dataUp s = true → censusActive s = false → s.adm.flights = [] → LogsOnly s srcDump →
    Completes (exec .rideWindowExpire s) (fun t => t.vault = .dump ∧ fld t PSG_STAT_STATE = 4 ∧ fld t PWR_DUMP_STAT_PHASE = 3 ∧
      evDump ∈ (getCtx t 0).events ∧ flag t (FLT_STICKY_SRC 0x08 1) = true ∧ t.pwr.dumpStart = s.pod ∧ dramKept s t)) ∧
  (∀ s : State, s.vault = .dump → dataUp s = true → s.dram.frozen = false → fld s PWR_DUMP_STAT_PHASE = 3 →
    Completes (exec .dumpDrainDone s) (fun t => t.dram.frozen = true ∧ fld t PWR_DUMP_STAT_PHASE = 4 ∧
      (∀ l : Fin 8, fld t (BLV_STAT_STATE.inst l.val) = 4) ∧ fld t PSG_STAT_STATE = 4 ∧
      (s.adm.items = [] → s.adm.plaza = [] → s.adm.flights = [] → s.psg.mirrorQ = [] → s.psg.held = [] → dramKept s t))) ∧
  (∀ (q : Requester) (s : State), canWrite s q 0x08 = true → watched s = true → flag s PWR_STAT_CKPT = false → ckMinPassed s = true →
    Completes (exec (.checkpoint q) s) (fun t => flag t PWR_STAT_CKPT = true ∧ (getCtx t 0).pend = lins 2 (getCtx s 0).pend ∧
      fld t PWR_DUMP_STAT_PHASE = 2 ∧ fld t PWR_DUMP_STAT_UNITS_WRITTEN = 0 ∧
      regsKept [PWR_STAT_CKPT.reg, PWR_DUMP_STAT_PHASE.reg] s t ∧ dramKept s t)) ∧
  (∀ (q : Requester) (s : State), canWrite s q 0x08 = true → watched s = true → flag s PWR_STAT_CKPT = false → ckMinPassed s = false →
    Completes (exec (.checkpoint q) s) (fun t => t = { s with pwr := { s.pwr with ckWait := true }, mgt := t.mgt })) ∧
  (∀ (q : Requester) (s : State), canWrite s q 0x08 = true → mainPresent s = false →
    exec (.abort q) s = .next (dropHalf (raise s srcAbortIgnored) q)) ∧
  (∀ (q : Requester) (s : State), canWrite s q 0x08 = true → mainPresent s = true → s.vault = .dump → flag s IMG_RST_STAT_HOLD = false →
    s.pwr.committed = false → Completes (exec (.abort q) s) (fun t => evAbort ∈ (getCtx t 0).events ∧ t.pwr.abortSeen = true ∧
      t.regs = s.regs ∧ t.dram = s.dram)) ∧
  (∀ (q : Requester) (s : State), canWrite s q 0x08 = true → mainPresent s = true → s.vault = .dump → flag s IMG_RST_STAT_HOLD = false →
    s.pwr.committed = true → Completes (exec (.abort q) s) (fun t => fld t PWR_DUMP_STAT_ABORT_RESULT = 2 ∧
      regsKept [PWR_DUMP_STAT_ABORT_RESULT.reg] s t ∧ t = { s with regs := t.regs, mgt := t.mgt })) ∧
  (∀ s : State, s.vault = .dump → flag s IMG_RST_STAT_HOLD = true → dataUp s = true → s.psg.genSeen = true → partnerGone s = false →
    s.psg.partner = some .dump → s.pwr.joinWaited = false → Completes (exec .dumpHoldEnd s) (fun t =>
      flag t IMG_RST_STAT_JOIN_WAITING = true ∧ regsKept [IMG_RST_STAT_JOIN_WAITING.reg] s t ∧ t = { s with regs := t.regs })) ∧
  (∀ s : State, s.vault = .dump → flag s IMG_RST_STAT_HOLD = true → dataUp s = true → s.psg.genSeen = true → partnerGone s = false →
    s.psg.partner = some .serve → squareT s ≤ fld s PSG_TAKEOVER_T → s.pwr.rideFrom = .serve → flag s PWR_STAT_PROVEN = true →
    s.adm.flights = [] → (∀ l, l < 9 → laneMap s l = 0) → Completes (exec .dumpHoldEnd s) (fun t => t.vault = .serve ∧
      t.dram.frozen = false ∧ flag t IMG_RST_STAT_HOLD = false ∧ fld t PSG_TAKEOVER_T = fld s PSG_TAKEOVER_T ∧
      (s.pwr.ended = some true → fld t IMG_GEN_OPEN_G = (highestGen s + 1) % 2 ^ 64) ∧
      (∀ l, l < 9 → flag s (linkEnable l) = true → fld t (linkState l) = 2) ∧ dramKept s t))

/-! Requests, admission, the Plaza and Zoning. -/

/-- The request commands that name memory, each with its opcode (R36). -/
def requestCmds (l : Fin 8) (h : ReqHdr) (data : List Slot128) : List (Nat × Instr) :=
  [(opRD, .rd l h), (opWR, .wr l h data), (opWRD, .wrd l h data), (opADD64, .add64 l h data), (opADDPAIR, .addpair l h data),
   (opCAS64, .cas64 l h data), (opCAS128, .cas128 l h data), (opEXM, .exm l h data), (opEXI, .exi l h data), (opEXD, .exd l h data)]

/-- The request arrives whole on the link of its enabled port: the link delivers, the header CRC holds, the data slots are those of its
opcode, and its tag is not in use. -/
def ArrivesWhole (s : State) (l : Fin 8) (opc : Nat) (h : ReqHdr) (data : List Slot128) : Prop :=
  linkDelivers s l.val = true ∧ headerCrc (reqBits opc h) = h.crc.toNat ∧ data.length = reqSlots opc (lineCount h.count) ∧
    flightOf s h.tag = none ∧ portFldOf s BLV_PORT_CFG_ENABLE h.port.toNat ≠ 0 ∧ portFldOf s BLV_PORT_CFG_LINK h.port.toNat = l.val

/-- The request as admission sees it, in window w. -/
def requestIn (s : State) (l : Fin 8) (opc : Nat) (h : ReqHdr) (data : List Slot128) (w : Window) : Req :=
  { link := l.val, opc := opc, hdr := h, data := data, n := lineCount h.count, win := w.idx,
    dline := w.dbase + (h.addr.toNat - w.base), pool := fldAt s ZON_TEN_CFG_POOL h.tenant.toNat }

/-- The request passes every row of the decision before admission, in window w alone. -/
def PassesZone (s : State) (opc : Nat) (h : ReqHdr) (data : List Slot128) (w : Window) : Prop :=
  serving s = true ∧ s.rst.drain = none ∧ wellShaped opc h data = true ∧ matchingWindows s h.addr.toNat = [w] ∧
    zoneReason s opc h w = none ∧ s.psg.holdAll = false ∧ (owns s w = true ∨ ownerOnly opc = false ∧ readsHeld s = false) ∧
    (∀ u ∈ reqUnits (w.dbase + (h.addr.toNat - w.base)) (lineCount h.count), unitReady s u = true ∧ restoresNow s u = false) ∧
    reconHolds s (reqUnits (w.dbase + (h.addr.toNat - w.base)) (lineCount h.count)) = false

/-- The conditions under which a request is accepted, and no request accepted before waits for its answer alone. -/
def Accepts (s : State) (l : Fin 8) (opc : Nat) (h : ReqHdr) (data : List Slot128) (w : Window) (k : Walk) : Prop :=
  ArrivesWhole s l opc h data ∧ PassesZone s opc h data w ∧ reasons s (requestIn s l opc h data w) = ([], k) ∧
    ownerWaits s (requestIn s l opc h data w) = [] ∧ (∀ f ∈ s.adm.flights, 0 < f.left)

/-- What acceptance leaves: one flight more, with its deadline and sequence number, the port's next number, the count; DRAM and what
has left the vault stay. -/
def acceptedAs (s : State) (opc : Nat) (h : ReqHdr) (data : List Slot128) (w : Window) (t : State) : Prop :=
  (∃ f, t.adm.flights = s.adm.flights ++ [f] ∧ f.opc = opc ∧ f.hdr = h ∧ f.data = data ∧ f.deadline = deadlineOf s h.port.toNat ∧
    f.dline = w.dbase + (h.addr.toNat - w.base) ∧ f.seq.toNat = portFldOf s BLV_PORT_STAT_NEXT_SEQ h.port.toNat) ∧
  portFldOf t BLV_PORT_STAT_NEXT_SEQ h.port.toNat = (portFldOf s BLV_PORT_STAT_NEXT_SEQ h.port.toNat + 1) % 2 ^ 20 ∧
  fld t ADM_ACCEPTED_COUNT = min ADM_ACCEPTED_COUNT.max (fld s ADM_ACCEPTED_COUNT + 1) ∧ t.out = s.out ∧ dramKept s t

/-- An accepted request becomes a flight with its deadline, the port's next sequence number and the epoch stamp; its items are booked
and NEXT_SEQ advances; DRAM stays. A FENCE books nothing and takes the latest deadline of its port. -/
def Obligations.AcceptedRequestTakesItsPlace : Prop :=
  (∀ (l : Fin 8) (h : ReqHdr) (data : List Slot128) (opc : Nat) (c : Instr) (w : Window) (k : Walk) (s : State),
    (opc, c) ∈ requestCmds l h data → ArrivesWhole s l opc h data → PassesZone s opc h data w →
    reasons s (requestIn s l opc h data w) = ([], k) → ownerWaits s (requestIn s l opc h data w) = [] →
    ∃ (s1 : State) (f : Flight) (new : List Item), exec c s = .next (settle s1) ∧ s1.adm.flights = s.adm.flights ++ [f] ∧
      s1.adm.items = s.adm.items ++ new ∧ f.hdr = h ∧ f.opc = opc ∧ f.data = data ∧ f.arrival = s.now ∧ f.status = 0 ∧
      f.deadline = deadlineOf s h.port.toNat ∧ f.seq.toNat = portFldOf s BLV_PORT_STAT_NEXT_SEQ h.port.toNat ∧
      f.epoch.toNat = fld s CEN_STAT_EPOCH ∧ f.dline = w.dbase + (h.addr.toNat - w.base) ∧ f.n = lineCount h.count ∧
      portFldOf s1 BLV_PORT_STAT_NEXT_SEQ h.port.toNat = (portFldOf s BLV_PORT_STAT_NEXT_SEQ h.port.toNat + 1) % 2 ^ 20 ∧
      fld s1 ADM_ACCEPTED_COUNT = min ADM_ACCEPTED_COUNT.max (fld s ADM_ACCEPTED_COUNT + 1) ∧
      nget s1.adm.portDl h.port.toNat = deadlineOf s h.port.toNat ∧ s1 = { s with regs := s1.regs, adm := s1.adm, draws := s1.draws }) ∧
  (∀ (l : Fin 8) (h : ReqHdr) (s : State), ArrivesWhole s l opFENCE h [] → serving s = true → s.rst.drain = none →
    ∃ (s1 : State) (f : Flight), exec (.fence l h) s = .next (settle (endForwardAll s1 h.port.toNat)) ∧
      s1.adm.flights = s.adm.flights ++ [f] ∧ s1.adm.items = s.adm.items ∧ f.opc = opFENCE ∧ f.left = 0 ∧ f.hdr = h ∧
      f.deadline = max s.now (nget s.adm.portDl h.port.toNat) ∧
      portFldOf s1 BLV_PORT_STAT_NEXT_SEQ h.port.toNat = (portFldOf s BLV_PORT_STAT_NEXT_SEQ h.port.toNat + 1) % 2 ^ 20 ∧
      s1 = { s with regs := s1.regs, adm := s1.adm }) ∧
  (∀ (l : Fin 8) (h : ReqHdr) (w : Window) (k : Walk) (s : State), Accepts s l opRD h [] w k → Completes (exec (.rd l h) s) (acceptedAs s opRD h [] w)) ∧
  (∀ (l : Fin 8) (h : ReqHdr) (data : List Slot128) (w : Window) (k : Walk) (s : State), Accepts s l opWR h data w k → Completes (exec (.wr l h data) s) (acceptedAs s opWR h data w)) ∧
  (∀ (l : Fin 8) (h : ReqHdr) (data : List Slot128) (w : Window) (k : Walk) (s : State), Accepts s l opWRD h data w k → Completes (exec (.wrd l h data) s) (acceptedAs s opWRD h data w)) ∧
  (∀ (l : Fin 8) (h : ReqHdr) (data : List Slot128) (w : Window) (k : Walk) (s : State), Accepts s l opADD64 h data w k → Completes (exec (.add64 l h data) s) (acceptedAs s opADD64 h data w)) ∧
  (∀ (l : Fin 8) (h : ReqHdr) (data : List Slot128) (w : Window) (k : Walk) (s : State), Accepts s l opADDPAIR h data w k → Completes (exec (.addpair l h data) s) (acceptedAs s opADDPAIR h data w)) ∧
  (∀ (l : Fin 8) (h : ReqHdr) (data : List Slot128) (w : Window) (k : Walk) (s : State), Accepts s l opCAS64 h data w k → Completes (exec (.cas64 l h data) s) (acceptedAs s opCAS64 h data w)) ∧
  (∀ (l : Fin 8) (h : ReqHdr) (data : List Slot128) (w : Window) (k : Walk) (s : State), Accepts s l opCAS128 h data w k → Completes (exec (.cas128 l h data) s) (acceptedAs s opCAS128 h data w)) ∧
  (∀ (l : Fin 8) (h : ReqHdr) (data : List Slot128) (w : Window) (k : Walk) (s : State), Accepts s l opEXM h data w k → Completes (exec (.exm l h data) s) (acceptedAs s opEXM h data w)) ∧
  (∀ (l : Fin 8) (h : ReqHdr) (data : List Slot128) (w : Window) (k : Walk) (s : State), Accepts s l opEXI h data w k → Completes (exec (.exi l h data) s) (acceptedAs s opEXI h data w)) ∧
  (∀ (l : Fin 8) (h : ReqHdr) (data : List Slot128) (w : Window) (k : Walk) (s : State), Accepts s l opEXD h data w k → Completes (exec (.exd l h data) s) (acceptedAs s opEXD h data w)) ∧
  (∀ (l : Fin 8) (h : ReqHdr) (s : State), ArrivesWhole s l opFENCE h [] → serving s = true → s.rst.drain = none →
    (∀ f ∈ s.adm.flights, 0 < f.left) → Completes (exec (.fence l h) s) (fun t =>
      portFldOf t BLV_PORT_STAT_NEXT_SEQ h.port.toNat = (portFldOf s BLV_PORT_STAT_NEXT_SEQ h.port.toNat + 1) % 2 ^ 20 ∧
      fld t ADM_ACCEPTED_COUNT = min ADM_ACCEPTED_COUNT.max (fld s ADM_ACCEPTED_COUNT + 1) ∧ t.adm.items = s.adm.items ∧ dramKept s t))

/-- A response of one slot can leave on link l: the link is up, nothing waits ahead, and a transmit credit stands. -/
def RefusalLeaves (s : State) (l : Nat) : Prop :=
  linkIsUp s l = true ∧ (getLink s l).backlog = [] ∧ 1 ≤ fld s (BLV_CREDIT_TX_CREDIT.inst l)

/-- The flit in which a message of at most sixteen slots leaves on link l. -/
def messageFlit (s : State) (l : Nat) (ks : List KindSlot) : TxFlit := (nextFlit (getLink s l) ks none).out (getLink s l) none

/-- A refused request gets one response and no booking: LEN_ERR for a wrong shape, REDIRECT in JOIN, in CULDESAC, during a reset's drain
and of an owner-only operation that is not this vault's, REFUSED_POWER in DUMP with the request logged, ZONE_DENY outside every
window, RETRY_ADMIT with a reason. A header whose CRC fails gets none. -/
def Obligations.RefusedRequestIsAnsweredOnce : Prop :=
  ∀ (l : Fin 8) (h : ReqHdr) (data : List Slot128) (opc : Nat) (c : Instr) (s : State), (opc, c) ∈ requestCmds l h data →
    (linkDelivers s l.val = true → headerCrc (reqBits opc h) ≠ h.crc.toNat → data = [] →
      exec c s = .next (raise (bump s (BLV_HDR_CRC_ERR_COUNT.inst l.val)) (srcBlv l.val 2))) ∧
    (ArrivesWhole s l opc h data → s.vault = .dump → wellShaped opc h data = true →
      exec c s = .next (refuseWith (logRefusal s opc h data) h 3 0)) ∧
    (ArrivesWhole s l opc h data → s.vault ≠ .dump → (wellShaped opc h data = false ∨ s.vault = .join ∨ s.vault = .culdesac ∨ s.rst.drain ≠ none) →
      RefusalLeaves s l.val →
      Completes (exec c s) (fun t => t.out = s.out ++ [.flit l.val
          (messageFlit s l.val (refusal h.port h.tag (if wellShaped opc h data = false then 6 else 4) 0).message)] ∧ t.adm = s.adm ∧ t.dram = s.dram)) ∧
    (∀ w : Window, ArrivesWhole s l opc h data → serving s = true → s.rst.drain = none → wellShaped opc h data = true →
      matchingWindows s h.addr.toNat = [w] → zoneReason s opc h w = none → owns s w = false → ownerOnly opc = true →
      RefusalLeaves s l.val →
      Completes (exec c s) (fun t => t.out = s.out ++ [.flit l.val (messageFlit s l.val (refusal h.port h.tag 4 0).message)] ∧ t.adm = s.adm ∧ t.dram = s.dram)) ∧
    (ArrivesWhole s l opc h data → serving s = true → s.rst.drain = none → wellShaped opc h data = true →
      matchingWindows s h.addr.toNat = [] → ∃ s1, exec c s = .next (refuseWith (raise s1 (srcNo 0x11 1)) h 5 0) ∧
        fld s1 ZON_DENY_LOG_REASON = 1 ∧ fld s1 ZON_DENY_LOG_ADDR = h.addr.toNat ∧
        fld s1 ZON_DENY_CNT_COUNT = min ZON_DENY_CNT_COUNT.max (fld s ZON_DENY_CNT_COUNT + 1) ∧
        s1 = { s with regs := s1.regs, draws := s1.draws }) ∧
    (∀ (w : Window) (x : Reason) (rs : List Reason) (k : Walk), ArrivesWhole s l opc h data → PassesZone s opc h data w →
      reasons s (requestIn s l opc h data w) = (x :: rs, k) → RefusalLeaves s l.val →
      Completes (exec c s) (fun t => (∃ hint, t.out = s.out ++ [.flit l.val (messageFlit s l.val (refusal h.port h.tag 1 hint).message)]) ∧
        fld t ADM_REFUSED_COUNT = min ADM_REFUSED_COUNT.max (fld s ADM_REFUSED_COUNT + 1) ∧ t.adm = s.adm ∧ t.dram = s.dram))

/-- The near-memory operations: ADD64 adds to one word of the line and returns its old value, CAS64 swaps one word where it
equals, ADDPAIR adds packets and bytes each for itself, CAS128 swaps one quarter; every other word or quarter stays. EXI fills
the lowest free entry, EXD clears VALID of the lowest entry that matches, EXI on a match answers status 9, EXM changes nothing.
-/
def Obligations.NearMemoryOperationsTouchTheirEntry : Prop :=
  (∀ (l : Line) (sub : Nat) (d : Slot128), sub < 8 →
    (add64Line l sub d).old.toNat = Line.get l (64 * sub) 64 ∧
    Line.get (add64Line l sub d).line (64 * sub) 64 = (Line.get l (64 * sub) 64 + d.toNat) % 2 ^ 64 ∧
    (∀ k, k < 8 → k ≠ sub → Line.get (add64Line l sub d).line (64 * k) 64 = Line.get l (64 * k) 64)) ∧
  (∀ (l : Line) (sub : Nat) (d : Slot128), sub < 4 →
    Line.get (addpairLine l sub d).line (128 * sub) 40 = (Line.get l (128 * sub) 40 + d.toNat) % 2 ^ 40 ∧
    Line.get (addpairLine l sub d).line (128 * sub + 40) 88 = (Line.get l (128 * sub + 40) 88 + d.toNat / 2 ^ 40) % 2 ^ 88 ∧
    (∀ k, k < 4 → k ≠ sub → Line.get (addpairLine l sub d).line (128 * k) 128 = Line.get l (128 * k) 128)) ∧
  (∀ (l : Line) (sub : Nat) (d : Slot128), sub < 8 →
    (cas64Line l sub d).swapped = decide (Line.get l (64 * sub) 64 = d.toNat % 2 ^ 64) ∧
    Line.get (cas64Line l sub d).line (64 * sub) 64 =
      (if Line.get l (64 * sub) 64 = d.toNat % 2 ^ 64 then d.toNat / 2 ^ 64 else Line.get l (64 * sub) 64) ∧
    (∀ k, k < 8 → k ≠ sub → Line.get (cas64Line l sub d).line (64 * k) 64 = Line.get l (64 * k) 64)) ∧
  (∀ (l : Line) (sub : Nat) (d e : Slot128), sub < 4 →
    Line.get (cas128Line l sub d e).line (128 * sub) 128 =
      (if Line.get l (128 * sub) 128 = d.toNat then e.toNat else Line.get l (128 * sub) 128) ∧
    (∀ k, k < 4 → k ≠ sub → Line.get (cas128Line l sub d e).line (128 * k) 128 = Line.get l (128 * k) 128)) ∧
  (∀ (b : Bucket) (w image k : Nat), bucketHits b w image = [] → (bucketFree b).head? = some k → image < 2 ^ 256 →
    (bucketOp opEXI b w image).status = 0 ∧ (bucketOp opEXI b w image).slot = k ∧
    (bucketOp opEXI b w image).bucket.entry k = image / 2 ^ 32 * 2 ^ 32 + 1 ∧
    (∀ j, j < 8 → j ≠ k → (bucketOp opEXI b w image).bucket.entry j = b.entry j)) ∧
  (∀ (b : Bucket) (w image k : Nat), (bucketHits b w image).head? = some k →
    (bucketOp opEXD b w image).status = 0 ∧ entryValid ((bucketOp opEXD b w image).bucket.entry k) = false ∧
    (∀ j, j < 8 → j ≠ k → (bucketOp opEXD b w image).bucket.entry j = b.entry j) ∧
    (bucketOp opEXI b w image).status = 9 ∧ (bucketOp opEXI b w image).bucket = b ∧
    (bucketOp opEXM b w image).slot = k ∧ (bucketOp opEXM b w image).bucket = b)

/-- The state in the first Plaza cycle from now that connects intermediate j to output k. -/
def grantTime (s : State) (k j : Fin 32) : State := pass (grantCycle s k.val j.val * 30 - s.now) s

/-- No crossing of the Plaza to output k has taken more than 64 cycles by then. -/
def TransitInTime (s : State) (k j : Fin 32) : Prop :=
  (∀ x ∈ s.adm.items, ((grantTime s k j).now - x.entered) / 30 ≤ 64) ∧ (∀ x ∈ s.adm.plaza, ((grantTime s k j).now - x.entered) / 30 ≤ 64) ∧
    (∀ x ∈ s.psg.mirrorQ, ((grantTime s k j).now - x.entered) / 30 ≤ 64)

/-- The resequencing buffer of output k is empty. -/
def NothingHeld (s : State) (k : Fin 32) : Prop :=
  (∀ x ∈ s.adm.items, x.sub = k.val → x.stage ≠ .reseq) ∧ (∀ x ∈ s.adm.plaza, x.output = k.val → x.stage ≠ .reseq) ∧
    (∀ x ∈ s.psg.mirrorQ, subOf s x.line = k.val → x.stage ≠ .reseq)

/-- The Plaza: a boundary brings time to the next 64 ns and recomputes urgencies; a grant moves the winning head on, an item to its
subchannel's queue once no earlier item of its input waits, an internal entry unless it is a duplicate; a cancel before the grant
removes the entry, and one after it is late. -/
def Obligations.PlazaMovesWhatItGrants : Prop :=
  (∀ s : State, Completes (exec .binBoundary s) (fun t => t.now = (s.now / 3072 + 1) * 3072 ∧ (s.ring.slewLeft = 0 → t.pod = s.pod + (t.now - s.now)) ∧
    (dataUp s = true → t.adm.items = s.adm.items.map (fun it => if it.stage = .plaza then { it with urgency := urgencyOf { s with now := t.now } it.dl } else it)) ∧
    regsKept [PLZ_URG3_COUNT.reg] s t ∧ dramKept s t)) ∧
  (∀ (k j : Fin 32) (it : Item) (s : State), dataUp s = true → it.stage = .plaza → it ∈ s.adm.items →
    plazaWinner (grantTime s k j) k.val j.val = some (.item it) → (s.adm.items.map (fun x => x.id)).Nodup →
    (∀ x ∈ s.adm.items, x.stage = .plaza → x.sub = k.val → x.input = it.input → it.id ≤ x.id) → TransitInTime s k j →
    NothingHeld s k → Completes (exec (.plazaGrant k j) s) (fun t => t.now = (grantTime s k j).now ∧
      t.now / 30 % 32 = (k.val + 32 - j.val) % 32 ∧ { it with stage := .queue } ∈ t.adm.items ∧
      t.adm.items.length = s.adm.items.length ∧ nget t.adm.plazaPtr k.val = (it.input + 1) % 32 ∧ t.adm.plaza = s.adm.plaza ∧
      regsKept [PLZ_TRANSIT_MAX_IN.reg] s t ∧
      t = { s with now := t.now, pod := t.pod, ring := t.ring, regs := t.regs, adm := t.adm })) ∧
  (∀ (k j : Fin 32) (e : PlazaEntry) (s : State), dataUp s = true → plazaWinner (grantTime s k j) k.val j.val = some (.entry e) →
    duplicate s e = false → s.adm.plaza.Nodup →
    (∀ x ∈ s.adm.plaza.takeWhile (fun x => x ≠ e), x.stage = .plaza → x.output = k.val → x.input ≠ e.input) → TransitInTime s k j →
    NothingHeld s k → Completes (exec (.plazaGrant k j) s) (fun t =>
      t.adm.plaza = s.adm.plaza.map (fun x => if x = e then { e with stage := .queue } else x) ∧ t.adm.items = s.adm.items ∧
      nget t.adm.plazaPtr k.val = (e.input + 1) % 32 ∧ regsKept [PLZ_TRANSIT_MAX_IN.reg] s t ∧ dramKept s t)) ∧
  (∀ (k j : Fin 32) (m : MirrorLine) (s : State), dataUp s = true → plazaWinner (grantTime s k j) k.val j.val = some (.mirror m) →
    s.psg.mirrorQ.Nodup →
    (∀ x ∈ s.psg.mirrorQ.takeWhile (fun x => x ≠ m), x.stage = .plaza → subOf s x.line = k.val → x.input ≠ m.input) →
    TransitInTime s k j → NothingHeld s k → Completes (exec (.plazaGrant k j) s) (fun t =>
      t.psg.mirrorQ = s.psg.mirrorQ.map (fun x => if x = m then { m with stage := .queue } else x) ∧ t.adm.items = s.adm.items ∧
      t.adm.plaza = s.adm.plaza ∧ nget t.adm.plazaPtr k.val = (m.input + 1) % 32 ∧ dramKept s t)) ∧
  (∀ (e : PlazaEntry) (s : State), dataUp s = true → s.adm.plaza.find? (fun x => decide (x.client = e.client) && decide (x.seq = e.seq)) = some e →
    e.stage = .plaza → Completes (exec (.plazaCancel e.client e.seq) s) (fun t => t.adm.plaza = dropFirst e s.adm.plaza ∧
      fld t PLZ_CANCEL_DONE = min PLZ_CANCEL_DONE.max (fld s PLZ_CANCEL_DONE + 1) ∧ regsKept [PLZ_CANCEL_DONE.reg] s t ∧
      t = { s with regs := t.regs, adm := t.adm })) ∧
  (∀ (client seq : Nat) (s : State), dataUp s = true → (∀ x ∈ s.adm.plaza, (x.client, x.seq) ≠ (client, seq)) →
    s.adm.served.any (fun e => decide (e.2 = (client, seq))) = true → Completes (exec (.plazaCancel client seq) s) (fun t =>
      fld t PLZ_CANCEL_LATE = min PLZ_CANCEL_LATE.max (fld s PLZ_CANCEL_LATE + 1) ∧ regsKept [PLZ_CANCEL_LATE.reg] s t ∧
      t = { s with regs := t.regs }))

/-- The port bound is taken between 480 and 65,000 ns and refused outside; enabling a pool fills its buckets and a lower BURST cuts
them; a refill adds one RATE up to BURST; the controllers follow the reserve in force 66 us behind. A window is committed as one
whole or not at all: STATUS 0 and the four staged words, or the check that failed; a commit into a running table load's window waits
with STATUS 3. A read brings the window's words to the requester's staging registers. -/
def Obligations.AdmissionAndWindowTables : Prop :=
  (∀ (q : Requester) (v : Word) (s : State), canWrite s q 0x12 = true → 480 ≤ bitsOf v.toNat 16 0 → bitsOf v.toNat 16 0 ≤ 65000 →
    Completes (exec (.boundWrite q v) s) (fun t =>
      fldAt t ADM_PORT_CFG_BOUND (indexOf s q ADM_PORT_IDX_INDEX) = bitsOf v.toNat 16 0 ∧
      regsKept [ADM_PORT_CFG_BOUND.key (indexOf s q ADM_PORT_IDX_INDEX) 0] s t ∧ t = { s with regs := t.regs, mgt := t.mgt })) ∧
  (∀ (q : Requester) (v : Word) (s : State), canWrite s q 0x12 = true → (bitsOf v.toNat 16 0 < 480 ∨ 65000 < bitsOf v.toNat 16 0) →
    exec (.boundWrite q v) s = .next (dropHalf (raise s (srcNo 0x12 1)) q)) ∧
  (∀ (q : Requester) (v : Word) (s : State), canWrite s q 0x12 = true → Completes (exec (.poolCfgWrite q v) s) (fun t =>
    let p := indexOf s q ADM_POOL_IDX_INDEX
    fldAt t ADM_POOL_CFG_INFLIGHT_MAX p = bitsOf v.toNat 63 48 ∧ fldAt t ADM_POOL_CFG_OPS_RATE p = bitsOf v.toNat 47 32 ∧
    fldAt t ADM_POOL_CFG_ACT_RATE p = bitsOf v.toNat 31 16 ∧ fldAt t ADM_POOL_CFG_ENABLE p = bitsOf v.toNat 0 0 ∧
    fldAt t ADM_POOL_STAT_OPS_TOKENS p = (if fldAt s ADM_POOL_CFG_ENABLE p = 0 ∧ bitAt v.toNat 0 = true
      then min (2 ^ 24 - 1) (fldAt s ADM_POOL_BURST_OPS_BURST p) else fldAt s ADM_POOL_STAT_OPS_TOKENS p) ∧
    fldAt t ADM_POOL_STAT_ACT_TOKENS p = (if fldAt s ADM_POOL_CFG_ENABLE p = 0 ∧ bitAt v.toNat 0 = true
      then min (2 ^ 24 - 1) (fldAt s ADM_POOL_BURST_ACT_BURST p) else fldAt s ADM_POOL_STAT_ACT_TOKENS p) ∧
    regsKept [ADM_POOL_CFG_ENABLE.key p 0, ADM_POOL_STAT_OPS_TOKENS.key p 0] s t ∧ t = { s with regs := t.regs, mgt := t.mgt })) ∧
  (∀ (q : Requester) (v : Word) (s : State), canWrite s q 0x12 = true → Completes (exec (.poolBurstWrite q v) s) (fun t =>
    let p := indexOf s q ADM_POOL_IDX_INDEX
    fldAt t ADM_POOL_BURST_OPS_BURST p = bitsOf v.toNat 63 32 ∧ fldAt t ADM_POOL_BURST_ACT_BURST p = bitsOf v.toNat 31 0 ∧
    fldAt t ADM_POOL_STAT_OPS_TOKENS p = min (fldAt s ADM_POOL_STAT_OPS_TOKENS p) (bitsOf v.toNat 63 32) ∧
    fldAt t ADM_POOL_STAT_ACT_TOKENS p = min (fldAt s ADM_POOL_STAT_ACT_TOKENS p) (bitsOf v.toNat 31 0) ∧
    regsKept [ADM_POOL_BURST_OPS_BURST.key p 0, ADM_POOL_STAT_OPS_TOKENS.key p 0] s t ∧ t = { s with regs := t.regs, mgt := t.mgt })) ∧
  (∀ s : State, dataUp s = true → Regs.wf s.regs = true → Completes (exec .poolRefill s) (fun t => (∀ p, p < 4096 →
    fldAt t ADM_POOL_STAT_OPS_TOKENS p = (if fldAt s ADM_POOL_CFG_ENABLE p = 0 then fldAt s ADM_POOL_STAT_OPS_TOKENS p
      else max (fldAt s ADM_POOL_STAT_OPS_TOKENS p) (min (fldAt s ADM_POOL_STAT_OPS_TOKENS p + fldAt s ADM_POOL_CFG_OPS_RATE p)
        (min (fldAt s ADM_POOL_BURST_OPS_BURST p) (2 ^ 24 - 1)))) ∧
    fldAt t ADM_POOL_STAT_ACT_TOKENS p = (if fldAt s ADM_POOL_CFG_ENABLE p = 0 then fldAt s ADM_POOL_STAT_ACT_TOKENS p
      else max (fldAt s ADM_POOL_STAT_ACT_TOKENS p) (min (fldAt s ADM_POOL_STAT_ACT_TOKENS p + fldAt s ADM_POOL_CFG_ACT_RATE p)
        (min (fldAt s ADM_POOL_BURST_ACT_BURST p) (2 ^ 24 - 1))))) ∧ t = { s with regs := t.regs })) ∧
  (∀ s : State, dataUp s = true → Completes (exec .reserveFollow s) (fun t =>
    t = (match s.adm.resHist with
      | [] => s
      | e :: rest => { s with now := t.now, pod := t.pod, ring := t.ring, adm := { s.adm with serviceReserve := e.2, resHist := rest } }) ∧
    (∀ e ∈ s.adm.resHist.head?, t.now = max s.now (e.1 + 66 * 48000)))) ∧
  (∀ s : State, reserveInForce s ≠ s.adm.serviceReserve → s.adm.resHist = [] →
    (noteReserve s).adm.resHist = [(s.now, reserveInForce s)]) ∧
  (∀ (q : Requester) (s : State), canWrite s q 0x11 = true → s.mgt.load = none →
    let w := indexOf s q ZON_WIN_IDX_INDEX
    let st := fun off => stagingWord s q off
    let k := checkWindow s (windowOfWords w (st 0x808).toNat (st 0x810).toNat (st 0x818).toNat (st 0x820).toNat)
    (k ≠ 0 ∨ LogsOnly s (srcImg 2)) → Completes (exec (.zonWinCommit q) s) (fun t => fld t ZON_WIN_CMD_STATUS = k ∧
      (∀ off, off ∈ [0x808, 0x810, 0x818, 0x820] → windowWord t w off = if k = 0 then st off else windowWord s w off) ∧
      (∀ x, x ≠ w → windowOf t x = windowOf s x) ∧ (k ≠ 0 → regsKept [ZON_WIN_CMD_STATUS.reg] s t ∧ t.flt = s.flt) ∧
      t = { s with regs := t.regs, flt := t.flt, mgt := t.mgt })) ∧
  (∀ (q : Requester) (d : TableLoad) (s : State), canWrite s q 0x11 = true → s.mgt.load = some d →
    d.win = indexOf s q ZON_WIN_IDX_INDEX → Completes (exec (.zonWinCommit q) s) (fun t => fld t ZON_WIN_CMD_STATUS = 3 ∧
      (∀ x, windowOf t x = windowOf s x) ∧ (∃ a b c d, t.mgt.heldCommit = some (indexOf s q ZON_WIN_IDX_INDEX, a, b, c, d)) ∧
      t = { s with regs := t.regs, mgt := t.mgt })) ∧
  (∀ (q : Requester) (s : State), canWrite s q 0x11 = true → Completes (exec (.zonWinRead q) s) (fun t =>
    (∀ off, off ∈ [0x808, 0x810, 0x818, 0x820] → stagingWord t q off = windowWord s (indexOf s q ZON_WIN_IDX_INDEX) off) ∧
    (∀ x, windowOf t x = windowOf s x) ∧ t = { s with regs := t.regs, mgt := t.mgt }))

/-! Links. -/

/-- The flit of a NAK: idle slots, ACK the last good flit. -/
def nakFlit (s : State) (l : Nat) (a : BitVec 12) : TxFlit := (nextFlit (getLink s l) [] none).out (getLink s l) (some a)

/-- No response kept or waiting on link l has passed its bound uncounted. -/
def NothingLate (s : State) (l : Nat) : Prop :=
  (∀ f ∈ (getLink s l).sent, ∀ r b, f.resp = some (r, some b) → s.now ≤ b) ∧
    (∀ m ∈ (getLink s l).backlog, ∀ b, m.bound = some b → s.now ≤ b)

/-- No request in flight can answer now. -/
def NothingReady (s : State) : Prop := ∀ f ∈ s.adm.flights, 0 < f.left

/-- A flit on a link that is up: a good one in sequence is taken, and a header slot of an RD becomes its request with the credit
free again; one that fails is answered with a NAK, the third brings the link down; one out of sequence changes no message (log
32). The link layer's replies: a NAK frees what it acknowledges and has the rest sent again, the third for the same flit brings
the link down; CREDIT adds transmit credit; a CANCEL answers by where its request stands. -/
def Obligations.FlitsAndLinkReplies : Prop :=
  (∀ (l : Fin 9) (f : Flit) (s : State), flitLayer s l.val = true → flitGood f = true →
    ((getLink s l.val).rxSeq = none ∨ (getLink s l.val).rxSeq = some (f.linkHdr.extractLsb' 0 12 - 1)) →
    bitAt f.linkHdr.toNat 24 = false → bitAt f.linkHdr.toNat 25 = false → f.slotMap = 0 →
    Completes (exec (.flitReceive l f) s) (fun t => (getLink t l.val).rxSeq = some (f.linkHdr.extractLsb' 0 12) ∧
      (getLink t l.val).rxBad = [] ∧ (∀ k, k ≠ l.val → getLink t k = getLink s k) ∧
      t = { s with regs := t.regs, links := t.links })) ∧
  (∀ (l : Fin 8) (f : Flit) (d : Slot128) (s : State), flitLayer s l.val = true → flitGood f = true → (getLink s l.val).rxSeq = none →
    bitAt f.linkHdr.toNat 24 = false → bitAt f.linkHdr.toNat 25 = false → f.slotMap = 1 → f.slots.head? = some d → d.toNat % 32 = opRD →
    (getLink s l.val).hdr = none → (getLink s l.val).owed < fld s (BLV_CREDIT_RX_FREE.inst l.val) → s.rst.drain = none →
    ∃ s1, exec (.flitReceive l.castSucc f) s =
        .next (ackOut l.val 1 (getLink s l.val).txSeq (returnCredit (requestOp l.val opRD (reqHdrOf d) [] s1) l.val)) ∧
      (getLink s1 l.val).rxSeq = some (f.linkHdr.extractLsb' 0 12) ∧ (getLink s1 l.val).owed = (getLink s l.val).owed + 1 ∧
      fld s1 (BLV_CREDIT_RX_FREE.inst l.val) = min 4096 (fld s (BLV_CREDIT_RX_FREE.inst l.val)) ∧
      s1 = { s with regs := s1.regs, links := s1.links }) ∧
  (∀ (l : Fin 9) (f : Flit) (a : BitVec 12) (s : State), flitLayer s l.val = true → flitGood f = false →
    (getLink s l.val).rxSeq = some a → nget (getLink s l.val).rxBad (f.linkHdr.toNat % 2 ^ 12) < 2 →
    Completes (exec (.flitReceive l f) s) (fun t => t.out = s.out ++ [.flit l.val (nakFlit s l.val a)] ∧
      nget (getLink t l.val).rxBad (f.linkHdr.toNat % 2 ^ 12) = nget (getLink s l.val).rxBad (f.linkHdr.toNat % 2 ^ 12) + 1 ∧
      (getLink t l.val).rxSeq = some a ∧ t = { s with regs := t.regs, links := t.links, out := t.out })) ∧
  (∀ (l : Fin 9) (f : Flit) (s : State), flitLayer s l.val = true → flitGood f = false →
    2 ≤ nget (getLink s l.val).rxBad (f.linkHdr.toNat % 2 ^ 12) →
    ∃ s1, exec (.flitReceive l f) s = .next (linkDown s1 l.val) ∧ s1 = { s with regs := s1.regs, links := s1.links }) ∧
  (∀ (l : Fin 9) (f : Flit) (a : BitVec 12) (s : State), flitLayer s l.val = true → flitGood f = true → (getLink s l.val).rxSeq = some a →
    a + 1 ≠ f.linkHdr.extractLsb' 0 12 → Completes (exec (.flitReceive l f) s) (fun t => t = { s with regs := t.regs })) ∧
  (∀ (l : Nat) (ks : List KindSlot) (nak : Option (BitVec 12)) (s : State), ks.length ≤ 16 →
    let f := (nextFlit (getLink s l) ks none).out (getLink s l) nak
    f.slots.length = 16 ∧ f.slots.take ks.length = ks.map (fun k => k.2) ∧ f.crc.toNat = flitCrcOf f.slotMap f.linkHdr f.slots ∧
      f.linkHdr.extractLsb' 0 12 = (getLink s l).txSeq ∧ bitAt f.linkHdr.toNat 24 = nak.isSome ∧
      f.linkHdr.extractLsb' 12 12 = (nak.or (getLink s l).rxSeq).getD 0 ∧ bitAt f.linkHdr.toNat 25 = (getLink s l).rxSeq.isSome) ∧
  (∀ (l : Fin 9) (ack : BitVec 12) (s : State), dataUp s = true → fld s (linkState l.val) = 2 → NothingLate s l.val →
    ((getLink s l.val).nakAck ≠ some ack ∨ (getLink s l.val).txFails < 2) → Completes (exec (.nakReceive l ack) s) (fun t =>
      let again := (getLink s l.val).sent.filter (fun e => !decide ((ack - e.seq).toNat < 2048))
      t.out = s.out ++ again.map (fun e => .flit l.val (e.out (getLink s l.val) none)) ∧ (getLink t l.val).nakAck = some ack ∧
      (getLink t l.val).sent = again ∧
      (getLink t l.val).txFails = (if (getLink s l.val).nakAck = some ack then (getLink s l.val).txFails + 1 else 1) ∧
      t = { s with regs := t.regs, links := t.links, out := t.out })) ∧
  (∀ (l : Fin 9) (ack : BitVec 12) (s : State), dataUp s = true → fld s (linkState l.val) = 2 → (getLink s l.val).nakAck = some ack →
    2 ≤ (getLink s l.val).txFails → ∃ s1, exec (.nakReceive l ack) s = .next (linkDown s1 l.val) ∧
      s1 = { s with links := s1.links }) ∧
  (∀ (l : Fin 8) (n : BitVec 16) (s : State), dataUp s = true → fld s (BLV_STAT_STATE.inst l.val) = 2 → 1 ≤ n.toNat → n.toNat ≤ 4096 →
    ∃ s1, exec (.credit l.castSucc n) s = .next (returnCredit (settle (flushBacklog s1 l.val)) l.val) ∧
      fld s1 (BLV_CREDIT_TX_CREDIT.inst l.val) = min 65535 (fld s (BLV_CREDIT_TX_CREDIT.inst l.val) + n.toNat) ∧
      regsKept [(BLV_CREDIT_TX_CREDIT.inst l.val).reg] s s1 ∧ s1 = { s with regs := s1.regs }) ∧
  (∀ (l : Fin 8) (n : BitVec 16) (s : State), dataUp s = true → fld s (BLV_STAT_STATE.inst l.val) = 2 → 1 ≤ n.toNat → n.toNat ≤ 4096 →
    (getLink s l.val).backlog = [] → (getLink s l.val).owed = 0 → NothingReady s → Completes (exec (.credit l.castSucc n) s) (fun t =>
      fld t (BLV_CREDIT_TX_CREDIT.inst l.val) = min 65535 (fld s (BLV_CREDIT_TX_CREDIT.inst l.val) + n.toNat) ∧
      regsKept [(BLV_CREDIT_TX_CREDIT.inst l.val).reg] s t ∧ t = { s with regs := t.regs })) ∧
  (∀ (n : BitVec 16) (s : State), dataUp s = true → fld s PSG_STAT_STATE = 2 → 1 ≤ n.toNat → n.toNat ≤ 4096 →
    exec (.credit 8 n) s =
      .next (returnCredit (psgFlush { s with psg := { s.psg with credit := min 65535 (s.psg.credit + n.toNat) } }) 8)) ∧
  (∀ (l : Fin 8) (port : BitVec 10) (tag : BitVec 16) (f : Flight) (s : State), linkDelivers s l.val = true → arrivingOn s port tag = none →
    f ∈ s.adm.flights → f.hdr.port = port → f.hdr.tag = tag → RefusalLeaves s (portFldOf s BLV_PORT_CFG_LINK port.toNat) →
    Completes (exec (.cancel l port tag) s) (fun t =>
      let o := portFldOf s BLV_PORT_CFG_LINK port.toNat
      t.out = s.out ++ [.flit o (messageFlit s o [(3, cancelDoneSlot port tag 1)])] ∧
      fld t (BLV_CANCEL_LATE.inst o) = min BLV_CANCEL_LATE.max (fld s (BLV_CANCEL_LATE.inst o) + 1) ∧
      fld t (BLV_CREDIT_TX_CREDIT.inst o) + 1 = fld s (BLV_CREDIT_TX_CREDIT.inst o) ∧
      regsKept [(BLV_CANCEL_LATE.inst o).reg, (BLV_CREDIT_TX_CREDIT.inst o).reg] s t ∧
      t = { s with regs := t.regs, links := t.links, out := t.out })) ∧
  (∀ (l : Fin 8) (port : BitVec 10) (tag : BitVec 16) (s : State), linkDelivers s l.val = true → arrivingOn s port tag = none →
    (∀ f ∈ s.adm.flights, f.hdr.port ≠ port ∨ f.hdr.tag ≠ tag) → RefusalLeaves s (portFldOf s BLV_PORT_CFG_LINK port.toNat) →
    Completes (exec (.cancel l port tag) s) (fun t =>
      let o := portFldOf s BLV_PORT_CFG_LINK port.toNat
      t.out = s.out ++ [.flit o (messageFlit s o [(3, cancelDoneSlot port tag 2)])] ∧ regsKept [(BLV_CREDIT_TX_CREDIT.inst o).reg] s t ∧
      t = { s with regs := t.regs, links := t.links, out := t.out })) ∧
  (∀ (l : Fin 8) (k : Nat) (port : BitVec 10) (tag : BitVec 16) (s : State), linkDelivers s l.val = true →
    arrivingOn s port tag = some k → s.rst.drain = none → linkIsUp s (portFldOf s BLV_PORT_CFG_LINK port.toNat) = true →
    (getLink s (portFldOf s BLV_PORT_CFG_LINK port.toNat)).backlog = [] →
    2 ≤ fld s (BLV_CREDIT_TX_CREDIT.inst (portFldOf s BLV_PORT_CFG_LINK port.toNat)) →
    Completes (exec (.cancel l port tag) s) (fun t => (getLink t k).hdr = none ∧
      (getLink t k).data = [] ∧ t.adm = s.adm ∧
      (∃ f, t.out.getLast? = some (.flit (portFldOf s BLV_PORT_CFG_LINK port.toNat) f) ∧ f.slotMap = 3 ∧
        f.slots.head? = some (cancelDoneSlot port tag 0)) ∧
      fld t (BLV_CANCEL_DONE.inst (portFldOf s BLV_PORT_CFG_LINK port.toNat)) =
        min BLV_CANCEL_DONE.max (fld s (BLV_CANCEL_DONE.inst (portFldOf s BLV_PORT_CFG_LINK port.toNat)) + 1)))

/-- Training, widths and loss: training starts afresh while enabled and in a state that trains, ends at the width the lanes
leave; a failed lane costs half the link or brings it down; a link that is declared down retrains where AUTO_RETRAIN is one; a
failover moves a port to its standby link where that is up. The port table: an entry that would overcommit the in-flight limits
only sets OVERCOMMIT; any other is taken whole, and enabling a port starts its sequence numbers at zero. -/
def Obligations.LinksTrainAndPortsAreGuarded : Prop :=
  (∀ (q : Requester) (l : Fin 9) (s : State), canWrite s q (linkPage l.val) = true → trainState s.vault = true →
    s.vault ≠ .dump → (l.val < 8 ∨ psgLive s = false) → flag s (linkEnable l.val) = true → accepts s (linkPage l.val) = true → Completes (exec (.linkTrain q l) s) (fun t =>
      fld t (linkState l.val) = 1 ∧ laneMap t l.val = 0 ∧
      (l.val < 8 → fld t (BLV_CREDIT_TX_CREDIT.inst l.val) = 0 ∧ fld t (BLV_CREDIT_RX_FREE.inst l.val) = 4096 ∧
        (getLink t l.val).hdr = none ∧ (getLink t l.val).rxSeq = none) ∧ t.adm = s.adm ∧ dramKept s t)) ∧
  (∀ (q : Requester) (l : Fin 9) (s : State), canWrite s q (linkPage l.val) = true →
    (trainState s.vault = false ∨ s.vault = .dump ∨ flag s (linkEnable l.val) = false) → Completes (exec (.linkTrain q l) s) (fun t => t = { s with mgt := t.mgt })) ∧
  (∀ (q : Requester) (s : State), canWrite s q 0x28 = true → (s.vault = .join ∨ s.vault = .culdesac) → psgUp s = true →
    flag s PSG_CTL_ENABLE = true → accepts s 0x28 = true → Completes (exec (.linkTrain q 8) s) (fun t =>
      fld t PSG_STAT_STATE = 1 ∧ t.psg.lanes = 0 ∧ t.psg.txWait = [] ∧ t.psg.handshake = none ∧ evLeave ∈ (getCtx t 2).events ∧
      t.adm = s.adm ∧ dramKept s t)) ∧
  (∀ (l : Fin 8) (s : State), dataUp s = true → trainState s.vault = true → fld s (BLV_STAT_STATE.inst l.val) = 1 → widthFor s l.val ≠ 0 →
    ∃ s1, exec (.linkUp l.castSucc) s = .next (settle (flushBacklog s1 l.val)) ∧ fld s1 (BLV_STAT_STATE.inst l.val) = 2 ∧
      fld s1 (BLV_STAT_WIDTH.inst l.val) = widthFor s l.val ∧
      ((getLink s l.val).fast = true → getReg s1 (BLV_EQ_PRE.inst l.val).reg = getReg s (BLV_EQ_PRE.inst l.val).reg) ∧
      regsKept [(BLV_STAT_STATE.inst l.val).reg, (BLV_EQ_PRE.inst l.val).reg] s s1 ∧ s1 = { s with regs := s1.regs, links := s1.links, draws := s1.draws }) ∧
  (∀ (l : Fin 8) (s : State), dataUp s = true → trainState s.vault = true → fld s (BLV_STAT_STATE.inst l.val) = 1 → widthFor s l.val ≠ 0 →
    (getLink s l.val).backlog = [] → NothingReady s → Completes (exec (.linkUp l.castSucc) s) (fun t =>
      fld t (BLV_STAT_STATE.inst l.val) = 2 ∧ fld t (BLV_STAT_WIDTH.inst l.val) = widthFor s l.val ∧ (getLink t l.val).fast = false ∧
      (getLink t l.val).keep = false ∧ t = { s with regs := t.regs, links := t.links, draws := t.draws })) ∧
  (∀ s : State, dataUp s = true → trainState s.vault = true → fld s PSG_STAT_STATE = 1 → widthFor s 8 ≠ 0 → (getLink s 8).keep = true →
    ∃ s1, exec (.linkUp 8) s = .next (settle (psgFlush s1)) ∧ fld s1 PSG_STAT_STATE = 2 ∧ fld s1 PSG_STAT_WIDTH = widthFor s 8 ∧
      regsKept [PSG_STAT_STATE.reg] s s1 ∧ s1 = { s with regs := s1.regs, links := s1.links }) ∧
  (∀ s : State, dataUp s = true → trainState s.vault = true → fld s PSG_STAT_STATE = 1 → widthFor s 8 ≠ 0 → (getLink s 8).keep = false →
    ∃ s1, exec (.linkUp 8) s = .next (settle (psgCameUp s1)) ∧ fld s1 PSG_STAT_STATE = 2 ∧ fld s1 PSG_STAT_WIDTH = widthFor s 8 ∧
      regsKept [PSG_STAT_STATE.reg] s s1 ∧ s1 = { s with regs := s1.regs, links := s1.links }) ∧
  (∀ (l : Fin 9) (s : State), laneMap s l.val = 0 → widthFor s l.val = 3) ∧
  (∀ (l : Fin 8) (lane : Fin 16) (s : State), dataUp s = true → lane.val < 8 → fld s (BLV_STAT_STATE.inst l.val) = 2 →
    laneMap s l.val = 0 → flag s (BLV_CTL_HALF_OK.inst l.val) = true → ∃ s1,
      exec (.laneFail l.castSucc lane) s = .next (raise s1 (linkSrc l.val 1)) ∧ laneMap s1 l.val = 2 ^ lane.val ∧
      fld s1 (BLV_STAT_STATE.inst l.val) = 1 ∧ fld s1 (BLV_STAT_WIDTH.inst l.val) = (if lane.val < 4 then 2 else 1) ∧
      (getLink s1 l.val).keep = true ∧ s1 = { s with regs := s1.regs, links := s1.links }) ∧
  (∀ (l : Fin 8) (lane : Fin 16) (s : State), dataUp s = true → lane.val < 8 → fld s (BLV_STAT_STATE.inst l.val) = 2 →
    laneMap s l.val = 0 → flag s (BLV_CTL_HALF_OK.inst l.val) = true → LogsOnly s (srcBlv l.val 1) →
    Completes (exec (.laneFail l.castSucc lane) s) (fun t => laneMap t l.val = 2 ^ lane.val ∧
      fld t (BLV_STAT_STATE.inst l.val) = 1 ∧ fld t (BLV_STAT_WIDTH.inst l.val) = (if lane.val < 4 then 2 else 1) ∧
      flag t (FLT_STICKY_SRC (0x18 + l.val) 1) = true ∧ t.adm = s.adm ∧ dramKept s t)) ∧
  (∀ (l : Fin 8) (lane : Fin 16) (s : State), dataUp s = true → lane.val < 8 → fld s (BLV_STAT_STATE.inst l.val) = 2 →
    flag s (BLV_CTL_HALF_OK.inst l.val) = false → ∃ s1, exec (.laneFail l.castSucc lane) s = .next (linkDown s1 l.val) ∧
      bitAt (laneMap s1 l.val) lane.val = true ∧ s1 = { s with regs := s1.regs }) ∧
  (∀ (lane : Fin 16) (s : State), dataUp s = true → fld s PSG_STAT_STATE = 2 → s.psg.lanes = 0 → flag s PSG_CTL_HALF_OK = true →
    ∃ s1, exec (.laneFail 8 lane) s = .next (raise s1 (srcPsg 1)) ∧ s1.psg.lanes = 2 ^ lane.val ∧ fld s1 PSG_STAT_STATE = 1) ∧
  (∀ (l : Fin 8) (s : State), dataUp s = true → fld s (BLV_STAT_STATE.inst l.val) = 2 → s.adm.flights = [] →
    NothingLate s l.val → ∃ s1, exec (.cdrLockLoss l.castSucc) s = .next (raise s1 (srcBlv l.val 0)) ∧ fld s1 (BLV_STAT_WIDTH.inst l.val) = 0 ∧
      fld s1 (BLV_STAT_STATE.inst l.val) = (if flag s (BLV_CTL_AUTO_RETRAIN.inst l.val) then 1 else 3) ∧ dramKept s s1) ∧
  (∀ s : State, dataUp s = true → fld s PSG_STAT_STATE = 2 → (s.vault = .join ∨ s.vault = .culdesac) → LogsOnly s (srcPsg 0) →
    Completes (exec (.cdrLockLoss 8) s) (fun t => fld t PSG_STAT_STATE = (if flag s PSG_CTL_AUTO_RETRAIN then 1 else 3) ∧
      fld t PSG_STAT_WIDTH = 0 ∧ t.psg.txWait = [] ∧ t.psg.handshake = none ∧ evLeave ∈ (getCtx t 2).events ∧ t.vault = s.vault ∧
      dramKept s t)) ∧
  (∀ (l m : Nat) (p : Nat) (s : State), l < 8 → m < 8 → enabledPorts s = [p] → portFldOf s BLV_PORT_CFG_LINK p = l →
    portFldOf s BLV_PORT_CFG_STANDBY p = m → linkIsUp s m = true → m ≠ l → NothingLate s l →
    portFldOf (failover s l) BLV_PORT_CFG_LINK p = m ∧ portFldOf (failover s l) BLV_PORT_CFG_STANDBY p = l) ∧
  (∀ (q : Requester) (l : Fin 8) (v : Word) (s : State), canWrite s q (0x18 + l.val) = true →
    let p := 128 * l.val + indexOf s q (BLV_PORT_IDX_INDEX.inst l.val)
    bitAt v.toNat 0 = true → 65536 < inflightSum s p v → Completes (exec (.portCfgWrite q l v) s) (fun t =>
      portFldOf t BLV_PORT_STAT_OVERCOMMIT p = 1 ∧ portFldOf t BLV_PORT_CFG_ENABLE p = portFldOf s BLV_PORT_CFG_ENABLE p ∧
      t = { s with regs := t.regs, mgt := t.mgt })) ∧
  (∀ (q : Requester) (l : Fin 8) (v : Word) (s : State), canWrite s q (0x18 + l.val) = true →
    let p := 128 * l.val + indexOf s q (BLV_PORT_IDX_INDEX.inst l.val)
    inflightSum s p v ≤ 65536 → bitsOf v.toNat 7 5 = portFldOf s BLV_PORT_CFG_LINK p →
    ∃ s1, exec (.portCfgWrite q l v) s = .next (dropHalf (settle s1) q) ∧ portFldOf s1 BLV_PORT_CFG_ENABLE p = bitsOf v.toNat 0 0 ∧
      portFldOf s1 BLV_PORT_CFG_LINK p = bitsOf v.toNat 7 5 ∧ portFldOf s1 BLV_PORT_CFG_STANDBY p = bitsOf v.toNat 10 8 ∧
      portFldOf s1 BLV_PORT_CFG_INFLIGHT_MAX p = bitsOf v.toNat 63 48 ∧
      portFldOf s1 BLV_PORT_STAT_NEXT_SEQ p = (if bitAt v.toNat 0 && portFldOf s BLV_PORT_CFG_ENABLE p == 0 then 0
        else portFldOf s BLV_PORT_STAT_NEXT_SEQ p) ∧ s1 = { s with regs := s1.regs })

/-! DRAM controllers and PHYs. -/

/-- A command slot of the subchannel finds the controller serving, no table load running and no Passage message waiting. -/
def SlotRuns (s : State) (sub : Fin 32) : Prop :=
  dataUp s = true ∧ pageRuns s (0x20 + sub.val / 8) = true ∧ subServes s sub.val = true ∧ s.mgt.load = none ∧ s.psg.held = []

/-- The state in which a command slot chooses: the 1 us window of now, rows open too long closed. -/
def slotState (s : State) (sub : Fin 32) : State := closeAged (rollWindow s) sub.val

/-- A command slot serves booked work first: a read gives the request its line and leaves DRAM, a write puts the line, clears
its poison and marks its unit dirty, and the item's booking is gone; with nothing booked and no internal entry a mirrored line
is written (log 48). Refresh and patrol: a due refresh is booked with a deadline of eight intervals and the next one falls due
one interval later; a refresh past its deadline is REF_LATE; a patrol read changes no line it finds clean and counts one it
corrects. -/
def Obligations.DramServesRefreshesAndPatrols : Prop :=
  (∀ (sub : Fin 32) (it : Item) (f : Flight) (k : Nat) (s : State), SlotRuns s sub → pickItem (slotState s sub) sub.val = some it →
    it.work = .read k → it.tag.bind (flightOf s) = some f → nget (slotState s sub).dram.row (bankKey it.sub it.bank) = it.row + 1 →
    isPoison s it.line = false → s.dram.capture.contains it.line = false → s.now ≤ it.dl →
    ∃ (s1 : State) (g : Flight), exec (.commandSlot sub [.clean]) s = .next (settle (noteCrossing (settleReady s1 sub.val) it)) ∧
      s1.adm.items = s.adm.items.filter (fun x => x.id ≠ it.id) ∧ flightOf s1 f.hdr.tag = some g ∧ g.left = f.left - 1 ∧
      sget 0 g.lines k = readLine s it.line ∧ g.status = f.status ∧ dramKept s s1 ∧ s1.regs = s.regs ∧ s1.dram.dirty = s.dram.dirty) ∧
  (∀ (sub : Fin 32) (it : Item) (f : Flight) (k : Nat) (s : State), SlotRuns s sub → pickItem (slotState s sub) sub.val = some it →
    it.work = .read k → it.tag.bind (flightOf s) = some f → nget (slotState s sub).dram.row (bankKey it.sub it.bank) = it.row + 1 →
    isPoison s it.line = false → s.dram.capture.contains it.line = false → s.now ≤ it.dl → NothingReady s → 2 ≤ f.left →
    Completes (exec (.commandSlot sub []) s) (fun t => t.adm.items = s.adm.items.filter (fun x => x.id ≠ it.id) ∧
      (∃ g ∈ t.adm.flights, g.hdr = f.hdr ∧ g.left = f.left - 1 ∧ sget 0 g.lines k = readLine s it.line) ∧ t.out = s.out ∧
      dramKept s t)) ∧
  (∀ (sub : Fin 32) (it : Item) (f : Flight) (k : Nat) (d : Line) (s : State), SlotRuns s sub →
    pickItem (slotState s sub) sub.val = some it → it.work = .write k d → it.tag.bind (flightOf s) = some f → f.opc = opWR →
    nget (slotState s sub).dram.row (bankKey it.sub it.bank) = it.row + 1 → s.cen.snap = false → f.fwd = 0 → s.now ≤ it.dl →
    ∃ s1, exec (.commandSlot sub []) s = .next (settle (noteCrossing (settleReady s1 sub.val) it)) ∧
      s1.adm.items = s.adm.items.filter (fun x => x.id ≠ it.id) ∧ readLine s1 it.line = d ∧ isPoison s1 it.line = false ∧
      isDirty s1 (unitOf it.line) = true ∧ (∀ a, a / 64 ≠ it.line → readByte s1 a = readByte s a) ∧ s1.regs = s.regs) ∧
  (∀ (sub : Fin 32) (m : MirrorLine) (s : State), SlotRuns s sub → pickItem (slotState s sub) sub.val = none →
    (∀ e ∈ s.adm.plaza, e.output ≠ sub.val ∨ e.stage ≠ .queue) → nextMirror (slotState s sub) sub.val = some m → m.masked = false →
    nget (slotState s sub).dram.row (bankKey sub.val (bankOf s m.line)) = rowOf s m.line + 1 →
    reserveRoom (slotState s sub) sub.val (internalCost (slotState s sub) m.line true) = true → flag s PSG_STAT_FWD_ALL = false →
    ∃ s1, exec (.commandSlot sub []) s = .next (settle s1) ∧ readLine s1 m.line = m.data ∧ isPoison s1 m.line = false ∧
      isDirty s1 (unitOf m.line) = true ∧ s1.psg.mirrorQ = dropFirst m s.psg.mirrorQ ∧
      (∀ a, a / 64 ≠ m.line → readByte s1 a = readByte s a) ∧ s1.regs = s.regs ∧ s1.adm = s.adm) ∧
  (∀ (sub : Fin 32) (m : MirrorLine) (s : State), SlotRuns s sub → pickItem (slotState s sub) sub.val = none →
    (∀ e ∈ s.adm.plaza, e.output ≠ sub.val ∨ e.stage ≠ .queue) → nextMirror (slotState s sub) sub.val = some m →
    reserveRoom (slotState s sub) sub.val (internalCost (slotState s sub) m.line true) = false →
    ∃ s1, exec (.commandSlot sub []) s = .next (settle s1) ∧ s1 = { s with dram := s1.dram } ∧ dramKept s s1) ∧
  (∀ (sub : Fin 32) (due : Nat) (s : State), dataUp s = true → nget s.dram.refDue sub.val = due + 1 → flag s (subOffline sub.val) = false →
    Completes (exec (.refreshDue sub) s) (fun t => (∃ it : Item, t.adm.items = s.adm.items ++ [it] ∧ it.work = .refresh ∧ it.sub = sub.val ∧
        it.dl = due + 8 * trefi s (sub.val / 8) ∧ it.tag = none) ∧ t.now = max s.now due ∧
      nget t.dram.refDue sub.val = due + trefi s (sub.val / 8) + 1 ∧
      (∀ n, n ≠ sub.val → nget t.dram.refDue n = nget s.dram.refDue n) ∧ t.regs = s.regs ∧ dramKept s t)) ∧
  (∀ (sub : Fin 32) (due : Nat) (s : State), dataUp s = true → nget s.dram.refDue sub.val = due + 1 → flag s (subOffline sub.val) = true →
    Completes (exec (.refreshDue sub) s) (fun t => t.adm = s.adm ∧ nget t.dram.refDue sub.val = due + trefi s (sub.val / 8) + 1 ∧
      t.regs = s.regs ∧ dramKept s t)) ∧
  (∀ (sub : Fin 32) (it : Item) (s : State), dataUp s = true →
    leastBy Item.dl (s.adm.items.filter (fun x => decide (x.sub = sub.val) && decide (x.work = .refresh))) = some it →
    exec (.refLate sub) s = .next (raise (pass (it.dl - s.now) s) (srcDrc (sub.val / 8) 3))) ∧
  (∀ (sub : Fin 32) (it : Item) (s : State), dataUp s = true →
    leastBy Item.dl (s.adm.items.filter (fun x => decide (x.sub = sub.val) && decide (x.work = .refresh))) = some it → it.dl ≤ s.now →
    s.ring.slewLeft = 0 → LogsOnly s (srcDrc (sub.val / 8) 3) → Completes (exec (.refLate sub) s) (fun t =>
      flag t (FLT_STICKY_SRC (0x20 + sub.val / 8) 3) = true ∧ t.now = s.now ∧ t.adm = s.adm ∧ dramKept s t)) ∧
  (∀ (sub : Fin 32) (s : State), dataUp s = true → serving s = true → flag s (DRC_SCRUB_ENABLE.inst (sub.val / 8)) = true →
    flag s (subOffline sub.val) = false → subServes s sub.val = true → 0 < subLines s →
    let l := lineOfSub s sub.val (nget s.dram.patrol sub.val)
    unitReady s (unitOf l) = true → s.dram.capture.contains l = false → isPoison s l = false →
    nget s.dram.row (bankKey (subOf s l) (bankOf s l)) = rowOf s l + 1 →
    hkRoom (rollWindow s) sub.val (internalCost (rollWindow s) l false) = true →
    Completes (exec (.patrolScrubStep sub .clean) s) (fun t => t = { s with dram := t.dram } ∧
      t.dram.patrol = nset s.dram.patrol sub.val ((nget s.dram.patrol sub.val + 1) % subLines s) ∧
      t.dram.writeBack = s.dram.writeBack ∧ dramKept s t) ∧
    (∀ k, 1 ≤ k → k ≤ 6 → ∃ s1, exec (.patrolScrubStep sub (.corrected k)) s = .next (raise s1 (srcDrc (sub.val / 8) 0)) ∧
      fld s1 (DRC_ECC_CORR_COUNT.inst (sub.val / 8)) = min (2 ^ 64 - 1) (fld s (DRC_ECC_CORR_COUNT.inst (sub.val / 8)) + 1) ∧
      s1.dram.writeBack = s.dram.writeBack ++ [(l, readLine s l)] ∧ dramKept s s1)) ∧
  (∀ (e : Ecc) (k : Nat) (d : Line), k ≤ 10 → (e = .corrected k ∨ e = .uncorrectable k ∨ e = .miscorrected k d ∨ e = .undetected k d) →
    found e = if k = 0 then .clean else if k ≤ 6 then .corrected k else .uncorrectable k)

/-- DRC_MAP is taken in BOOT alone and by quadrant 0; temperature sets the announced rate and the thermal step; a step is announced 66 us
ahead, refused without training, ignored while one runs, starts in self-refresh and resumes in the target set with a new refresh origin. -/
def Obligations.FrequencyStepFollowsItsStates : Prop :=
  (∀ (q : Requester) (v : Word) (s : State), canWrite s q 0x20 = true → s.vault = .boot → Completes (exec (.drcMapWrite q 0 v) s) (fun t =>
    fld t DRC_MAP_DENSITY = bitsOf v.toNat 5 4 ∧ fld t DRC_MAP_XOR_MODE = bitsOf v.toNat 1 0 ∧
    regsKept [DRC_MAP_DENSITY.reg] s t ∧ t = { s with regs := t.regs, mgt := t.mgt })) ∧
  (∀ (q : Requester) (v : Word) (s : State), canWrite s q 0x20 = true → s.vault ≠ .boot →
    exec (.drcMapWrite q 0 v) s = .next (dropHalf (raise s (srcDrc 0 7)) q)) ∧
  (∀ (q : Requester) (k : Fin 4) (v : Word) (s : State), k ≠ 0 → Completes (exec (.drcMapWrite q k v) s) (fun t => t = { s with mgt := t.mgt })) ∧
  (∀ l : List Int, l.length = 24 → ∃ x ∈ l, quadTemp l = some x ∧ ∀ y ∈ l, y ≤ x) ∧
  (∀ (k : Fin 4) (l : List Int) (x : Int) (s : State), dataUp s = true → quadTemp l = some x →
    flag s (DRC_STAT_RATE_PEND.inst k.val) = false →
    flag s (DRC_STAT_RATE2X.inst k.val) = false → (fld s (DRC_THERM_RATE_HI.inst k.val) : Int) ≤ x →
    flag s (DRC_THERM_STEP_EN.inst k.val) = false → Completes (exec (.mr4Read k l) s) (fun t =>
      fld t (DRC_STAT_TEMP.inst k.val) = ofSigned 8 x ∧ flag t (DRC_STAT_RATE_PEND.inst k.val) = true ∧
      nget t.dram.rateTo k.val = 1 ∧ regsKept [(DRC_STAT_TEMP.inst k.val).reg] s t ∧ dramKept s t)) ∧
  (∀ (k : Fin 4) (l : List Int) (x : Int) (s : State), dataUp s = true → quadTemp l = some x →
    flag s (DRC_STAT_RATE_PEND.inst k.val) = true → flag s (DRC_THERM_STEP_EN.inst k.val) = true → (fld s (DRC_THERM_STEP_HI.inst k.val) : Int) ≤ x →
    fld s (DRC_STAT_STEP_STATE.inst k.val) = 0 → activeSet s k.val = 0 → quadTrained s k.val 1 = true →
    ∃ s1, exec (.mr4Read k l) s = .next (raise s1 (srcDrc k.val 5)) ∧ fld s1 (DRC_STAT_STEP_STATE.inst k.val) = 1 ∧
      stepTarget s1 k.val = 1 ∧ nget s1.dram.stepAt k.val = s.now + 66 * 48000 + 1 ∧ bitAt (fld s1 ADM_FSTEP_PENDING) k.val = true) ∧
  (∀ (k : Fin 4) (s : State), dataUp s = true → flag s (DRC_STAT_RATE_PEND.inst k.val) = true →
    Completes (exec (.rateChangeEffect k) s) (fun t => flag t (DRC_STAT_RATE2X.inst k.val) = decide (nget s.dram.rateTo k.val = 1) ∧
      flag t (DRC_STAT_RATE_PEND.inst k.val) = false ∧ regsKept [(DRC_STAT_RATE2X.inst k.val).reg] s t ∧ dramKept s t)) ∧
  (∀ (sub : Fin 32) (s : State), Completes (exec (.zqLatch sub) s) (fun t => t = s)) ∧
  (∀ (q : Requester) (k : Fin 4) (s : State), canWrite s q (0x20 + k.val) = true → flag s (DRC_CTL_ENABLE.inst k.val) = true →
    fld s (DRC_STAT_STEP_STATE.inst k.val) ≠ 0 →
    Completes (exec (.stepReq q k) s) (fun t =>
      fld t (DRC_STEPS_IGNORED.inst k.val) = min (2 ^ 32 - 1) (fld s (DRC_STEPS_IGNORED.inst k.val) + 1) ∧
      regsKept [(DRC_STEPS_IGNORED.inst k.val).reg] s t ∧ t = { s with regs := t.regs, mgt := t.mgt })) ∧
  (∀ (q : Requester) (k : Fin 4) (s : State), canWrite s q (0x20 + k.val) = true → flag s (DRC_CTL_ENABLE.inst k.val) = false →
    Completes (exec (.stepReq q k) s) (fun t => t = { s with mgt := t.mgt })) ∧
  (∀ (q : Requester) (k : Fin 4) (s : State), canWrite s q (0x20 + k.val) = true → flag s (DRC_CTL_ENABLE.inst k.val) = true →
    fld s (DRC_STAT_STEP_STATE.inst k.val) = 0 → quadTrained s k.val (fld s (DRC_CTL_TARGET.inst k.val)) = true → Completes (exec (.stepReq q k) s) (fun t =>
      fld t (DRC_STAT_STEP_STATE.inst k.val) = 1 ∧ stepTarget t k.val = fld s (DRC_CTL_TARGET.inst k.val) ∧
      nget t.dram.stepAt k.val = s.now + 66 * 48000 + 1 ∧ bitAt (fld t ADM_FSTEP_PENDING) k.val = true ∧
      activeSet t k.val = activeSet s k.val ∧ dramKept s t)) ∧
  (∀ (q : Requester) (k : Fin 4) (s : State), canWrite s q (0x20 + k.val) = true → flag s (DRC_CTL_ENABLE.inst k.val) = true →
    fld s (DRC_STAT_STEP_STATE.inst k.val) = 0 → quadTrained s k.val (fld s (DRC_CTL_TARGET.inst k.val)) = false →
    exec (.stepReq q k) s = .next (dropHalf (raise s (srcDrc k.val 7)) q)) ∧
  (∀ (k : Fin 4) (s : State), dataUp s = true → fld s (DRC_STAT_STEP_STATE.inst k.val) = 1 →
    Completes (exec (.freqStepStart k) s) (fun t => fld t (DRC_STAT_STEP_STATE.inst k.val) = 2 ∧
      (∀ it ∈ t.adm.items, it.sub / 8 = k.val → it.work ≠ .refresh) ∧
      (∀ n b, n < 8 → b < 16 → nget t.dram.row (bankKey (8 * k.val + n) b) = 0) ∧ (∀ n, n < 8 → nget t.dram.refDue (8 * k.val + n) = 0) ∧
      regsKept [(DRC_STAT_STEP_STATE.inst k.val).reg] s t ∧ dramKept s t)) ∧
  (∀ (k : Fin 4) (s : State), dataUp s = true → fld s (DRC_STAT_STEP_STATE.inst k.val) = 2 → stepTarget s k.val < 2 →
    Completes (exec (.freqStepResume k) s) (fun t => fld t (DRC_STAT_STEP_STATE.inst k.val) = 0 ∧ activeSet t k.val = stepTarget s k.val ∧
      bitAt (fld t ADM_FSTEP_PENDING) k.val = false ∧
      fld t (DRC_STEPS_DONE.inst k.val) = min (2 ^ 32 - 1) (fld s (DRC_STEPS_DONE.inst k.val) + 1) ∧
      (∀ n, n < 8 → flag s (subOffline (8 * k.val + n)) = false → nget t.dram.refDue (8 * k.val + n) = s.now + n * trefi t k.val / 8 + 1) ∧
      dramKept s t)) ∧
  (∀ (k : Fin 4) (s : State), dataUp s = true → fld s (DRC_STAT_STEP_STATE.inst k.val) = 2 →
    exec (.stepFail k) s = .next (raise s (srcDrc k.val 6))) ∧
  (∀ (k : Fin 4) (s : State), dataUp s = true → fld s (DRC_STAT_STEP_STATE.inst k.val) = 2 → LogsOnly s (srcDrc k.val 6) →
    Completes (exec (.stepFail k) s) (fun t => flag t (FLT_STICKY_SRC (0x20 + k.val) 6) = true ∧
      fld t (DRC_STAT_STEP_STATE.inst k.val) = 2 ∧ dramKept s t))

/-- A training action has started: its MODE, BUSY at one, DONE at zero, and nothing else. -/
def trainStarted (s : State) (sub : Fin 32) (m : Nat) (t : State) : Prop :=
  fld t (DRP_TRAIN_CTL_MODE.inst sub.val) = m ∧ flag t (DRP_TRAIN_CTL_BUSY.inst sub.val) = true ∧
    flag t (DRP_TRAIN_CTL_DONE.inst sub.val) = false ∧ regsKept [(DRP_TRAIN_CTL_MODE.inst sub.val).reg] s t ∧
    t = { s with regs := t.regs, mgt := t.mgt }

/-- A PHY: its delay lines lock and lose lock; a training action sets BUSY and ends with DONE and PASS, and a sweep that ends
with no pass raises the failure; MARK sets what it names; DRP_DLY of the set in use is closed while it serves. One subchannel at
a time goes offline: its refreshes stop and its training is gone, READY shows its booked work served; it comes back with both
sets trained and its content resynced, and is refused otherwise. -/
def Obligations.PhysTrainAndSubchannelsLeave : Prop :=
  (∀ (sub : Fin 32) (s : State), dataUp s = true → flag s (DRP_CTL_ENABLE.inst sub.val) = true → Completes (exec (.phyLocked sub) s) (fun t =>
    flag t (DRP_STAT_LOCKED.inst sub.val) = true ∧ regsKept [(DRP_STAT_LOCKED.inst sub.val).reg] s t ∧ t = { s with regs := t.regs })) ∧
  (∀ (sub : Fin 32) (s : State), dataUp s = true → ∃ s1, exec (.phyLockLoss sub) s =
      .next (if serving s then raise s1 (srcDrp sub.val 2) else s1) ∧ flag s1 (DRP_STAT_LOCKED.inst sub.val) = false ∧
      regsKept [(DRP_STAT_LOCKED.inst sub.val).reg] s s1 ∧ s1 = { s with regs := s1.regs }) ∧
  (∀ (sub : Fin 32) (s : State), dataUp s = true → (serving s = false ∨ LogsOnly s (srcDrp sub.val 2)) →
    Completes (exec (.phyLockLoss sub) s) (fun t => flag t (DRP_STAT_LOCKED.inst sub.val) = false ∧
      (serving s = true → flag t (FLT_STICKY_SRC (0x40 + sub.val) 2) = true) ∧ dramKept s t)) ∧
  (∀ (sub : Fin 32) (d : Int) (s : State), dataUp s = true → -128 ≤ d → d ≤ 127 → ∃ s1, exec (.dqsOscRead sub d) s =
      .next (if 8 < d.natAbs then raise s1 (srcDrp sub.val 1) else s1) ∧ fld s1 (DRP_STAT_DRIFT.inst sub.val) = ofSigned 8 d ∧
      regsKept [(DRP_STAT_DRIFT.inst sub.val).reg] s s1 ∧ s1 = { s with regs := s1.regs }) ∧
  (∀ (sub : Fin 32) (d : Int) (s : State), dataUp s = true → d.natAbs ≤ 8 → Completes (exec (.dqsOscRead sub d) s) (fun t =>
    fld t (DRP_STAT_DRIFT.inst sub.val) = ofSigned 8 d ∧ regsKept [(DRP_STAT_DRIFT.inst sub.val).reg] s t ∧
    t = { s with regs := t.regs })) ∧
  (∀ (q : Requester) (sub : Fin 32) (s : State), canWrite s q (0x40 + sub.val) = true → accepts s (0x40 + sub.val) = true →
    flag s (DRP_TRAIN_CTL_BUSY.inst sub.val) = false → Completes (exec (.csSampling q sub) s) (trainStarted s sub 1)) ∧
  (∀ (q : Requester) (sub : Fin 32) (s : State), canWrite s q (0x40 + sub.val) = true → accepts s (0x40 + sub.val) = true →
    flag s (DRP_TRAIN_CTL_BUSY.inst sub.val) = false → Completes (exec (.caSampling q sub) s) (trainStarted s sub 2)) ∧
  (∀ (q : Requester) (sub : Fin 32) (s : State), canWrite s q (0x40 + sub.val) = true → accepts s (0x40 + sub.val) = true →
    flag s (DRP_TRAIN_CTL_BUSY.inst sub.val) = false → Completes (exec (.writeLevelling q sub) s) (trainStarted s sub 3)) ∧
  (∀ (q : Requester) (sub : Fin 32) (s : State), canWrite s q (0x40 + sub.val) = true → accepts s (0x40 + sub.val) = true →
    flag s (DRP_TRAIN_CTL_BUSY.inst sub.val) = false → Completes (exec (.readGate q sub) s) (trainStarted s sub 4)) ∧
  (∀ (q : Requester) (sub : Fin 32) (s : State), canWrite s q (0x40 + sub.val) = true → accepts s (0x40 + sub.val) = true →
    flag s (DRP_TRAIN_CTL_BUSY.inst sub.val) = false → Completes (exec (.readEye q sub) s) (trainStarted s sub 5)) ∧
  (∀ (q : Requester) (sub : Fin 32) (s : State), canWrite s q (0x40 + sub.val) = true → accepts s (0x40 + sub.val) = true →
    flag s (DRP_TRAIN_CTL_BUSY.inst sub.val) = false → Completes (exec (.writeEye q sub) s) (trainStarted s sub 6)) ∧
  (∀ (q : Requester) (sub : Fin 32) (s : State), canWrite s q (0x40 + sub.val) = true → accepts s (0x40 + sub.val) = true →
    flag s (DRP_TRAIN_CTL_BUSY.inst sub.val) = false → Completes (exec (.readVrefPoint q sub) s) (trainStarted s sub 7)) ∧
  (∀ (q : Requester) (sub : Fin 32) (s : State), canWrite s q (0x40 + sub.val) = true → accepts s (0x40 + sub.val) = true →
    flag s (DRP_TRAIN_CTL_BUSY.inst sub.val) = false → Completes (exec (.writeVrefPoint q sub) s) (trainStarted s sub 8)) ∧
  (∀ (sub : Fin 32) (pass : BitVec 45) (fin : Bool) (s : State), dataUp s = true → flag s (DRP_TRAIN_CTL_BUSY.inst sub.val) = true →
    fld s (DRP_TRAIN_CTL_MODE.inst sub.val) ≠ 6 → fld s (DRP_TRAIN_CTL_MODE.inst sub.val) ≠ 8 →
    let m := passMask (fld s (DRP_TRAIN_CTL_MODE.inst sub.val)) pass.toNat
    ∃ s1, exec (.trainActionDone sub pass fin) s = .next (if fin = true ∧ m = 0 then raise s1 (srcDrp sub.val 0) else s1) ∧
      flag s1 (DRP_TRAIN_CTL_BUSY.inst sub.val) = false ∧ flag s1 (DRP_TRAIN_CTL_DONE.inst sub.val) = true ∧
      fld s1 (DRP_TRAIN_RES_PASS.inst sub.val) = m ∧ s1 = { s with regs := s1.regs }) ∧
  (∀ (sub : Fin 32) (pass : BitVec 45) (fin : Bool) (s : State), dataUp s = true → flag s (DRP_TRAIN_CTL_BUSY.inst sub.val) = true →
    (fin = true → passMask (fld s (DRP_TRAIN_CTL_MODE.inst sub.val)) pass.toNat ≠ 0) →
    Completes (exec (.trainActionDone sub pass fin) s) (fun t => flag t (DRP_TRAIN_CTL_BUSY.inst sub.val) = false ∧
      flag t (DRP_TRAIN_CTL_DONE.inst sub.val) = true ∧
      fld t (DRP_TRAIN_RES_PASS.inst sub.val) = passMask (fld s (DRP_TRAIN_CTL_MODE.inst sub.val)) pass.toNat ∧
      (∀ a, subOf s (a / 64) ≠ sub.val → readByte t a = readByte s a) ∧
      (fld s (DRP_TRAIN_CTL_MODE.inst sub.val) ≠ 6 → fld s (DRP_TRAIN_CTL_MODE.inst sub.val) ≠ 8 → dramKept s t))) ∧
  (∀ (q : Requester) (sub : Fin 32) (x : BitVec 2) (s : State), canWrite s q (0x40 + sub.val) = true →
    Completes (exec (.mark q sub x) s) (fun t =>
      flag t (DRP_STAT_TRAINED_A.inst sub.val) = (flag s (DRP_STAT_TRAINED_A.inst sub.val) || bitAt x.toNat 0) ∧
      flag t (DRP_STAT_TRAINED_B.inst sub.val) = (flag s (DRP_STAT_TRAINED_B.inst sub.val) || bitAt x.toNat 1) ∧
      regsKept [(DRP_STAT_TRAINED_A.inst sub.val).reg] s t ∧ t = { s with regs := t.regs, mgt := t.mgt })) ∧
  (∀ (q : Requester) (sub : Fin 32) (s : State), canWrite s q (0x40 + sub.val) = true → Completes (exec (.devReset q sub) s) (fun t =>
    t = { s with mgt := t.mgt, out := t.out } ∧
    t.out = if s.vault = .boot ∨ flag s (subOffline sub.val) = true then s.out ++ [.devReset sub.val] else s.out)) ∧
  (∀ (q : Requester) (sub : Fin 32) (v : Word) (s : State), canWrite s q (0x40 + sub.val) = true →
    let pin := indexOf s q (DRP_DLY_IDX_PIN.inst sub.val)
    let e := fld s (DRP_CTL_SET_EDIT.inst sub.val)
    pin ≤ 59 → (activeSet s (sub.val / 8) ≠ e ∨ s.vault = .boot ∨ flag s (subOffline sub.val) = true) →
    Completes (exec (.drpDlyWrite q sub v) s) (fun t =>
      fldAt t (DRP_DLY_TX_DLY.inst sub.val) (pin + 64 * e) = bitsOf v.toNat 8 0 ∧
      fldAt t (DRP_DLY_RX_DLY.inst sub.val) (pin + 64 * e) = (if pin < 45 then bitsOf v.toNat 24 16 else 0) ∧
      fldAt t (DRP_DLY_VREF.inst sub.val) (pin + 64 * e) = (if pin < 40 then bitsOf v.toNat 39 32 else 0) ∧
      regsKept [(DRP_DLY_TX_DLY.inst sub.val).key (pin + 64 * e) 0] s t ∧ t = { s with regs := t.regs, mgt := t.mgt })) ∧
  (∀ (q : Requester) (sub : Fin 32) (v : Word) (s : State), canWrite s q (0x40 + sub.val) = true →
    indexOf s q (DRP_DLY_IDX_PIN.inst sub.val) ≤ 59 → activeSet s (sub.val / 8) = fld s (DRP_CTL_SET_EDIT.inst sub.val) → s.vault ≠ .boot →
    flag s (subOffline sub.val) = false → exec (.drpDlyWrite q sub v) s = .next (dropHalf (raise s (srcDrc (sub.val / 8) 7)) q)) ∧
  (∀ (q : Requester) (sub : Fin 32) (est : BitVec 16) (s : State), canWrite s q (0x20 + sub.val / 8) = true →
    (∀ n, n < 32 → flag s (subOffline n) = false) → Completes (exec (.subchannelOffline q sub est) s) (fun t =>
      flag t (subOffline sub.val) = true ∧ fld t (subEst sub.val) = est.toNat ∧ flag t (DRP_STAT_TRAINED_A.inst sub.val) = false ∧
      flag t (DRP_STAT_TRAINED_B.inst sub.val) = false ∧ t.dram.refDue = s.dram.refDue ∧
      ((∀ it ∈ s.adm.items, it.sub = sub.val → it.work = .refresh ∨ it.work = .rfm) → flag t (subReady sub.val) = true) ∧
      ((∃ it ∈ s.adm.items, it.sub = sub.val ∧ it.work ≠ .refresh ∧ it.work ≠ .rfm) →
        flag t (subReady sub.val) = flag s (subReady sub.val)) ∧
      (∀ it, it ∈ t.adm.items ↔ it ∈ s.adm.items ∧ (it.sub = sub.val → it.work ≠ .refresh ∧ it.work ≠ .rfm)) ∧
      (∀ n, n < 32 → n ≠ sub.val → flag t (subOffline n) = false) ∧ dramKept s t ∧ t.adm.flights = s.adm.flights)) ∧
  (∀ (q : Requester) (sub n : Fin 32) (est : BitVec 16) (s : State), canWrite s q (0x20 + sub.val / 8) = true → n ≠ sub →
    flag s (subOffline n.val) = true → exec (.subchannelOffline q sub est) s = .next (dropHalf (raise s (srcDrc (sub.val / 8) 7)) q)) ∧
  (∀ (sub : Fin 32) (s : State), dataUp s = true → flag s (subOffline sub.val) = true → (∀ it ∈ s.adm.items, it.sub ≠ sub.val) →
    Completes (exec (.subchannelReady sub) s) (fun t => flag t (subReady sub.val) = true ∧ regsKept [(subReady sub.val).reg] s t ∧
      t = { s with regs := t.regs })) ∧
  (∀ (q : Requester) (sub : Fin 32) (est : BitVec 16) (s : State), canWrite s q (0x20 + sub.val / 8) = true →
    flag s (subOffline sub.val) = true → resyncDone s sub.val = true → flag s (DRP_STAT_TRAINED_A.inst sub.val) = true →
    flag s (DRP_STAT_TRAINED_B.inst sub.val) = true → Completes (exec (.subchannelOnline q sub est) s) (fun t =>
      flag t (subOffline sub.val) = false ∧ flag t (subReady sub.val) = false ∧ fld t (subEst sub.val) = est.toNat ∧
      (0 < nget s.dram.refDue sub.val → 0 < trefi s (sub.val / 8) → s.now < nget t.dram.refDue sub.val ∧
        (nget t.dram.refDue sub.val - nget s.dram.refDue sub.val) % trefi s (sub.val / 8) = 0) ∧ regsKept [(subReady sub.val).reg] s t ∧ dramKept s t)) ∧
  (∀ (q : Requester) (sub : Fin 32) (est : BitVec 16) (s : State), canWrite s q (0x20 + sub.val / 8) = true →
    flag s (subOffline sub.val) = true → (resyncDone s sub.val = false ∨ flag s (DRP_STAT_TRAINED_A.inst sub.val) = false ∨
      flag s (DRP_STAT_TRAINED_B.inst sub.val) = false) →
    exec (.subchannelOnline q sub est) s = .next (dropHalf (raise s (srcDrc (sub.val / 8) 7)) q))

/-! The Passage. -/

/-- A Passage message of the type arrives and is carried out at once: the Passage delivers, the header CRC holds, no message waits in
the receive buffer, and the mirror queue has room for its lines. -/
def PsgArrives (s : State) (typ : Nat) (h : PsgHdr) : Prop :=
  psgDelivers s = true ∧ headerCrc (psgBits typ h) = h.crc.toNat ∧ s.psg.held = [] ∧ queueFull s typ h = false

/-- Messages of n slots in all leave at once: none waits, and the partner has granted the slots. -/
def PsgFree (s : State) (n : Nat) : Prop := s.psg.txWait = [] ∧ n ≤ s.psg.credit

/-- Passage messages of at most sixteen slots as they leave one after another, a flit each. -/
def psgSent (s : State) (ms : List PsgMsg) : List Out :=
  let x := getLink s 8
  ms.zipIdx.map (fun e => .flit 8 ((nextFlit { x with txSeq := x.txSeq + BitVec.ofNat 12 e.2 } e.1.message none).out x none))

/-- Lines of a message, numbered from its first line. -/
def numbered (l : Nat) (ls : List Line) (masked : Bool) : List (Nat × Line × Bool) := ls.zipIdx.map (fun e => (l + e.2, e.1, masked))

/-- The lines of a message wait at the end of the mirror queue, entered into the Plaza on inputs 24 to 27, behind every item booked
before. -/
def linesWait (s t : State) (l : Nat) (ls : List Line) (masked : Bool) : Prop :=
  ∃ new, t.psg.mirrorQ = s.psg.mirrorQ ++ new ∧ new.map (fun m => (m.line, m.data, m.masked)) = numbered l ls masked ∧
    ∀ m ∈ new, m.stage = .plaza ∧ 24 ≤ m.input ∧ m.input ≤ 27 ∧ m.at_ = s.adm.nextId

/-- No activation count stands at the bound at which the next activation draws an RFM (R93). -/
def NoRfm (s : State) : Prop := ∀ k, k < 512 → nget s.dram.raa k + 1 < fld s ADM_REF_RFM_TH + fld s ADM_REF_RAA_RFM_DEC

/-- A MIRROR line waits in the mirror queue, DRAM as it was, and is acknowledged with its MSEQ; that STREAM and REPAIR lines
wait there too, without acknowledgement, is the model's reading (log 23). An acknowledgement frees what it covers; a MIRROR_ACK
whose CRC fails is discarded with MSG_ERR. -/
def Obligations.MirroredLinesWaitAndAreAcknowledged : Prop :=
  (∀ (h : PsgHdr) (data : List Slot128) (s : State), PsgArrives s 1 h → 4 * lineCount h.count ≤ data.length →
    h.line.toNat + lineCount h.count ≤ installedLines s → (∀ u, unitReady s u = true) → PsgFree s 1 →
    Completes (exec (.mirror h data) s) (fun t => linesWait s t h.line.toNat (dataLines (lineCount h.count) data) false ∧
      t.psg.rxMseq = h.mseq.toNat ∧ t.out = s.out ++ psgSent s [⟨2, h.mseq.toNat, 0, 0, 0, 0, []⟩] ∧ t.psg.credit + 1 = s.psg.credit ∧
      t = { s with psg := t.psg, out := t.out, links := t.links, draws := t.draws, adm := { s.adm with plazaIn := t.adm.plazaIn } })) ∧
  (∀ (h : PsgHdr) (data : List Slot128) (s : State), PsgArrives s 3 h → 4 * lineCount h.count ≤ data.length →
    h.line.toNat + lineCount h.count ≤ installedLines s → (∀ u, unitReady s u = true) → Completes (exec (.stream h data) s) (fun t =>
      linesWait s t h.line.toNat (dataLines (lineCount h.count) data) false ∧ t.psg = { s.psg with mirrorQ := t.psg.mirrorQ } ∧
      (∀ k, k < lineCount h.count → abandoned s (h.line.toNat + k) = true → nget t.dram.resynced (subOf s (h.line.toNat + k)) = 1) ∧
      t = { s with psg := t.psg, draws := t.draws, adm := { s.adm with plazaIn := t.adm.plazaIn },
                   dram := { s.dram with resynced := t.dram.resynced } })) ∧
  (∀ (h : PsgHdr) (data : List Slot128) (s : State), PsgArrives s 0xA h → 4 * lineCount h.count ≤ data.length →
    h.line.toNat + lineCount h.count ≤ installedLines s → (∀ u, unitReady s u = true) → Completes (exec (.repair h data) s) (fun t =>
      linesWait s t h.line.toNat (dataLines (lineCount h.count) data) true ∧ t.psg = { s.psg with mirrorQ := t.psg.mirrorQ } ∧
      t = { s with psg := t.psg, draws := t.draws, adm := { s.adm with plazaIn := t.adm.plazaIn } })) ∧
  (∀ (h : PsgHdr) (s : State), PsgArrives s 2 h → ∃ s1, exec (.mirrorAck h) s = .next (settle s1) ∧
    (∀ f ∈ s1.adm.flights, ∀ a, f.ack = some a → covered h.mseq.toNat a = false) ∧
    s1.adm.flights.length = s.adm.flights.length ∧ s1.psg.fwd = s.psg.fwd.filter (fun e => !covered h.mseq.toNat e.1) ∧
    s1 = { s with adm := s1.adm, psg := s1.psg }) ∧
  (∀ (h : PsgHdr) (s : State), PsgArrives s 2 h → NothingReady s → Completes (exec (.mirrorAck h) s) (fun t =>
    t.adm = { s.adm with flights := s.adm.flights.map (fun f =>
      if f.ack.any (covered h.mseq.toNat) then { f with ack := none } else f) } ∧
    t.psg = { s.psg with fwd := s.psg.fwd.filter (fun e => !covered h.mseq.toNat e.1) } ∧ t = { s with adm := t.adm, psg := t.psg })) ∧
  (∀ (h : PsgHdr) (s : State), psgDelivers s = true → headerCrc (psgBits 2 h) ≠ h.crc.toNat →
    exec (.mirrorAck h) s = .next (raise s srcMsgErr)) ∧
  (∀ (h : PsgHdr) (data : List Slot128) (s : State), psgDelivers s = true → headerCrc (psgBits 1 h) = h.crc.toNat →
    4 * lineCount h.count ≤ data.length → h.line.toNat + lineCount h.count ≤ installedLines s → queueFull s 1 h = true →
    Completes (exec (.mirror h data) s) (fun t =>
      t = { s with psg := { s.psg with held := s.psg.held ++ [⟨1, h, data, 0⟩] } }))

/-- The resync: a request begins forward-all in SERVE, the start of the stream requests routine 6 and sets what remains,
STREAM_END ends the holds of reads and marks the content of offline subchannels as resynced, the partner's entry to SERVE is
noted, FWD_END ends forward-all; GEN gives the partner's G and T and is answered with this vault's own where none was sent (log
25); a fenced partner is noted, and taken over from in SERVE (log 27). -/
def Obligations.ResyncAndGenerationsAreExchanged : Prop :=
  (∀ (h : PsgHdr) (s : State), PsgArrives s 0xD h → h.arg = 3 → s.vault = .serve → Completes (exec (.notice h) s) (fun t =>
    t.psg.partner = some .culdesac ∧ flag t PSG_STAT_FWD_ALL = true ∧ t.psg.source = true ∧ t.psg.fwdEnded = [] ∧ t.vault = .serve ∧ dramKept s t)) ∧
  (∀ (h : PsgHdr) (s : State), PsgArrives s 0xD h → h.arg = 4 → s.psg.partner = some .serve → s.vault ≠ .join →
    Completes (exec (.notice h) s) (fun t => t.psg.partner = some .serve ∧ fld t PSG_STAT_PARTNER = 2 ∧ t.psg.markDual = false ∧
      t.psg.servedNotice = (s.psg.servedNotice || flag s PSG_STAT_FWD_ALL) ∧ t.vault = s.vault ∧ dramKept s t)) ∧
  (∀ (h : PsgHdr) (s : State), PsgArrives s 0xD h → h.arg = 1 → s.vault = .dump → s.psg.partner ≠ some .fenced →
    Completes (exec (.notice h) s) (fun t => t.psg.partner = some .fenced ∧ fld t PSG_STAT_PARTNER = 1 ∧ t.vault = .dump ∧ dramKept s t)) ∧
  (∀ (h : PsgHdr) (s : State), PsgArrives s 0xD h → h.arg = 1 → s.vault = .serve → s.psg.partner = some .serve → s.psg.partnerDeparted = false →
    ∃ s1, exec (.notice h) s = .next (settleLost (joinDecide (startCatchup (takeover s1)))) ∧ s1.psg.partner = some .fenced ∧ s1.vault = .serve ∧
      fld s1 PSG_STAT_PARTNER = 1 ∧ dramKept s s1) ∧
  (∀ s : State, dataUp s = true → flag s PSG_STAT_FWD_ALL = true → s.psg.source = true → Completes (exec .resyncStreamStart s) (fun t =>
    (getCtx t 2).pend = lins 6 (getCtx s 2).pend ∧ fld t PSG_RESYNC_REMAIN = streamUnits s % 2 ^ 25 ∧
    t.adm.serviceReserve = reserveInForce s ∧ regsKept [PSG_RESYNC_REMAIN.reg] s t ∧ t = { s with regs := t.regs, adm := t.adm, seq := t.seq })) ∧
  (∀ (h : PsgHdr) (s : State), PsgArrives s 4 h → s.vault ≠ .culdesac → Completes (exec (.streamEnd h) s) (fun t =>
    t.psg.holdUnowned = false ∧ t.psg.holdAll = false ∧ flag t PSG_STAT_RESYNC_DST = false ∧
    (∀ n, n < 32 → nget t.dram.resynced n = if nget s.dram.resynced n = 1 then 2 else nget s.dram.resynced n) ∧ regsKept [PSG_STAT_RESYNC_DST.reg] s t ∧
    t = { s with regs := t.regs, psg := t.psg, dram := { s.dram with resynced := t.dram.resynced } })) ∧
  (∀ (h : PsgHdr) (data : List Slot128) (d : Slot128) (s : State), PsgArrives s 0xE h → data.head? = some d → s.vault ≠ .join →
    s.psg.genSent = true → s.psg.genDue = false → Completes (exec (.gen h data) s) (fun t => fld t PSG_GEN_PARTNER_G = d.toNat % 2 ^ 64 ∧
      fld t PSG_TAKEOVER_PARTNER_T = bitsOf d.toNat 95 64 ∧ t.psg = { s.psg with genSeen := true, alone := t.psg.alone } ∧
      t.psg.alone = (s.psg.alone && decide (bitsOf d.toNat 95 64 < fld s PSG_TAKEOVER_T)) ∧
      regsKept [PSG_GEN_PARTNER_G.reg, PSG_TAKEOVER_PARTNER_T.reg] s t ∧ t = { s with regs := t.regs, psg := t.psg })) ∧
  (∀ (h : PsgHdr) (data : List Slot128) (d : Slot128) (s : State), PsgArrives s 0xE h → data.head? = some d → s.vault ≠ .join →
    s.psg.genSent = false → PsgFree s 2 → Completes (exec (.gen h data) s) (fun t =>
      t.out = s.out ++ psgSent s [⟨0xE, 0, 0, 0, 0, 0, [BitVec.ofNat 128 (fld s PSG_GEN_OWN_G + fld s PSG_TAKEOVER_T * 2 ^ 64)]⟩] ∧
      t.psg.genSeen = true ∧ t.psg.genSent = true ∧ fld t PSG_GEN_PARTNER_G = d.toNat % 2 ^ 64)) ∧
  (∀ (q : Requester) (s : State), canWrite s q 0x28 = true → Completes (exec (.fwdEnd q) s) (fun t => flag t PSG_STAT_FWD_ALL = false ∧
    t.psg.source = false ∧ t.psg.fwdEnded = [] ∧ t.psg.servedNotice = false ∧ regsKept [PSG_STAT_FWD_ALL.reg] s t ∧
    t = { s with regs := t.regs, psg := t.psg, mgt := t.mgt, adm := { s.adm with resHist := t.adm.resHist } }))

/-- The windows of a range, and no other, have their OWNER at side v. -/
def ownerMoved (s t : State) (first last v : Nat) : Prop :=
  (∀ w, first ≤ w → w ≤ last → (windowOf t w).owner = v) ∧ (∀ w, w < first ∨ last < w → windowOf t w = windowOf s w)

/-- A handshake moves the OWNER of a range: GO starts one or tells why not, OWN_REQ makes a giver, the giver flips once its range is quiet and
grants, the taker flips and is done, OWN_DONE ends it; an OWN_REQ of a disjoint range that crosses one of this vault ends both. FORCE takes over every window. OWNSUMs that differ raise OWN_SPLIT. -/
def Obligations.OwnershipMovesByHandshake : Prop :=
  (∀ (q : Requester) (s : State), canWrite s q 0x28 = true →
    let st := if s.psg.handshake.isSome then 3 else if psgUp s = false then 4 else if fld s PSG_OWN_CMD_LAST < fld s PSG_OWN_CMD_FIRST then 5 else 1
    PsgFree s 1 → Completes (exec (.ownHandshakeGo q) s) (fun t => fld t PSG_OWN_CMD_STATUS = st ∧
      (st ≠ 1 → t = { s with regs := t.regs, mgt := t.mgt }) ∧
      (st = 1 → ∃ hs : Handshake, t.psg.handshake = some hs ∧ hs.first = fld s PSG_OWN_CMD_FIRST ∧ hs.last = fld s PSG_OWN_CMD_LAST ∧
        hs.giver = decide (fld s PSG_OWN_CMD_TARGET ≠ side s) ∧ t.psg.moving = hs.giver ∧
        t.out = if hs.giver then s.out else s.out ++ psgSent s [⟨5, 0, fld s PSG_OWN_CMD_TARGET, hs.last, 0, hs.first, []⟩]) ∧
      regsKept [PSG_OWN_CMD_STATUS.reg] s t)) ∧
  (∀ (h : PsgHdr) (s : State), PsgArrives s 5 h → s.psg.handshake = none → Completes (exec (.ownReq h) s) (fun t =>
    let last := h.line.toNat % 4096
    (last < h.win.toNat → fld t PSG_OWN_CMD_STATUS = 5 ∧ t.psg = s.psg) ∧
    (h.win.toNat ≤ last → fld t PSG_OWN_CMD_STATUS = 1 ∧ t.psg.moving = true ∧
      t.psg.handshake = some ⟨h.win.toNat, last, bitAt h.arg.toNat 0, true, s.now⟩) ∧
    regsKept [PSG_OWN_CMD_STATUS.reg] s t ∧ t = { s with regs := t.regs, psg := t.psg })) ∧
  (∀ (h : PsgHdr) (hs : Handshake) (s : State), PsgArrives s 5 h → s.psg.handshake = some hs → hs.giver = false →
    (h.line.toNat % 4096 < hs.first ∨ hs.last < h.win.toNat) → Completes (exec (.ownReq h) s) (fun t =>
      fld t PSG_OWN_CMD_STATUS = 3 ∧ t.psg = { s.psg with handshake := none } ∧ regsKept [PSG_OWN_CMD_STATUS.reg] s t ∧
      t = { s with regs := t.regs, psg := t.psg })) ∧
  (∀ (hs : Handshake) (s : State), psgDelivers s = true → s.psg.handshake = some hs → hs.giver = true → s.psg.moving = true →
    rangeBusy s hs.first hs.last = false → PsgFree s 1 → Completes (exec .ownGiverFlip s) (fun t =>
      ownerMoved s t hs.first hs.last (b2n hs.side) ∧ t.psg.moving = false ∧ t.psg.handshake = some hs ∧
      (∃ m, t.out = s.out ++ psgSent s [⟨6, m, b2n hs.side, hs.last, 0, hs.first, []⟩]) ∧ dramKept s t ∧ t.adm = s.adm)) ∧
  (∀ (h : PsgHdr) (s : State), PsgArrives s 6 h → s.vault ≠ .culdesac → PsgFree s 1 → Completes (exec (.ownGrant h) s) (fun t =>
    ownerMoved s t h.win.toNat (h.line.toNat % 4096) (h.arg.toNat % 2) ∧ t.psg.handshake = none ∧
    fld t PSG_OWN_CMD_STATUS = (if s.psg.handshake.any (fun x =>
      decide (x.first ≠ h.win.toNat) || decide (x.last ≠ h.line.toNat % 4096)) then 3 else 2) ∧
    t.out = s.out ++ psgSent s [⟨7, 0, h.arg.toNat % 2, h.line.toNat % 4096, 0, h.win.toNat, []⟩] ∧ dramKept s t)) ∧
  (∀ (h : PsgHdr) (hs : Handshake) (s : State), PsgArrives s 7 h → s.psg.handshake = some hs → hs.giver = true → hs.first = h.win.toNat →
    hs.last = h.line.toNat % 4096 → Completes (exec (.ownDone h) s) (fun t => t.psg = { s.psg with handshake := none, moving := false } ∧
      fld t PSG_OWN_CMD_STATUS = 2 ∧ regsKept [PSG_OWN_CMD_STATUS.reg] s t ∧ t = { s with regs := t.regs, psg := t.psg })) ∧
  (∀ (q : Requester) (s : State), canWrite s q 0x28 = true → ∃ s1, exec (.force q) s = .next (dropHalf (settle (raise s1 (srcPsg 4))) q) ∧
    (∀ w, w < 4096 → (windowOf s1 w).owner = side s) ∧ fld s1 PSG_TAKEOVER_T = (fld s PSG_TAKEOVER_T + 1) % 2 ^ 32 ∧
    flag s1 PSG_STAT_SOLO = false ∧ s1.psg.fwd = [] ∧ s1.psg.handshake = none ∧ (∀ f ∈ s1.adm.flights, f.ack = none) ∧
    s1.psg.mirrorQ = s.psg.mirrorQ ∧ s1.psg.alone = true ∧ dramKept s s1) ∧
  (∀ (q : Requester) (s : State), canWrite s q 0x28 = true → LogsOnly s (srcPsg 4) → NothingReady s → Completes (exec (.force q) s) (fun t =>
    (∀ w, w < 4096 → (windowOf t w).owner = side s) ∧ fld t PSG_TAKEOVER_T = (fld s PSG_TAKEOVER_T + 1) % 2 ^ 32 ∧
    flag t PSG_STAT_SOLO = false ∧ t.psg.fwd = [] ∧ t.psg.handshake = none ∧ flag t (FLT_STICKY_SRC 0x28 4) = true ∧ dramKept s t)) ∧
  (∀ (h : PsgHdr) (data : List Slot128) (d : Slot128) (s : State), PsgArrives s 0xF h → data.head? = some d → exec (.ownsum h data) s =
    .next (if d.toNat % 2 ^ 64 = ownSum s then s else raise s (srcPsg 5))) ∧
  (∀ (h : PsgHdr) (data : List Slot128) (d : Slot128) (s : State), PsgArrives s 0xF h → data.head? = some d → LogsOnly s (srcPsg 5) →
    Completes (exec (.ownsum h data) s) (fun t =>
      (d.toNat % 2 ^ 64 = ownSum s → t = s) ∧ (d.toNat % 2 ^ 64 ≠ ownSum s → flag t (FLT_STICKY_SRC 0x28 5) = true) ∧
      (∀ w, windowOf t w = windowOf s w) ∧ dramKept s t)) ∧
  (∀ s : State, dataUp s = true → psgUp s = true → PsgFree s 2 → Completes (exec .ownsumSend s) (fun t =>
    t.out = s.out ++ psgSent s [⟨0xF, 0, 0, 0, 0, 0, [BitVec.ofNat 128 (ownSum s)]⟩] ∧
    t = { s with out := t.out, links := t.links, psg := { s.psg with credit := s.psg.credit - 2 } }))

/-- The scrub: a unit without poison answers DIGEST by comparing its own, a first mismatch waits, a second repairs and raises MISMATCH, a
match in between was transient. FETCH is answered line by line, poisoned or good; a good line mends a poisoned one. -/
def Obligations.ScrubComparesAndFetchMends : Prop :=
  (∀ s : State, dataUp s = true → flag s PSG_CTL_SCRUB_EN = true → serving s = true → s.vault ≠ .restore → s.psg.partner ≠ some .restore →
    Completes (exec .scrubPace s) (fun t => (getCtx t 2).pend = lins 7 (getCtx s 2).pend ∧ t = { s with seq := t.seq })) ∧
  (∀ (h : PsgHdr) (data : List Slot128) (d : Slot128) (s : State), PsgArrives s 8 h → data.head? = some d → h.line.toNat < installedLines s →
    unitPoison s (unitOf h.line.toNat) = [] → NoRfm s → PsgFree s 1 →
    let same := decide ((unitDigest s (unitOf h.line.toNat)).1 = d.toNat % 2 ^ 64)
    Completes (exec (.digest h data) s) (fun t =>
      t.out = s.out ++ psgSent s [⟨9, 0, if same then 0 else 1, 256 * unitOf h.line.toNat, 0, 0, []⟩] ∧
      (same = true → ∀ e ∈ t.psg.watch, e.1 ≠ unitOf h.line.toNat) ∧
      (same = false → ∃ e ∈ t.psg.watch, e.1 = unitOf h.line.toNat) ∧ dramKept s t ∧
      (same = false → h.arg = 0 → (unitOf h.line.toNat, []) ∈ t.psg.watch) ∧
      t = { s with psg := t.psg, out := t.out, links := t.links, dram := t.dram })) ∧
  (∀ (h : PsgHdr) (s : State), PsgArrives s 9 h → h.line.toNat < installedLines s → h.arg = 1 →
    s.psg.recheck.contains (unitOf h.line.toNat) = false → Completes (exec (.digestResult h) s) (fun t =>
      t = { s with psg := { s.psg with recheck := lins (unitOf h.line.toNat) s.psg.recheck } })) ∧
  (∀ (h : PsgHdr) (s : State), PsgArrives s 9 h → h.line.toNat < installedLines s → h.arg = 0 →
    s.psg.recheck.contains (unitOf h.line.toNat) = true → Completes (exec (.digestResult h) s) (fun t =>
      t.psg = { s.psg with recheck := ldel (unitOf h.line.toNat) s.psg.recheck } ∧
      fld t PSG_SCRUB_TRANSIENT_COUNT = min (2 ^ 64 - 1) (fld s PSG_SCRUB_TRANSIENT_COUNT + 1) ∧ t = { s with regs := t.regs, psg := t.psg })) ∧
  (∀ (h : PsgHdr) (s : State), PsgArrives s 9 h → h.line.toNat < installedLines s → h.arg = 1 →
    s.psg.recheck.contains (unitOf h.line.toNat) = true → ∃ s1, exec (.digestResult h) s = .next (raise s1 (srcPsg 6)) ∧
      fld s1 PSG_LAST_MISMATCH_LINE = 256 * unitOf h.line.toNat ∧ dramKept s s1) ∧
  (∀ (u : Nat) (s : State), dataUp s = true → psgUp s = true → s.psg.recheck.contains u = true → unitPoison s u = [] →
    NoRfm s → PsgFree s 2 →
    Completes (exec (.scrubRecheck u) s) (fun t =>
      t.out = s.out ++ psgSent s [⟨8, 0, 1, 256 * u, 0, 0, [BitVec.ofNat 128 (unitDigest s u).1]⟩] ∧ dramKept s t ∧
      t = { s with out := t.out, links := t.links, dram := t.dram, psg := { s.psg with credit := s.psg.credit - 2 } })) ∧
  (∀ (h : PsgHdr) (s : State), PsgArrives s 0xB h → h.line.toNat + lineCount h.count ≤ installedLines s →
    (∀ k, k < lineCount h.count → fetchReady s (h.line.toNat + k) = true ∧
      (isPoison s (h.line.toNat + k) = true → abandoned s (h.line.toNat + k) = true)) → NoRfm s → PsgFree s (5 * lineCount h.count) →
    Completes (exec (.fetch h) s) (fun t => t.out = s.out ++ psgSent s ((List.range (lineCount h.count)).map (fun k =>
        if abandoned s (h.line.toNat + k) then ⟨0xC, 0, 1, h.line.toNat + k, 1, 0, []⟩
        else ⟨0xC, 0, 0, h.line.toNat + k, 1, 0, lineSlots (readLine s (h.line.toNat + k))⟩)) ∧
      (getCtx t 2).pend = lins 8 (getCtx s 2).pend ∧ t.regs = s.regs ∧ dramKept s t)) ∧
  (∀ (h : PsgHdr) (s : State), PsgArrives s 0xB h → lineCount h.count = 1 → h.line.toNat < installedLines s →
    fetchReady s h.line.toNat = true → isPoison s h.line.toNat = true → abandoned s h.line.toNat = false → exec (.fetch h) s =
      .next (psgSend (poisonRead (touchRow (requestRoutine s 2 8) h.line.toNat) h.line.toNat) 0xC 0 1 h.line.toNat 1 0 [])) ∧
  (∀ (h : PsgHdr) (data : List Slot128) (s : State), PsgArrives s 0xC h → h.arg = 0 → h.count = 1 → data.length = 4 →
    h.line.toNat < installedLines s → s.psg.reconFetch = none → unitReady s (unitOf h.line.toNat) = true → flag s PSG_STAT_FWD_ALL = false →
    s.psg.fetches.find? (fun e => e.1 = h.line.toNat) = some (h.line.toNat, false) → Completes (exec (.fetchData h data) s) (fun t =>
      readLine t h.line.toNat = slotsLine data ∧ isPoison t h.line.toNat = false ∧
      fld t PSG_POISON_FIXED_COUNT = min (2 ^ 64 - 1) (fld s PSG_POISON_FIXED_COUNT + 1) ∧
      (∀ e ∈ t.psg.fetches, e.1 ≠ h.line.toNat) ∧ (∀ a, a / 64 ≠ h.line.toNat → readByte t a = readByte s a) ∧
      regsKept [PSG_POISON_FIXED_COUNT.reg] s t)) ∧
  (∀ (h : PsgHdr) (data : List Slot128) (s : State), PsgArrives s 0xC h → h.arg = 1 → h.count = 1 →
    h.line.toNat < installedLines s → s.psg.reconFetch = none → unitReady s (unitOf h.line.toNat) = true →
    s.psg.fetches.find? (fun e => e.1 = h.line.toNat) = some (h.line.toNat, false) →
    ∃ s1, exec (.fetchData h data) s = .next (raise s1 (srcPsg 7)) ∧ (∀ e ∈ s1.psg.fetches, e.1 ≠ h.line.toNat) ∧
      s1 = { s with psg := s1.psg })

/-! The flash image, the flash channels and the restore. -/

/-- The boot scan starts with the first enable in BOOT and ends with READY and its result, an image that cannot be read with
result 4 (log 43); an open generation is abandoned; FORMAT erases the image in BOOT and is refused in every other state. -/
def Obligations.BootScanAndFormat : Prop :=
  (∀ (q : Requester) (s : State), canWrite s q 0x30 = true → s.vault = .boot → flag s IMG_CTL_ENABLE = false → accepts s 0x30 = true →
    Completes (exec (.bootScan q) s) (fun t => flag t IMG_CTL_ENABLE = true ∧ t.img = { s.img with scanning := true } ∧
      regsKept [IMG_CTL_ENABLE.reg] s t ∧ t = { s with regs := t.regs, mgt := t.mgt, img := t.img })) ∧
  (∀ (unread : List (Fin 32)) (s : State), s.vault = .boot → dataUp s = true → s.img.scanning = true →
    (∀ c : Fin 32, chFailed s c.val = false → c ∈ unread) → LogsOnly s (srcImg 2) → Completes (exec (.bootScanDone unread) s) (fun t =>
      flag t IMG_STAT_READY = true ∧ fld t IMG_STAT_BOOT_RESULT = 4 ∧ t.img = { s.img with scanning := false } ∧
      flag t IMG_STAT_MODE = s.img.intent ∧ fld t IMG_GEN_COMMIT_G = fld s IMG_GEN_COMMIT_G ∧ t.vault = .boot)) ∧
  (∀ s : State, s.vault = .boot → dataUp s = true → s.img.scanning = true → (∃ c : Fin 32, chFailed s c.val = false) → openFound s = 0 →
    newestGen s < 2 ^ 64 → previousGen s < 2 ^ 64 → LogsOnly s (srcImg 2) → fldAt s FLT_ESC_A_N (srcImg 2) = 0 →
    Completes (exec (.bootScanDone []) s) (fun t => flag t IMG_STAT_READY = true ∧ t.img.scanning = false ∧
      fld t IMG_STAT_BOOT_RESULT = (if keyMismatch s then 5 else if newestGen s = 0 then 1 else 2) ∧
      fld t IMG_GEN_COMMIT_G = newestGen s ∧ fld t IMG_GEN_PREV_G = previousGen s ∧ fld t IMG_GEN_OPEN_G = 0 ∧
      fld t PSG_GEN_OWN_G = newestGen s ∧ t.img.opened = [] ∧ t.img.openStripes = [] ∧ t.img.closing = none ∧
      (∀ p ∈ t.img.pages, p ∈ s.img.pages) ∧ t.img.anchors = s.img.anchors ∧ t.vault = .boot)) ∧
  (∀ s : State, s.vault = .boot → dataUp s = true → s.img.scanning = true → (∃ c : Fin 32, chFailed s c.val = false) → openFound s ≠ 0 →
    keyMismatch s = false → s.img.intent = false → newestGen s < 2 ^ 64 → LogsOnly s srcOpenAbandoned → LogsOnly s (srcImg 2) →
    fldAt s FLT_ESC_A_N (srcImg 2) = 0 → Completes (exec (.bootScanDone []) s) (fun t => flag t IMG_STAT_READY = true ∧
      fld t IMG_STAT_BOOT_RESULT = 3 ∧ fld t IMG_GEN_COMMIT_G = newestGen s ∧ fld t IMG_GEN_OPEN_G = 0 ∧ t.img.opened = [] ∧
      t.img.openStripes = [] ∧ t.img.batch = [] ∧ flag t (FLT_STICKY_SRC 0x30 4) = true)) ∧
  (∀ (unread : List (Fin 32)) (s : State), s.vault = .boot → dataUp s = true → s.img.scanning = true → anchorsRead s unread = true →
    openFound (markUnread s unread) ≠ 0 → ∃ s1, exec (.bootScanDone unread) s = .next (settleCap s1) ∧ flag s1 IMG_STAT_READY = true ∧
      s1.img.scanning = false ∧ (fld s1 IMG_STAT_BOOT_RESULT = 3 ∨ fld s1 IMG_STAT_BOOT_RESULT = 5)) ∧
  (∀ (q : Requester) (s : State), canWrite s q 0x30 = true → s.vault = .boot → flag s JCT_CTL_ENABLE = false →
    Completes (exec (.format q) s) (fun t =>
      t.img.pages = [] ∧ t.img.anchors = [] ∧ t.img.committed = [] ∧ t.img.held = [] ∧ t.img.fresh = true ∧ t.img.key = s.img.key ∧
      t.mgt.imageSlot = wrapKey Config.deviceKey (drawKey s).1 ∧ flag t IMG_STAT_READY = false ∧ fld t IMG_STAT_BOOT_RESULT = 0 ∧
      fld t IMG_GEN_COMMIT_G = 0 ∧ fld t IMG_GEN_PREV_G = 0 ∧ fld t IMG_GEN_OPEN_G = 0 ∧
      flag t IMG_STAT_MODE = flag s IMG_CTL_INTENT ∧ t.vault = .boot ∧ t.dram = s.dram)) ∧
  (∀ (q : Requester) (s : State), canWrite s q 0x30 = true → s.vault = .boot → flag s JCT_CTL_ENABLE = true →
    ∃ s1, exec (.format q) s = .next (dropHalf (unwrapKey s1) q) ∧ s1.img.pages = [] ∧ s1.img.committed = [] ∧
      s1.mgt.imageSlot = wrapKey Config.deviceKey (drawKey s).1 ∧ flag s1 IMG_STAT_READY = false ∧ s1.dram = s.dram) ∧
  (∀ s : State, s.mgt.imageSlot ≠ [] → match unwrapWords Config.deviceKey s.mgt.imageSlot with
    | some k => (unwrapKey s).img.key = some k ∧ flag (unwrapKey s) JCT_STAT_KEY_VALID = true ∧
        fld (unwrapKey s) JCT_KEY_CHECK_CHECK = (keyCheck k).toNat
    | none => ∃ s1, unwrapKey s = raise s1 (srcJct 0) ∧ s1.img.key = none ∧ flag s1 JCT_STAT_KEY_VALID = false) ∧
  (∀ (q : Requester) (s : State), canWrite s q 0x30 = true → s.vault ≠ .boot →
    exec (.format q) s = .next (dropHalf (raise s (srcImg 8)) q))

/-- A reshaping sweep marks its first batch or ends at once; collection erases a block without live pages and marks the units of
the live pages of another; the wear governor marks those of the least worn block once the spread is passed (the requests of log
42 follow). -/
def Obligations.ReshapeReclaimAndWearMarkUnits : Prop :=
  (∀ (q : Requester) (s : State), canWrite s q 0x30 = true → (collects s = true ∨ s.vault = .ride ∧ flag s IMG_STAT_READY = true) →
    (∀ u ∈ writtenUnits s, needsReshape s u = false) →
    Completes (exec (.reshape q) s) (fun t => flag t IMG_STAT_RESHAPING = false ∧ fld t IMG_WORK_RESHAPE_LEFT = 0 ∧
      4 ∈ (getCtx t 1).pend ∧ t.dram = s.dram ∧ t.img.pages = s.img.pages)) ∧
  (∀ (q : Requester) (s : State), canWrite s q 0x30 = true → collects s = true → s.vault = .serve →
    (∃ u ∈ writtenUnits s, needsReshape s u = true) → Completes (exec (.reshape q) s) (fun t => flag t IMG_STAT_RESHAPING = true ∧
      4 ∈ (getCtx t 1).pend ∧ t.img.pages = s.img.pages ∧ dramKept s t ∧
      (∀ u ∈ ((writtenUnits s).filter (fun u => needsReshape s u)).take (max 1 (fld s IMG_RESHAPE_CFG_BATCH)), isDirty t u = true))) ∧
  (∀ (block : Nat) (s : State), collects s = true → flag s IMG_CTL_GC_EN = true → agedUnits s = [] → block ∈ s.img.held →
    block ∉ s.img.retired → blockOpen s block = false → livePages s block = [] → LogsOnly s (srcImg 2) →
    Completes (exec (.gcReclaim block) s) (fun t => t.img.held = ldel block s.img.held ∧
      (∀ p ∈ t.img.pages, groupBlock p.stripe ≠ block) ∧ (∀ p ∈ s.img.pages, groupBlock p.stripe ≠ block → p ∈ t.img.pages) ∧
      nget t.img.erases block = nget s.img.erases block + 1 ∧
      (∀ m : Fin 8, chFailed s (block / 2 ^ 18 + 4 * m.val) = false → (block, block / 2 ^ 18 + 4 * m.val) ∈ t.img.erasing) ∧
      t.vault = s.vault ∧ t.dram = s.dram)) ∧
  (∀ (block : Nat) (s : State), collects s = true → flag s IMG_CTL_GC_EN = true → agedUnits s = [] → block ∈ s.img.held →
    blockOpen s block = false → livePages s block ≠ [] → s.vault = .serve → Completes (exec (.gcReclaim block) s) (fun t =>
      (∀ u ∈ (unitsOn (livePages s block) 1).take (shareLeft s), isDirty t u = true ∧ u ∈ t.img.relocating) ∧
      (∀ k ∈ unitsOn (livePages s block) 2, k ∈ t.img.spans) ∧ 5 ∈ (getCtx t 1).pend ∧ t.img.pages = s.img.pages ∧
      t.img.held = s.img.held ∧ dramKept s t)) ∧
  (∀ (block : Nat) (s : State), collects s = true → flag s IMG_CTL_GC_EN = true → agedUnits s ≠ [] → block ∉ s.img.held →
    s.vault = .serve → Completes (exec (.gcReclaim block) s) (fun t => (∀ u ∈ agedUnits s, isDirty t u = true ∧ u ∈ t.img.relocating) ∧
      5 ∈ (getCtx t 1).pend ∧ t.img.pages = s.img.pages ∧ t.img.held = s.img.held ∧ dramKept s t)) ∧
  (∀ s : State, fld s IMG_WEAR_MAX ≤ fld s IMG_WEAR_MIN + fld s IMG_WEAR_SPREAD → exec .wearRelocate s = .next s) ∧
  (∀ (b : Nat) (s : State), collects s = true → s.vault = .serve → fld s IMG_WEAR_MIN + fld s IMG_WEAR_SPREAD < fld s IMG_WEAR_MAX →
    leastWorn s = some b → LogsOnly s (srcImg 5) → Completes (exec .wearRelocate s) (fun t =>
      flag t (FLT_STICKY_SRC 0x30 5) = true ∧ (∀ u ∈ (unitsOn (livePages s b) 1).take (shareLeft s), isDirty t u = true) ∧
      5 ∈ (getCtx t 1).pend ∧ t.img.pages = s.img.pages ∧ dramKept s t))

/-- Flash operations: success resets the count of timeouts in a row; a failed program leaves a bad page, its unit or ledger page
to be written again and a record on the next anchor page; a failed erase and an unreadable page are counted and raised; the
third timeout in a row fails the channel. A channel that is retired degrades its group and starts a rebuild; training brings an
enabled one up that has not failed, and a new enable brings a failed one back; a lost Arcade PLL fails its eight channels; the
self-test leaves its result. -/
def Obligations.FlashOperationsAndChannels : Prop :=
  (∀ (ch : Fin 32) (stripe : BitVec 32) (s : State), dataUp s = true →
    (inAnchors stripe = false ∧ ((placeOn ch stripe).bind (pageAt s)).isSome = true ∨
      inAnchors stripe = true ∧ (anchorAt s ch.val stripe).isSome = true) →
    Completes (exec (.flashProgramDone ch stripe true) s) (fun t =>
      t = { s with img := { s.img with timeouts := nset s.img.timeouts ch.val 0 } })) ∧
  (∀ (ch : Fin 32) (stripe : BitVec 32) (d : DirEntry) (p : FlashPage) (h : PageHeader) (ls : List Line) (s : State), dataUp s = true →
    inAnchors stripe = false → placeOn ch stripe = some d → pageAt s d = some p → p.body = .page h ls → h.typ = 1 ∨ h.typ = 2 →
    LogsOnly s (srcFch ch.val 0) → LogsOnly s (srcFch ch.val 6) → LogsOnly s (srcImg 2) →
    ∃ s1, exec (.flashProgramDone ch stripe false) s = .next (countFail s1 ch.val) ∧
      (∀ x ∈ s1.img.pages, x.stripe = d.stripe → x.member = d.member → x.bad = true) ∧
      (h.typ = 1 → liveState s = true → isNewest s h.unit p = true → isDirty s1 h.unit = true) ∧
      (h.typ = 2 → (sget DirEntry.none_ s.img.openDir.dir h.unit).names p.stripe p.member = true → h.unit ∈ s1.img.spans) ∧
      fld s1 (FCH_FAILS_PROG.inst ch.val) = min (2 ^ 32 - 1) (fld s (FCH_FAILS_PROG.inst ch.val) + 1)) ∧
  (∀ (ch : Fin 32) (stripe : BitVec 32) (a : AnchorPage) (s : State), dataUp s = true → inAnchors stripe = true →
    anchorAt s ch.val stripe = some a → LogsOnly s (srcFch ch.val 0) → LogsOnly s (srcFch ch.val 6) → LogsOnly s (srcImg 2) →
    ∃ s1, exec (.flashProgramDone ch stripe false) s = .next (countFail (programRecord s1 ch.val a.record true) ch.val) ∧
      (∀ x ∈ s1.img.anchors, x.chan = a.chan → x.at_ = a.at_ → x.bad = true) ∧
      fld s1 (FCH_FAILS_PROG.inst ch.val) = min (2 ^ 32 - 1) (fld s (FCH_FAILS_PROG.inst ch.val) + 1)) ∧
  (∀ (ch : Fin 32) (block : Nat) (s : State), dataUp s = true → block / 2 ^ 18 = ch.val % 4 →
    Completes (exec (.flashEraseDone ch block true) s) (fun t => t = { s with img := { s.img with
      timeouts := nset s.img.timeouts ch.val 0, erasing := s.img.erasing.filter (fun e => e ≠ (block, ch.val)) } }) ∧
    (∃ s1 s2, s2 = remapBlock (raise s1 (srcFch ch.val 1)) ch.val block ∧
      exec (.flashEraseDone ch block false) s = .next (countFail (if s2.img.retired.contains block then s2
        else toDevice s2 ch.val (.erase (physical s2 ch.val block).1 (physical s2 ch.val block).2)) ch.val) ∧
      fld s1 (FCH_FAILS_ERASE.inst ch.val) = min (2 ^ 32 - 1) (fld s (FCH_FAILS_ERASE.inst ch.val) + 1) ∧
      regsKept [(FCH_FAILS_ERASE.inst ch.val).reg] s s1)) ∧
  (∀ (ch : Fin 32) (stripe : BitVec 32) (o : FlashRead) (n : Nat) (s : State), dataUp s = true → o.hard = some n →
    headerFails s ch stripe o = false → Completes (exec (.flashReadDone ch stripe o) s) (fun t =>
      fld t (FCH_LDPC_CORR_COUNT.inst ch.val) = min (2 ^ 64 - 1) (fld s (FCH_LDPC_CORR_COUNT.inst ch.val) + n) ∧
      regsKept [(FCH_LDPC_CORR_COUNT.inst ch.val).reg] s t ∧ nget t.img.timeouts ch.val = 0 ∧ t = { s with regs := t.regs, img := t.img })) ∧
  (∀ (ch : Fin 32) (stripe : BitVec 32) (o : FlashRead) (n : Nat) (s : State), dataUp s = true → o.hard = none →
    readDecode o (fld s (FCH_TIME_RETRY_MAX.inst ch.val)) = some n → headerFails s ch stripe o = false → LogsOnly s (srcFch ch.val 3) →
    Completes (exec (.flashReadDone ch stripe o) s) (fun t =>
      fld t (FCH_RETRIES_COUNT.inst ch.val) = min (2 ^ 64 - 1) (fld s (FCH_RETRIES_COUNT.inst ch.val) + 1) ∧
      fld t (FCH_LDPC_CORR_COUNT.inst ch.val) = min (2 ^ 64 - 1) (fld s (FCH_LDPC_CORR_COUNT.inst ch.val) + n) ∧
      flag t (FLT_STICKY_SRC (0x60 + ch.val) 3) = true ∧ t.img.pages = s.img.pages ∧ dramKept s t)) ∧
  (∀ (ch : Fin 32) (stripe : BitVec 32) (o : FlashRead) (s : State), dataUp s = true → LogsOnly s (srcFch ch.val 3) →
    (readDecode o (fld s (FCH_TIME_RETRY_MAX.inst ch.val)) = none ∨ headerFails s ch stripe o = true) → ∃ s1,
    exec (.flashReadDone ch stripe o) s = .next (pageUnreadable (raise s1 (srcFch ch.val 2)) ch stripe) ∧ s1.img.pages = s.img.pages ∧
    fld s1 (FCH_UNREADABLE_COUNT.inst ch.val) = min (2 ^ 64 - 1) (fld s (FCH_UNREADABLE_COUNT.inst ch.val) + 1)) ∧
  (∀ (p : FlashPage) (h : PageHeader) (r : FlashPage × Bool) (s : State), p.header = some h → h.typ = 1 → liveState s = true →
    s.vault ≠ .restore → isNewest s h.unit p = true → copyOf s (newestEntry s h.unit) = some r →
    isDirty (memberLost s p) h.unit = true ∧ dramKept s (memberLost s p)) ∧
  (∀ (p : FlashPage) (h : PageHeader) (s : State), p.header = some h → h.typ = 1 → liveState s = true →
    isNewest s h.unit p = true → copyOf s (newestEntry s h.unit) = none → memberLost s p = unitGone s h.unit) ∧
  (∀ (ch : Fin 32) (s : State), dataUp s = true → nget s.img.timeouts ch.val < 2 → ∃ s1,
    exec (.flashCmdTimeout ch) s = .next (raise s1 (srcFch ch.val 4)) ∧ nget s1.img.timeouts ch.val = nget s.img.timeouts ch.val + 1 ∧
    s1 = { s with img := s1.img }) ∧
  (∀ (ch : Fin 32) (s : State), dataUp s = true → nget s.img.timeouts ch.val < 2 → LogsOnly s (srcFch ch.val 4) →
    Completes (exec (.flashCmdTimeout ch) s) (fun t => flag t (FLT_STICKY_SRC (0x60 + ch.val) 4) = true ∧
      t.img = { s.img with timeouts := nset s.img.timeouts ch.val (nget s.img.timeouts ch.val + 1) } ∧ t.vault = s.vault ∧ dramKept s t)) ∧
  (∀ (ch : Fin 32) (s : State), dataUp s = true → nget s.img.timeouts ch.val = 2 → ∃ s1,
    exec (.flashCmdTimeout ch) s = .next (failChannel s1 ch.val 3) ∧ nget s1.img.timeouts ch.val = 0) ∧
  (∀ (q : Requester) (ch : Fin 32) (s : State), canWrite s q (0x60 + ch.val) = true → chFailed s ch.val = false →
    fld s IMG_ANCHOR_CH1 ≠ ch.val → fld s IMG_ANCHOR_CH2 ≠ ch.val → LogsOnly s (srcFch ch.val 5) → LogsOnly s srcDegraded →
    LogsOnly s srcLost → fldAt s FLT_ESC_A_N srcLost = 0 → Completes (exec (.retire q ch) s) (fun t =>
      fld t (FCH_STAT_STATE.inst ch.val) = 4 ∧
      chFailed t ch.val = true ∧ (∀ c, c < 32 → c ≠ ch.val → chFailed t c = chFailed s c) ∧
      bitAt (fld t IMG_STAT_DEGRADED) (ch.val % 4) = true ∧ flag t IMG_STAT_REBUILDING = true ∧
      bitAt (fld t (ARC_STAT_CH_UP.inst (ch.val / 8))) (ch.val % 8) = false ∧ 2 ≤ t.img.rebuildLeft ∧
      (∀ p ∈ s.img.pages, p ∈ t.img.pages) ∧ dramKept s t)) ∧
  (∀ (q : Requester) (ch : Fin 32) (s : State), canWrite s q (0x60 + ch.val) = true → chFailed s ch.val = true →
    LogsOnly s (srcFch ch.val 5) → Completes (exec (.retire q ch) s) (fun t => fld t (FCH_STAT_STATE.inst ch.val) = 4 ∧
      flag t (FLT_STICKY_SRC (0x60 + ch.val) 5) = true ∧ fld t IMG_STAT_FAILED = fld s IMG_STAT_FAILED ∧ t.img = s.img ∧ dramKept s t)) ∧
  (∀ (q : Requester) (ch : Fin 32) (s : State), canWrite s q (0x60 + ch.val) = true → flag s (FCH_CTL_ENABLE.inst ch.val) = true →
    geometryOk s ch.val = true → chFailed s ch.val = false → Completes (exec (.flashTrain q ch true) s) (fun t =>
      fld t (FCH_STAT_STATE.inst ch.val) = 2 ∧ bitAt (fld t (ARC_STAT_CH_UP.inst (ch.val / 8))) (ch.val % 8) = true ∧
      t.out = s.out ++ [.flash ch.val .zqCal, .flash ch.val .dccTrain, .flash ch.val .readDqTrain, .flash ch.val .writeDqTrain] ∧
      t = { s with regs := t.regs, mgt := t.mgt, draws := t.draws, out := t.out })) ∧
  (∀ (q : Requester) (ch : Fin 32) (s : State), canWrite s q (0x60 + ch.val) = true → flag s (FCH_CTL_ENABLE.inst ch.val) = true →
    ∃ s1, exec (.flashTrain q ch false) s = .next (dropHalf (failChannel s1 ch.val 3) q) ∧ s1 = { s with out := s1.out }) ∧
  (∀ (q : Requester) (ch : Fin 32) (ok : Bool) (s : State), canWrite s q (0x60 + ch.val) = true →
    flag s (FCH_CTL_ENABLE.inst ch.val) = false → Completes (exec (.flashTrain q ch ok) s) (fun t => t = { s with mgt := t.mgt })) ∧
  (∀ (q : Requester) (ch : Fin 32) (s : State), canWrite s q (0x60 + ch.val) = true → flag s (FCH_CTL_ENABLE.inst ch.val) = false →
    chFailed s ch.val = true → geometryOk (channelEnable s ch.val) ch.val = true → Completes (exec (.channelReturn q ch true) s) (fun t =>
      fld t (FCH_STAT_STATE.inst ch.val) = 2 ∧ flag t (FCH_CTL_ENABLE.inst ch.val) = true ∧ chFailed t ch.val = false ∧
      (∀ c, c < 32 → c ≠ ch.val → chFailed t c = chFailed s c) ∧ nget t.img.fails ch.val = 0 ∧ (∀ e ∈ t.img.remap, e.1 ≠ ch.val) ∧
      (∀ a ∈ t.img.anchors, a.chan ≠ ch.val) ∧ nget t.img.anchorNext ch.val = 0 ∧
      t.img.pages = s.img.pages.filter (fun p => channelOf p.stripe p.member ≠ ch.val) ∧ t.dram = s.dram)) ∧
  (∀ (q : Requester) (ch : Fin 32) (s : State), canWrite s q (0x60 + ch.val) = true → flag s (FCH_CTL_ENABLE.inst ch.val) = false →
    chFailed s ch.val = true → LogsOnly s (srcFch ch.val 5) → Completes (exec (.channelReturn q ch false) s) (fun t =>
      fld t (FCH_STAT_STATE.inst ch.val) = 3 ∧ flag t (FCH_CTL_ENABLE.inst ch.val) = true ∧ chFailed t ch.val = true ∧
      flag t (FLT_STICKY_SRC (0x60 + ch.val) 5) = true ∧ t.img = s.img ∧ dramKept s t)) ∧
  (∀ (a : Fin 4) (s : State), dataUp s = true → ∃ s1, exec (.arcadePllLoss a) s =
      .next ((List.range 8).foldl (fun x i => failChannel x (8 * a.val + i) 3) (raise s1 (srcArc a.val 0))) ∧
    bitAt (fld s1 CLK_STAT_ARCADE) a.val = false ∧
    fld s1 CLK_LOCK_LOSS_COUNT = min (2 ^ 64 - 1) (fld s CLK_LOCK_LOSS_COUNT + 1) ∧
    regsKept [CLK_STAT_ARCADE.reg, CLK_LOCK_LOSS_COUNT.reg] s s1 ∧ s1 = { s with regs := s1.regs }) ∧
  (∀ (a : Fin 4) (s : State), dataUp s = true → LogsOnly s (srcArc a.val 0) →
    (∀ i, i < 8 → chFailed s (8 * a.val + i) = true ∧ LogsOnly s (srcFch (8 * a.val + i) 5)) → Completes (exec (.arcadePllLoss a) s) (fun t =>
      bitAt (fld t CLK_STAT_ARCADE) a.val = false ∧ (∀ i, i < 8 → fld t (FCH_STAT_STATE.inst (8 * a.val + i)) = 3) ∧
      flag t (FLT_STICKY_SRC (0x38 + a.val) 0) = true ∧ fld t IMG_STAT_FAILED = fld s IMG_STAT_FAILED ∧ t.img = s.img ∧ dramKept s t)) ∧
  (∀ (q : Requester) (s : State), canWrite s q 0x31 = true → Completes (exec (.selftest q true) s) (fun t =>
    flag t JCT_STAT_SELFTEST_OK = true ∧ regsKept [JCT_STAT_SELFTEST_OK.reg] s t ∧ t = { s with regs := t.regs, mgt := t.mgt })) ∧
  (∀ (q : Requester) (s : State), canWrite s q 0x31 = true → ∃ s1, exec (.selftest q false) s = .next (dropHalf (raise s1 (srcJct 1)) q) ∧
    flag s1 JCT_STAT_SELFTEST_OK = false ∧ regsKept [JCT_STAT_SELFTEST_OK.reg] s s1)

/-- A commit is one record on two anchor copies: the first copy puts the record on an anchor page and leaves the committed
ledger as it was, one that fails its check leaves a bad page, and with the second the ledger being closed is the committed one;
a dump's commit then ends in ALLEY, or in the hold where the main rail is back. A word of the bitmap SRAM that cannot be
corrected sets every bit of the word. -/
def Obligations.CommitsStandOnTwoCopies : Prop :=
  (∀ (first count : Nat) (s : State), dataUp s = true → ∃ s1, exec (.imgSramError (.bitmap first) count) s = .next (raise s1 (srcImg 7)) ∧
    (∀ u, first ≤ u → u < first + count → u < installedUnits s → isDirty s1 u = true) ∧
    (∀ u, u < first ∨ first + count ≤ u → isDirty s1 u = isDirty s u) ∧ s1.regs = s.regs ∧ dramKept s s1) ∧
  (∀ (first count : Nat) (s : State), dataUp s = true → LogsOnly s (srcImg 7) →
    Completes (exec (.imgSramError (.bitmap first) count) s) (fun t =>
      (∀ u, first ≤ u → u < first + count → u < installedUnits s → isDirty t u = true) ∧
      (∀ u, u < first ∨ first + count ≤ u → isDirty t u = isDirty s u) ∧ flag t (FLT_STICKY_SRC 0x30 7) = true ∧ t.img = s.img ∧
      dramKept s t)) ∧
  (∀ (n : Nat) (s : State), dataUp s = true → exec (.imgSramError .corrected n) s = .next (raise s (srcImg 6))) ∧
  (∀ (n : Nat) (r : Record) (s : State), dataUp s = true → commitOf s (newestGen s) = some r →
    ∃ s1, exec (.imgSramError .directory n) s = .next (raise s1 (srcImg 7)) ∧ s1.img.commDir.dir = (loadDirectory s r).1 ∧
      s1 = { s with img := { s.img with commDir := s1.img.commDir } }) ∧
  (∀ (c : Closing) (verified : Bool) (s : State), dataUp s = true → s.img.closing = some c → commitStands s c.gen = none →
    chFailed s (fld s IMG_ANCHOR_CH1) = false → Completes (exec (.commitCopy1Done verified) s) (fun t =>
      (∃ a ∈ t.img.anchors, a.chan = fld s IMG_ANCHOR_CH1 ∧ a.record = commitRecord s c ∧ a.bad = !verified) ∧
      (commitStands t c.gen).isSome = verified ∧
      fld t PWR_DUMP_STAT_PHASE = (if c.dump && verified then 7 else fld s PWR_DUMP_STAT_PHASE) ∧ t.img.committed = s.img.committed ∧
      t.img.closing = s.img.closing ∧ t = { s with regs := t.regs, img := t.img, out := t.out })) ∧
  (∀ (verified : Bool) (s : State), s.img.closing = none → exec (.commitCopy1Done verified) s = .next s) ∧
  (∀ (c : Closing) (r : Record) (s : State), dataUp s = true → s.img.closing = some c → c.dump = false → commitStands s c.gen = some r →
    chFailed s (fld s IMG_ANCHOR_CH2) = false → c.gen < 2 ^ 64 → s.img.rebuildLeft = 0 → s.img.reshapeAt = none →
    Completes (exec .commitCopy2Done s) (fun t =>
      t.img.committed = mergeLedger c.ledger s.img.committed ∧ t.img.previous = s.img.committed ∧ t.img.commDir = c.dirs ∧
      t.img.prevDir = s.img.commDir ∧ t.img.log = c.log ∧ t.img.opened = s.img.opened ∧ t.img.closing = none ∧
      (∃ a ∈ t.img.anchors, a.chan = fld s IMG_ANCHOR_CH2 ∧ a.record = r ∧ a.bad = false) ∧ fld t IMG_GEN_COMMIT_G = c.gen ∧
      fld t IMG_GEN_PREV_G = fld s IMG_GEN_COMMIT_G ∧ fld t IMG_GEN_OPEN_G = fld s IMG_GEN_OPEN_G ∧ fld t PSG_GEN_OWN_G = c.gen ∧
      flag t PWR_STAT_CKPT = false ∧ t.vault = s.vault ∧ t.dram = s.dram)) ∧
  (∀ (c : Closing) (r : Record) (s : State), dataUp s = true → s.vault = .dump → s.img.closing = some c → c.dump = true →
    commitStands s c.gen = some r → mainPresent s = false → Completes (exec .commitCopy2Done s) (fun t =>
      t.vault = .alley ∧ t.img.committed = mergeLedger c.ledger s.img.committed ∧ t.img.log = c.log ∧ t.adm.flights = [] ∧
      (∀ l : Fin 8, fld t (BLV_STAT_STATE.inst l.val) = 4))) ∧
  (∀ (c : Closing) (r : Record) (s : State), dataUp s = true → s.vault = .dump → s.img.closing = some c → c.dump = true →
    commitStands s c.gen = some r → mainPresent s = true → Completes (exec .commitCopy2Done s) (fun t =>
      t.vault = .dump ∧ t.img.committed = mergeLedger c.ledger s.img.committed ∧ flag t IMG_RST_STAT_HOLD = true ∧
      fld t PWR_DUMP_STAT_PHASE = 8 ∧ t.dram = s.dram))

/-- A restored unit that is not the last leaves the demand queue, and is dirty where it was to be; what no partner gives of a
lost unit is poisoned (log 44); the refusal log is read by entry and applied entry by entry, a WR by a fetch (log 44), and RECON
ends by firmware. -/
def Obligations.RestoreAndReconciliation : Prop :=
  (∀ (u : Nat) (s : State), rstMode s = true → dataUp s = true → u < installedUnits s → isRestored s u = false → restoreDone s u = true →
    allRestored (setRestored s u true) = false → s.psg.fetchWait = [] → Completes (exec (.unitRestored u) s) (fun t =>
      isRestored t u = true ∧ (∀ v, v ≠ u → isRestored t v = isRestored s v) ∧ t.pwr.demand = s.pwr.demand.filter (fun v => v ≠ u) ∧
      (u ∈ s.img.dirtyOnRestore → isDirty t u = true) ∧ t.vault = s.vault ∧ t.regs = s.regs ∧ dramKept s t)) ∧
  (∀ s : State, s.vault = .restore → dataUp s = true → (psgUp s = false ∨ partnerServes s = false) →
    (∃ u ∈ lostUnits s, u < installedUnits s ∧ isRestored s u = false ∧ restoreDone s u = false) → ∃ s1, exec .lostWaitExpire s = .next (raise s1 (srcImg 10)) ∧
      (∀ u ∈ lostUnits s, u < installedUnits s → isRestored s u = false → ∀ k, k < 256 → bitAt (nget s.img.restoring u) k = false →
        isPoison s1 (256 * u + k) = true) ∧ (∀ a, readByte s1 a = readByte s a) ∧ s1.pwr.lostWaitOver = true ∧ s1.regs = s.regs) ∧
  (∀ s : State, rstMode s = true → dataUp s = true → (s.vault ≠ .restore ∨ psgUp s = true ∧ partnerServes s = true) →
    Completes (exec .lostWaitExpire s) (fun t => t = { s with pwr := { s.pwr with lostWaitOver := true } })) ∧
  (∀ (q : Requester) (e : LogEntry) (l : Nat) (s : State), canWrite s q 0x30 = true → serving s = true → flag s IMG_RLOG_IDX_BUSY = false →
    flag s PSG_STAT_FWD_ALL = false → s.pwr.log[indexOf s q IMG_RLOG_IDX_INDEX]? = some e → loggedLine s e = some l →
    e.hdr.toNat % 32 ≠ opWR → l + lineCount (BitVec.ofNat 6 (bitsOf e.hdr.toNat 88 83)) ≤ installedLines s →
    (reqUnits l (lineCount (BitVec.ofNat 6 (bitsOf e.hdr.toNat 88 83)))).all (unitReady s) = true → isPoison s l = false →
    Completes (exec (.apply q) s) (fun t =>
      readLine t l = (wordOp (e.hdr.toNat % 32) (readLine s l) (bitsOf e.hdr.toNat 95 92) [e.slot]).line ∧
      (∀ a, a / 64 ≠ l → readByte t a = readByte s a) ∧ isDirty t (unitOf l) = true ∧
      t.pwr.log[indexOf s q IMG_RLOG_IDX_INDEX]? = some { e with result := 1 } ∧
      (∀ i, i ≠ indexOf s q IMG_RLOG_IDX_INDEX → t.pwr.log[i]? = s.pwr.log[i]?) ∧ 10 ∈ (getCtx t 3).pend)) ∧
  (∀ (q : Requester) (e : LogEntry) (l : Nat) (s : State), canWrite s q 0x30 = true → serving s = true → flag s IMG_RLOG_IDX_BUSY = false →
    psgUp s = true → s.pwr.log[indexOf s q IMG_RLOG_IDX_INDEX]? = some e → loggedLine s e = some l → e.hdr.toNat % 32 = opWR →
    l + lineCount (BitVec.ofNat 6 (bitsOf e.hdr.toNat 88 83)) ≤ installedLines s →
    (reqUnits l (lineCount (BitVec.ofNat 6 (bitsOf e.hdr.toNat 88 83)))).all (unitReady s) = true → Completes (exec (.apply q) s) (fun t =>
      flag t IMG_RLOG_IDX_BUSY = true ∧ t.psg.reconFetch = some (indexOf s q IMG_RLOG_IDX_INDEX,
        (List.range (lineCount (BitVec.ofNat 6 (bitsOf e.hdr.toNat 88 83)))).map (fun k => l + k), false) ∧ t.dram = s.dram)) ∧
  (∀ (q : Requester) (s : State), canWrite s q 0x30 = true → (serving s = false ∨ flag s IMG_RLOG_IDX_BUSY = true) →
    Completes (exec (.apply q) s) (fun t => t = { s with mgt := t.mgt })) ∧
  (∀ (q : Requester) (i : BitVec 14) (s : State), canWrite s q 0x30 = true → Completes (exec (.rlogIndexLoad q i) s) (fun t =>
    indexOf t q IMG_RLOG_IDX_INDEX = i.toNat ∧ (∀ k, k < 4 → sget (0 : Word) t.snaps (rkey 0 (reqBank q) 0x30 (0x1B0 + 8 * k)) =
      BitVec.ofNat 64 (logWord s i.toNat k)) ∧ t = { s with regs := t.regs, mgt := t.mgt, snaps := t.snaps })) ∧
  (∀ (q : Requester) (s : State), canWrite s q 0x30 = true → Completes (exec (.reconDone q) s) (fun t => flag t IMG_RST_STAT_RECON = false ∧
    regsKept [IMG_RST_STAT_RECON.reg] s t ∧ t = { s with regs := t.regs, mgt := t.mgt })) ∧
  (∀ (q : Requester) (s : State), canWrite s q 0x30 = true → ∃ s1, exec (.reconAbandon q) s = .next (dropHalf (raise s1 (srcImg 11)) q) ∧
    flag s1 IMG_RST_STAT_RECON = false ∧ regsKept [IMG_RST_STAT_RECON.reg] s s1 ∧ s1 = { s with regs := s1.regs }) ∧
  (∀ (q : Requester) (s : State), canWrite s q 0x30 = true → LogsOnly s (srcImg 11) → Completes (exec (.reconAbandon q) s) (fun t =>
    flag t IMG_RST_STAT_RECON = false ∧ flag t (FLT_STICKY_SRC 0x30 11) = true ∧ t.vault = s.vault ∧ dramKept s t))

/-! The sequencer: microwords. -/

/-- The microwords with no path or kind, each with its OPC (R249). -/
def microRows (c : Fin 4) (m : Micro) : List (Nat × Bool × Instr) :=
  [(0x00, true, .seqNop c m), (0x01, true, .seqMov c m), (0x02, true, .seqAdd c m), (0x03, true, .seqSub c m),
   (0x04, true, .seqAnd c m), (0x05, true, .seqOr c m), (0x06, true, .seqXor c m), (0x07, true, .seqShl c m),
   (0x08, true, .seqShr c m), (0x09, true, .seqCmp c m), (0x0A, true, .seqBr c m), (0x0B, true, .seqCall c m),
   (0x0C, true, .seqRet c m), (0x0D, true, .seqLds c m), (0x0E, true, .seqSts c m), (0x0F, true, .seqLdl c m),
   (0x10, true, .seqTime c m), (0x11, true, .seqMap c m), (0x12, true, .seqFindd c m), (0x13, true, .seqFindr c m),
   (0x15, true, .seqScatter c m), (0x16, true, .seqDigest c m), (0x17, true, .seqLedger c m), (0x18, true, .seqClose c m),
   (0x1A, true, .seqCommit c m), (0x1B, true, .seqMsg c m), (0x1C, true, .seqWaite c m), (0x1D, true, .seqEvt c m),
   (0x1E, true, .seqHook c m), (0x1F, true, .seqReth c m), (0x20, true, .seqReti c m), (0x21, true, .seqEnd c m)]

/-- COPY and RECORD, each with the path or kind that selects it (R249, R250). -/
def pathRows (c : Fin 4) (m : Micro) : List (Nat × Bool × Instr) :=
  [(0x14, copyPath m = 0, .copyDramToImage c m), (0x14, copyPath m = 1, .copyImageToDram c m),
   (0x14, copyPath m = 2, .copyDramToPassage c m), (0x14, copyPath m = 3, .copyDramToDram c m),
   (0x14, copyPath m = 4, .copyImageToImage c m), (0x14, copyPath m = 5, .copyZeroToDram c m),
   (0x19, bitsOf m.mod.toNat 2 1 = 0, .recordOpen c m), (0x19, bitsOf m.mod.toNat 2 1 = 1, .recordIntent c m),
   (0x19, bitsOf m.mod.toNat 2 1 = 2, .recordVoid c m)]

/-- The word stands at the PC of a ready context, its predicate holds, and it is legal where it stands. -/
def seqReady (s : State) (c : Fin 4) (opc : Nat) (m : Micro) : Prop :=
  issues s c opc m = true ∧ m.cond.toNat ≤ 10 ∧ condHolds (getCtx s c).flags m.cond.toNat = true ∧
    (inCust (getCtx s c) = true → custAllowed opc (getCtx s c).hook.isSome = true) ∧
    ((getCtx s c).run = 3 → handlerBars opc = false) ∧ ((getCtx s c).run = 5 → yields opc = false)

/-- Nothing but context c has changed. -/
def onlyCtx (c : Fin 4) (s t : State) : Prop :=
  (∀ d, d ≠ c → getCtx t d = getCtx s d) ∧ t.seq.bankA = s.seq.bankA ∧ t.seq.bankB = s.seq.bankB ∧
    t.seq.dirtied = s.seq.dirtied ∧ t = { s with seq := t.seq }

/-- Of context c the PC has gone to pc; registers, flags, stack and scratch are as before. -/
def movedTo (pc : BitVec 14) (c : Fin 4) (s t : State) : Prop :=
  (getCtx t c).pc = pc ∧ (getCtx t c).g = (getCtx s c).g ∧ (getCtx t c).flags = (getCtx s c).flags ∧
    (getCtx t c).stack = (getCtx s c).stack ∧ (getCtx t c).scratch = (getCtx s c).scratch

/-- Of context c RD has become v and the PC is at the next word. -/
def wroteReg (rd : BitVec 4) (v : Word) (c : Fin 4) (s t : State) : Prop :=
  (getCtx t c).g = (getCtx s c).g.set rd.toNat v ∧ (getCtx t c).pc = (getCtx s c).pc + 1 ∧
    (getCtx t c).flags = (getCtx s c).flags ∧ (getCtx t c).stack = (getCtx s c).stack ∧ (getCtx t c).scratch = (getCtx s c).scratch

/-- The microword completes: it has its effect, and the budget of a hook is looked at after it (R263). -/
def Issues (r : Res) (c : Fin 4) (p : State → Prop) : Prop := Completes r (fun u => ∃ t, u = hookBudget t c ∧ p t)

/-- Lines l to l + n - 1 are read without a class action: no activation draws an RFM, and poison is logged alone. -/
def ReadsQuietly (s : State) (l n : Nat) : Prop :=
  (∀ k, k < 512 → nget s.dram.raa k + 2 < fld s ADM_REF_RFM_TH + fld s ADM_REF_RAA_RFM_DEC) ∧
    ∀ i, i < n → isPoison s (l + i) = true → LogsOnly s (srcDrc (subOf s (l + i) / 8) 2) ∧
      fldAt s FLT_ESC_A_N (srcDrc (subOf s (l + i) / 8) 2) = 0

/-- A page of context c and a layout finds a place, and erased blocks that run low are logged alone. -/
def FindsStripe (s : State) (c : Fin 4) (layout : Nat) : Prop :=
  LogsOnly s (srcImg 2) ∧ fldAt s FLT_ESC_A_N (srcImg 2) = 0 ∧ (stripeFor s c.val layout none).any (fun r =>
    decide (r.1.filled < r.1.slots.length) && r.2.img.held.contains (groupBlock r.1.stripe)) = true

/-- The newest entry of unit u names a page of t with that header and payload. -/
def copyAt (t : State) (u : Nat) (q : PageHeader → List Line → Prop) : Prop :=
  ∃ p ∈ t.img.pages, (newestEntry t u).names p.stripe p.member = true ∧ ∃ h ls, p.body = .page h ls ∧ h.typ = 1 ∧ h.unit = u ∧ q h ls

/-- Pages of s that t has lost lay in blocks of the erased pool. -/
def pagesKept (s t : State) : Prop := ∀ p ∈ s.img.pages, p ∈ t.img.pages ∨ groupBlock p.stripe ∉ s.img.held

/-- The other contexts and the control store are as before. -/
def othersKept (c : Fin 4) (s t : State) : Prop :=
  (∀ d, d ≠ c → getCtx t d = getCtx s d) ∧ t.seq.bankA = s.seq.bankA ∧ t.seq.bankB = s.seq.bankB

/-- A microword has no effect unless it stands at the PC of a ready context (log 47); a predicate that does not hold skips it; a
reserved predicate, a word not allowed in the customer region, and one barred from a handler or a post-commit section trap. -/
def Obligations.MicrowordsIssueAtTheirPlace : Prop :=
  ∀ (c : Fin 4) (m : Micro) (opc : Nat) (sel : Bool) (i : Instr) (s : State), (opc, sel, i) ∈ microRows c m ++ pathRows c m →
    (sel = false ∨ issues s c opc m = false → exec i s = .next s) ∧
    (sel = true → issues s c opc m = true → 10 < m.cond.toNat → exec i s = .next (hookBudget (seqTrap (countHook s c) c 2) c)) ∧
    (sel = true → issues s c opc m = true → m.cond.toNat ≤ 10 → condHolds (getCtx s c).flags m.cond.toNat = false →
      exec i s = .next (hookBudget (retire (countHook s c) c) c)) ∧
    (sel = true → issues s c opc m = true → m.cond.toNat ≤ 10 → condHolds (getCtx s c).flags m.cond.toNat = true →
      inCust (getCtx s c) = true → custAllowed opc (getCtx s c).hook.isSome = false →
      exec i s = .next (hookBudget (custViolation (countHook s c) c) c)) ∧
    (sel = true → issues s c opc m = true → m.cond.toNat ≤ 10 → condHolds (getCtx s c).flags m.cond.toNat = true →
      inCust (getCtx s c) = false → ((getCtx s c).run = 3 ∧ handlerBars opc = true) ∨ ((getCtx s c).run = 5 ∧ yields opc = true) →
      exec i s = .next (hookBudget (seqTrap (countHook s c) c 2) c))

/-- The flags that an instruction leaves: V is signed overflow, C the carry of ADD and the borrow of SUB and CMP (R248). -/
def flagsAfter (opc : Nat) (a b : Word) (f : Flags) : Flags :=
  if opc = 2 then
    { f with z := decide (a + b = 0), c := decide (2 ^ 64 ≤ a.toNat + b.toNat), n := (a + b).msb,
             v := decide (a.toInt + b.toInt < -2 ^ 63 ∨ 2 ^ 63 ≤ a.toInt + b.toInt) }
  else if opc = 3 ∨ opc = 9 then
    { f with z := decide (a = b), c := decide (a.toNat < b.toNat), n := (a - b).msb,
             v := decide (a.toInt - b.toInt < -2 ^ 63 ∨ 2 ^ 63 ≤ a.toInt - b.toInt) }
  else f

/-- RD has become v; of the flags Z, C, N and V follow OPC, and the PC is at the next word. -/
def computed (opc : Nat) (m : Micro) (v : Word → Word → Word) (c : Fin 4) (s t : State) : Prop :=
  let a := greg (getCtx s c) m.ra
  let b := operandB (getCtx s c) m
  onlyCtx c s t ∧ (getCtx t c).g = (getCtx s c).g.set m.rd.toNat (v a b) ∧ (getCtx t c).pc = (getCtx s c).pc + 1 ∧
    (getCtx t c).scratch = (getCtx s c).scratch ∧ (getCtx t c).stack = (getCtx s c).stack ∧
    (getCtx t c).flags = flagsAfter opc a b (getCtx s c).flags

/-- RD takes the operation's result modulo 2^64 and the PC the next word; ADD, SUB and CMP alone change Z, C, N and V; BR, CALL and RET
move the PC, with a stack of four. -/
def Obligations.ArithmeticAndBranchesFollowTheTable : Prop :=
  (∀ (c : Fin 4) (m : Micro) (s : State),
    (seqReady s c 0x01 m → Issues (exec (.seqMov c m) s) c (computed 0x01 m (fun _ b => b) c s)) ∧
    (seqReady s c 0x02 m → Issues (exec (.seqAdd c m) s) c (computed 0x02 m (fun a b => a + b) c s)) ∧
    (seqReady s c 0x03 m → Issues (exec (.seqSub c m) s) c (computed 0x03 m (fun a b => a - b) c s)) ∧
    (seqReady s c 0x04 m → Issues (exec (.seqAnd c m) s) c (computed 0x04 m (fun a b => a &&& b) c s)) ∧
    (seqReady s c 0x05 m → Issues (exec (.seqOr c m) s) c (computed 0x05 m (fun a b => a ||| b) c s)) ∧
    (seqReady s c 0x06 m → Issues (exec (.seqXor c m) s) c (computed 0x06 m (fun a b => a ^^^ b) c s)) ∧
    (seqReady s c 0x07 m → Issues (exec (.seqShl c m) s) c (computed 0x07 m (fun a b => a <<< (b.toNat % 64)) c s)) ∧
    (seqReady s c 0x08 m → Issues (exec (.seqShr c m) s) c (computed 0x08 m (fun a b => a >>> (b.toNat % 64)) c s))) ∧
  (∀ (c : Fin 4) (m : Micro) (s : State), seqReady s c 0x00 m → Issues (exec (.seqNop c m) s) c (fun t =>
      onlyCtx c s t ∧
    movedTo ((getCtx s c).pc + 1) c s t)) ∧
  (∀ (c : Fin 4) (m : Micro) (s : State), seqReady s c 0x09 m → Issues (exec (.seqCmp c m) s) c (fun t =>
      onlyCtx c s t ∧
    (getCtx t c).flags = flagsAfter 9 (greg (getCtx s c) m.ra) (operandB (getCtx s c) m) (getCtx s c).flags ∧
    (getCtx t c).g = (getCtx s c).g ∧ (getCtx t c).pc = (getCtx s c).pc + 1 ∧ (getCtx t c).scratch = (getCtx s c).scratch)) ∧
  (∀ (c : Fin 4) (m : Micro) (s : State), seqReady s c 0x0A m → targetOk (getCtx s c) m.target = true → Issues (exec (.seqBr c m) s) c (fun t =>
      onlyCtx c s t ∧ movedTo m.target c s t)) ∧
  (∀ (c : Fin 4) (m : Micro) (s : State), seqReady s c 0x0B m → targetOk (getCtx s c) m.target = true →
    ((getCtx s c).stack.length < 4 → Issues (exec (.seqCall c m) s) c (fun t =>
      onlyCtx c s t ∧
      (getCtx t c).pc = m.target ∧ (getCtx t c).stack = ((getCtx s c).pc + 1) :: (getCtx s c).stack ∧ (getCtx t c).g = (getCtx s c).g)) ∧
    (4 ≤ (getCtx s c).stack.length → exec (.seqCall c m) s = .next (hookBudget (seqTrap (countHook s c) c 2) c))) ∧
  (∀ (c : Fin 4) (m : Micro) (p : BitVec 14) (rest : List (BitVec 14)) (s : State), seqReady s c 0x0C m → (getCtx s c).stack = p :: rest →
    Issues (exec (.seqRet c m) s) c (fun t =>
      onlyCtx c s t ∧ (getCtx t c).pc = p ∧ (getCtx t c).stack = rest ∧
      (getCtx t c).g = (getCtx s c).g)) ∧
  (∀ (c : Fin 4) (m : Micro) (s : State), seqReady s c 0x0C m → (getCtx s c).stack = [] →
    exec (.seqRet c m) s = .next (hookBudget (seqTrap (countHook s c) c 2) c))

/-- Scratch holds what STS wrote and LDS reads it, within 2,048 words; LDL, TIME, MAP, FINDD and FINDR read DRAM, the clock, the windows,
the bitmaps and the restore order, and change nothing but RD. -/
def Obligations.LoadsReadWhatTheyName : Prop :=
  (∀ (c : Fin 4) (m : Micro) (s : State), let a := greg (getCtx s c) m.ra + m.imm
    (inCust (getCtx s c) = true → inSlice c a.toNat = true) →
    (a.toNat ≤ 2047 → seqReady s c 0x0D m → Issues (exec (.seqLds c m) s) c (fun t =>
      onlyCtx c s t ∧
      wroteReg m.rd (sget 0 (getCtx s c).scratch a.toNat) c s t)) ∧
    (a.toNat ≤ 2047 → seqReady s c 0x0E m → Issues (exec (.seqSts c m) s) c (fun t =>
      onlyCtx c s t ∧
      sget 0 (getCtx t c).scratch a.toNat = greg (getCtx s c) m.rb ∧
      (∀ b, b ≠ a.toNat → sget 0 (getCtx t c).scratch b = sget 0 (getCtx s c).scratch b) ∧ (getCtx t c).g = (getCtx s c).g ∧
      (getCtx t c).flags = (getCtx s c).flags ∧ (getCtx t c).pc = (getCtx s c).pc + 1)) ∧
    (2047 < a.toNat → seqReady s c 0x0D m → exec (.seqLds c m) s = .next (hookBudget (seqFault (countHook s c) c 3) c)) ∧
    (2047 < a.toNat → seqReady s c 0x0E m → exec (.seqSts c m) s = .next (hookBudget (seqFault (countHook s c) c 3) c))) ∧
  (∀ (c : Fin 4) (m : Micro) (s : State), let l := (greg (getCtx s c) m.ra).toNat
    seqReady s c 0x0F m → l < installedLines s → ReadsQuietly s l 1 →
    (inCust (getCtx s c) = true → fld s SEQ_CUST_WIN_BASE ≤ l ∧ l ≤ fld s SEQ_CUST_WIN_LIMIT) →
    (isPoison s l = false → l ∉ s.dram.capture → Issues (exec (.seqLdl c m) s) c (fun t => othersKept c s t ∧ t.regs = s.regs ∧
      dramKept s t ∧ t.img = s.img ∧
      wroteReg m.rd (BitVec.ofNat 64 ((readLine s l).toNat / 2 ^ (64 * (m.imm.toNat % 8)))) c s t)) ∧
    (isPoison s l = true ∨ l ∈ s.dram.capture → Issues (exec (.seqLdl c m) s) c (fun t => othersKept c s t ∧ dramKept s t ∧
      t.img = s.img ∧ (∃ v, wroteReg m.rd v c s t) ∧
      (l ∉ s.dram.capture → flag t (FLT_STICKY_SRC (0x20 + subOf s l / 8) 2) = true)))) ∧
  (∀ (c : Fin 4) (m : Micro) (s : State), seqReady s c 0x10 m → Issues (exec (.seqTime c m) s) c (fun t =>
      onlyCtx c s t ∧
    wroteReg m.rd (BitVec.ofNat 64 (podNs s)) c s t)) ∧
  (∀ (c : Fin 4) (m : Micro) (s : State), seqReady s c 0x11 m → Issues (exec (.seqMap c m) s) c (fun t =>
      onlyCtx c s t ∧
    wroteReg m.rd (BitVec.ofNat 64 (mapWord s (greg (getCtx s c) m.ra).toNat)) c s t)) ∧
  (∀ (c : Fin 4) (m : Micro) (s : State), let a := (greg (getCtx s c) m.ra).toNat
    let map := if bitAt m.mod.toNat 1 then s.dram.diverged else s.dram.dirty
    seqReady s c 0x12 m → risingFrom 0 map.except = true →
    (∀ u, a ≤ u → u < installedUnits s → map.get u = true → (∀ v, a ≤ v → v < u → map.get v = false) → Issues (exec (.seqFindd c m) s) c (fun t =>
      onlyCtx c s t ∧ wroteReg m.rd (BitVec.ofNat 64 u) c s t)) ∧
    ((∀ u, a ≤ u → u < installedUnits s → map.get u = false) → Issues (exec (.seqFindd c m) s) c (fun t =>
      onlyCtx c s t ∧
      wroteReg m.rd (BitVec.allOnes 64) c s t))) ∧
  (∀ (c : Fin 4) (m : Micro) (s : State), seqReady s c 0x13 m → Issues (exec (.seqFindr c m) s) c (fun t =>
      onlyCtx c s t ∧
    wroteReg m.rd (unitWord (nextRestore s)) c s t ∧ (∀ u, nextRestore s = some u → isRestored s u = false) ∧
    (∀ u, s.pwr.demand.find? (restorable s) = some u → nextRestore s = some u)))

/-- The block that a COPY with n blocks in all has just done: the next one, or the end with status OK. -/
def blockMoved (c : Fin 4) (n : Nat) (s t : State) : Prop :=
  (getCtx s c).blocks + 1 < n ∧ (getCtx t c).blocks = (getCtx s c).blocks + 1 ∧ (getCtx t c).pc = (getCtx s c).pc ∨
  n ≤ (getCtx s c).blocks + 1 ∧ (getCtx t c).blocks = 0 ∧ (getCtx t c).pc = (getCtx s c).pc + 1 ∧ (getCtx t c).flags.f = false

/-- COPY moves one block of 4 KiB each time (log 21): a unit's copy clears its dirty bit as it starts and stands in the image
with its last block; a restore writes zeros or the page; the Passage streams; DRAM and zero copies enter the Plaza; SCATTER
moves a descriptor; a count of zero or beyond 4,096 blocks traps (log 22). -/
def Obligations.CopyMovesBlocksAlongItsPath : Prop :=
  (∀ (c : Fin 4) (m : Micro) (s : State), let x := getCtx s c
    let n := (greg x m.rc).toNat
    let u := (greg x m.ra).toNat + x.blocks / 4
    let k := x.blocks % 4
    seqReady s c 0x14 m → copyPath m = 0 → 1 ≤ n → n ≤ 4096 → 256 * u < installedLines s → ReadsQuietly s (256 * u + 64 * k) 64 →
    (imageWrites s = true → touchesOffline s u = false → k ≠ 3 → x.blocks + 1 < n → Issues (exec (.copyDramToImage c m) s) c (fun t =>
      blockMoved c n s t ∧ isDirty t u = (if k = 0 then false else isDirty s u) ∧ (∀ v, v ≠ u → isDirty t v = isDirty s v) ∧
      t.img = s.img ∧ dramKept s t)) ∧
    (∀ key, imageWrites s = true → touchesOffline s u = false → k = 3 ∨ x.blocks + 1 = n → s.img.key = some key →
      FindsStripe s c (unitLayout s u) → Issues (exec (.copyDramToImage c m) s) c (fun t =>
        blockMoved c n s t ∧ (newestEntry t u).written = true ∧
        (newestEntry t u).lost = false ∧ (newestEntry t u).diverged = isDiverged s u ∧
        (newestEntry t u).genLo = BitVec.ofNat 32 (fld s IMG_GEN_OPEN_G) ∧
        copyAt t u (fun h ls => h.wseq = fld s IMG_WSEQ_NEXT ∧ h.tseq = h.wseq ∧ h.gen = fld s IMG_GEN_OPEN_G ∧ h.enc = true ∧
          h.poison = poisonBits (unitPoison s u) ∧ ls = xtsEncrypt key h.wseq u (unitLines s u)) ∧ pagesKept s t ∧ dramKept s t)) ∧
    (imageWrites s = true → touchesOffline s u = true → k = 0 → x.blocks + 1 < n → LogsOnly s srcLost →
      Issues (exec (.copyDramToImage c m) s) c (fun t => blockMoved c n s t ∧ (newestEntry t u).lost = true ∧ isDirty t u = false ∧
        t.img.pages = s.img.pages ∧ dramKept s t)) ∧
    (imageWrites s = false → Issues (exec (.copyDramToImage c m) s) c (fun t => onlyCtx c s t ∧ (getCtx t c).flags.f = true ∧
      (getCtx t c).pc = x.pc + 1 ∧ (getCtx t c).blocks = 0))) ∧
  (∀ (c : Fin 4) (m : Micro) (s : State), let x := getCtx s c
    let n := (greg x m.rc).toNat
    let u := (greg x m.ra).toNat + x.blocks / 4
    let e := newestEntry s u
    seqReady s c 0x14 m → copyPath m = 1 → 1 ≤ n → n ≤ 4096 → 256 * u < installedLines s →
    (unitReady s u = true → Issues (exec (.copyImageToDram c m) s) c (fun t => blockMoved c n s t ∧ onlyCtx c s t)) ∧
    (unitReady s u = false → e.lost = false → e.written = false → Issues (exec (.copyImageToDram c m) s) c (fun t =>
      blockMoved c n s t ∧ (∃ p : PlazaEntry, t.adm.plaza = s.adm.plaza ++ [p] ∧
        p.client = c.val ∧ p.restore = true ∧ p.lines = (blockLines u (x.blocks % 4)).map (fun l => (l, some 0))) ∧ t.dram = s.dram)) ∧
    (∀ (p : FlashPage) (second : Bool) (h : PageHeader) (ls : List Line) (key : ImageKey), unitReady s u = false → e.lost = false →
      e.written = true → unitContent s e = some (p, second, h, ls) → s.img.key = some key → Issues (exec (.copyImageToDram c m) s) c (fun t =>
        blockMoved c n s t ∧ (∃ y : PlazaEntry, t.adm.plaza = s.adm.plaza ++ [y] ∧ y.client = c.val ∧ y.restore = true ∧
          y.lines = pageLines key h ls u (x.blocks % 4)) ∧ (second = true → u ∈ t.img.dirtyOnRestore) ∧
        fld t JCT_SLOTS_COUNT = min JCT_SLOTS_COUNT.max (fld s JCT_SLOTS_COUNT + 64) ∧ t.dram = s.dram)) ∧
    (unitReady s u = false → e.lost = true → (psgUp s = false ∨ partnerServes s = false) → Issues (exec (.copyImageToDram c m) s) c (fun t =>
      blockMoved c n s t ∧ onlyCtx c s t)) ∧
    (∀ (r : FlashPage × Bool × PageHeader × List Line), unitReady s u = false → e.lost = false → e.written = true →
      unitContent s e = some r → s.img.key = none → Issues (exec (.copyImageToDram c m) s) c (fun t => onlyCtx c s t ∧
        (getCtx t c).flags.f = true ∧ (getCtx t c).pc = x.pc + 1 ∧ (getCtx t c).blocks = 0))) ∧
  (∀ (c : Fin 4) (m : Micro) (s : State), let x := getCtx s c
    let n := (greg x m.rc).toNat
    let l := (greg x m.ra).toNat + 64 * x.blocks
    seqReady s c 0x14 m → copyPath m = 2 → 1 ≤ n → n ≤ 4096 → l + 64 ≤ installedLines s →
    (psgUp s = true → unitReady s (unitOf l) = true → s.psg.fetchWait = [] → ReadsQuietly s l 64 →
      Issues (exec (.copyDramToPassage c m) s) c (fun t => blockMoved c n s t ∧
        ((l + 64) % 256 = 0 → isDiverged t (unitOf l) = false) ∧ dramKept s t ∧ t.img = s.img)) ∧
    (psgUp s = false ∨ unitReady s (unitOf l) = false → Issues (exec (.copyDramToPassage c m) s) c (fun t => onlyCtx c s t ∧
      (getCtx t c).flags.f = true ∧ (getCtx t c).pc = x.pc + 1 ∧ (getCtx t c).blocks = 0))) ∧
  (∀ (c : Fin 4) (m : Micro) (s : State), let x := getCtx s c
    let n := (greg x m.rc).toNat
    let l := (greg x m.ra).toNat + 64 * x.blocks
    let d := (greg x m.rb).toNat + 64 * x.blocks
    seqReady s c 0x14 m → copyPath m = 3 → 1 ≤ n → n ≤ 4096 → l + 64 ≤ installedLines s → d + 64 ≤ installedLines s →
    ReadsQuietly s l 64 → (c = 3 → x.routine ≠ 9) → Issues (exec (.copyDramToDram c m) s) c (fun t => blockMoved c n s t ∧ dramKept s t ∧
      (∀ i, i < 64 → ∃ e ∈ t.adm.plaza, e.client = c.val ∧ e.output = subOf s (d + i) ∧ e.restore = false ∧
        (d + i, if isPoison s (l + i) then none else some (readLine s (l + i))) ∈ e.lines))) ∧
  (∀ (c : Fin 4) (m : Micro) (s : State), let x := getCtx s c
    let n := (greg x m.rc).toNat
    let u := (greg x m.ra).toNat + x.blocks / 4
    seqReady s c 0x14 m → copyPath m = 4 → 1 ≤ n → n ≤ 4096 → 256 * u < installedLines s →
    (∀ (p : FlashPage) (second : Bool) (h : PageHeader) (ls : List Line), imageWrites s = true → x.blocks % 4 = 3 ∨ x.blocks + 1 = n →
      (newestEntry s u).written = true → unitContent s (newestEntry s u) = some (p, second, h, ls) → FindsStripe s c (unitLayout s u) →
      Issues (exec (.copyImageToImage c m) s) c (fun t => blockMoved c n s t ∧ (newestEntry t u).lost = (newestEntry s u).lost ∧
        copyAt t u (fun h' ls' => h'.wseq = fld s IMG_WSEQ_NEXT ∧ h'.tseq = h.tseq ∧ h'.gen = fld s IMG_GEN_OPEN_G ∧
          h'.poison = h.poison ∧ ls' = ls) ∧ dramKept s t)) ∧
    (imageWrites s = true → x.blocks % 4 ≠ 3 → x.blocks + 1 < n → Issues (exec (.copyImageToImage c m) s) c (fun t =>
      blockMoved c n s t ∧ t.img = s.img ∧ fld t JCT_SLOTS_COUNT = min JCT_SLOTS_COUNT.max (fld s JCT_SLOTS_COUNT + 64) ∧
      regsKept [JCT_SLOTS_COUNT.reg] s t ∧ t.dram = s.dram)) ∧
    (imageWrites s = true → x.blocks % 4 = 3 ∨ x.blocks + 1 = n → (newestEntry s u).written = false →
      Issues (exec (.copyImageToImage c m) s) c (fun t => t.img = s.img ∧ t.dram = s.dram ∧
        (getCtx t c).flags.f = true ∧ (getCtx t c).pc = x.pc + 1)) ∧
    (imageWrites s = false → Issues (exec (.copyImageToImage c m) s) c (fun t => onlyCtx c s t ∧ (getCtx t c).flags.f = true ∧
      (getCtx t c).pc = x.pc + 1 ∧ (getCtx t c).blocks = 0))) ∧
  (∀ (c : Fin 4) (m : Micro) (s : State), let x := getCtx s c
    let n := (greg x m.rc).toNat
    let l := (greg x m.rb).toNat + 64 * x.blocks
    seqReady s c 0x14 m → copyPath m = 5 → 1 ≤ n → n ≤ 4096 → l + 64 ≤ installedLines s →
      Issues (exec (.copyZeroToDram c m) s) c (fun t => blockMoved c n s t ∧ t.dram = s.dram ∧
      (∀ i, i < 64 → ∃ e ∈ t.adm.plaza, e.client = c.val ∧ e.restore = !unitReady s (unitOf l) ∧ (l + i, some 0) ∈ e.lines))) ∧
  (∀ (c : Fin 4) (m : Micro) (i : Instr) (s : State), let n := (greg (getCtx s c) m.rc).toNat
    (0x14, true, i) ∈ pathRows c m → seqReady s c 0x14 m → n = 0 ∨ 4096 < n →
    exec i s = .next (hookBudget (seqTrap (countHook s c) c 2) c)) ∧
  (∀ (c : Fin 4) (m : Micro) (s : State), let x := getCtx s c
    let a := (greg x m.ra).toNat + 2 * x.desc
    seqReady s c 0x15 m →
    ((greg x m.rc).toNat ≤ x.desc → Issues (exec (.seqScatter c m) s) c (fun t =>
      onlyCtx c s t ∧
      (getCtx t c).pc = x.pc + 1 ∧ (getCtx t c).desc = 0 ∧ (getCtx t c).flags.f = false)) ∧
    (∀ src d, x.desc < (greg x m.rc).toNat → a + 1 ≤ 2047 → src = (sget 0 x.scratch a).toNat → d = (sget 0 x.scratch (a + 1)).toNat →
      let cnt := lineCount (BitVec.ofNat 6 d)
      src + cnt ≤ installedLines s → bitsOf d 63 32 + cnt ≤ installedLines s → ReadsQuietly s src cnt → Issues (exec (.seqScatter c m) s) c (fun t =>
      dramKept s t ∧
      (getCtx t c).desc = (if x.desc + 1 < (greg x m.rc).toNat then x.desc + 1 else 0) ∧
      (∀ i, i < cnt → ∃ e ∈ t.adm.plaza, e.client = c.val ∧
        (bitsOf d 63 32 + i, if isPoison s (src + i) then none else some (readLine s (src + i))) ∈ e.lines))) ∧
    (x.desc < (greg x m.rc).toNat → 2047 < a + 1 → exec (.seqScatter c m) s = .next (hookBudget (seqFault (countHook s c) c 3) c)))

/-- DIGEST gives the CRC of the unit's masked bytes; LEDGER sets and clears LOST and DIVERGED; CLOSE takes its steps; RECORD
adds a record; COMMIT hands the open generation to the commit engine, once; MSG sends while the Passage is up; LEDGER, CLOSE,
RECORD, COMMIT and MSG report their status in F (log 19). -/
def Obligations.ImageWordsReportTheirStatus : Prop :=
  (∀ (c : Fin 4) (m : Micro) (s : State), let u := (greg (getCtx s c) m.ra).toNat
    seqReady s c 0x16 m → 256 * u < installedLines s → ReadsQuietly s (256 * u) 256 →
    (unitPoison s u = [] → Issues (exec (.seqDigest c m) s) c (fun t => othersKept c s t ∧ t.regs = s.regs ∧ dramKept s t ∧
      t.img = s.img ∧ wroteReg m.rd (BitVec.ofNat 64 ((List.range 256).foldl (fun a k =>
        (digestBytes s (256 * u + k)).foldl crc64Byte a) 0)) c s t)) ∧
    (unitPoison s u ≠ [] → Issues (exec (.seqDigest c m) s) c (fun t => othersKept c s t ∧ dramKept s t ∧ t.img = s.img ∧
      (∃ v, wroteReg m.rd v c s t)))) ∧
  (∀ (c : Fin 4) (m : Micro) (s : State), let u := (greg (getCtx s c) m.ra).toNat
    seqReady s c 0x17 m → 256 * u < installedLines s →
    (imageWrites s = true → bitAt m.mod.toNat 1 = false → Issues (exec (.seqLedger c m) s) c (fun t =>
            (newestEntry t u).lost = (if bitAt m.mod.toNat 2 then false else (newestEntry s u).lost) ∧
      (newestEntry t u).diverged = (if bitAt m.mod.toNat 3 then true else if bitAt m.mod.toNat 4 then false else (newestEntry s u).diverged) ∧
      (newestEntry t u).placeA = (newestEntry s u).placeA ∧ (getCtx t c).flags.f = false ∧ (getCtx t c).pc = (getCtx s c).pc + 1 ∧
      t.dram = s.dram)) ∧
    (imageWrites s = true → bitAt m.mod.toNat 1 = true → (newestEntry s u).lost = false → LogsOnly s srcLost → Issues (exec (.seqLedger c m) s) c (fun t =>
      (newestEntry t u).lost = true ∧ flag t (FLT_STICKY_SRC 0x30 1) = true)) ∧
    (imageWrites s = false → Issues (exec (.seqLedger c m) s) c (fun t =>
      onlyCtx c s t ∧ (getCtx t c).flags.f = true ∧
      (getCtx t c).pc = (getCtx s c).pc + 1))) ∧
  (∀ (c : Fin 4) (m : Micro) (s : State), seqReady s c 0x18 m →
    (imageWrites s = true → LogsOnly s (srcImg 2) → fldAt s FLT_ESC_A_N (srcImg 2) = 0 →
      (∀ n : Fin 32, flag s ((DRC_SUB_OFFLINE.inst (n.val / 8)).nth (n.val % 8)) = false) → Issues (exec (.seqClose c m) s) c (fun t =>
      (getCtx t c).flags.f = false ∧ (getCtx t c).pc = (getCtx s c).pc + 1 ∧
      t.img.closed = s.img.closed ||| BitVec.ofNat 4 (m.mod.toNat / 2) ∧ (bitAt m.mod.toNat 1 = true → t.img.openStripes = []) ∧
      ((getCtx s c).routine = 0 → fld t PWR_DUMP_STAT_PHASE = 5) ∧ pagesKept s t ∧ t.dram = s.dram)) ∧
    (imageWrites s = false → Issues (exec (.seqClose c m) s) c (fun t => onlyCtx c s t ∧ (getCtx t c).flags.f = true ∧
      (getCtx t c).pc = (getCtx s c).pc + 1))) ∧
  (∀ (c : Fin 4) (m : Micro) (s : State), seqReady s c 0x19 m → chFailed s (fld s IMG_ANCHOR_CH1) = false →
    chFailed s (fld s IMG_ANCHOR_CH2) = false → fld s IMG_ANCHOR_CH1 ≠ fld s IMG_ANCHOR_CH2 → flag s IMG_STAT_READY = true →
    let done := fun (kind g : Nat) (t : State) => (∀ f ∈ [IMG_ANCHOR_CH1, IMG_ANCHOR_CH2], ∃ a ∈ t.img.anchors, a.chan = fld s f ∧
      a.record.kind = kind ∧ a.record.gen = g ∧ a.bad = false) ∧ (getCtx t c).flags.f = false ∧
      (getCtx t c).pc = (getCtx s c).pc + 1 ∧ t.dram = s.dram
    (bitsOf m.mod.toNat 2 1 = 0 → Issues (exec (.recordOpen c m) s) c (fun t => done 0x10 (highestGen s + 1) t ∧
      (highestGen s + 1 < 2 ^ 64 → fld t IMG_GEN_OPEN_G = highestGen s + 1))) ∧
    (bitsOf m.mod.toNat 2 1 = 1 → s.img.batch = [] → s.img.openStripes = [] → LogsOnly s (srcImg 2) → fldAt s FLT_ESC_A_N (srcImg 2) = 0 →
      Issues (exec (.recordIntent c m) s) c (fun t => done 0x12 (fld s IMG_GEN_OPEN_G) t ∧
        ∃ a ∈ t.img.anchors, a.record.kind = 0x12 ∧ a.record.stripes = t.img.batch)) ∧
    (bitsOf m.mod.toNat 2 1 = 1 → (s.img.batch ≠ [] ∨ s.img.openStripes ≠ []) → Issues (exec (.recordIntent c m) s) c (fun t =>
      onlyCtx c s t ∧ (getCtx t c).flags.f = true ∧ (getCtx t c).pc = (getCtx s c).pc + 1)) ∧
    (bitsOf m.mod.toNat 2 1 = 2 → Issues (exec (.recordVoid c m) s) c (done 0x13 (fld s IMG_GEN_OPEN_G)))) ∧
  (∀ (c : Fin 4) (m : Micro) (s : State), seqReady s c 0x19 m → flag s IMG_STAT_READY = false →
    let failed := fun (t : State) => onlyCtx c s t ∧ (getCtx t c).flags.f = true ∧ (getCtx t c).pc = (getCtx s c).pc + 1
    (bitsOf m.mod.toNat 2 1 = 0 → Issues (exec (.recordOpen c m) s) c failed) ∧
    (bitsOf m.mod.toNat 2 1 = 1 → Issues (exec (.recordIntent c m) s) c failed) ∧
    (bitsOf m.mod.toNat 2 1 = 2 → Issues (exec (.recordVoid c m) s) c failed)) ∧
  (∀ (c : Fin 4) (m : Micro) (s : State), seqReady s c 0x1A m →
    (imageWrites s = true → s.img.closing = none → ((getCtx s c).routine = 0 → s.dram.frozen = true) → Issues (exec (.seqCommit c m) s) c (fun t =>
      (∃ x : Closing, t.img.closing = some x ∧ x.gen = fld s IMG_GEN_OPEN_G ∧ x.dump = decide ((getCtx s c).routine = 0) ∧
        x.ledger = s.img.opened ∧ x.dirs = s.img.openDir) ∧ t.img.opened = [] ∧ (getCtx t c).run = 5 ∧
      (getCtx t c).commitAt = some ((getCtx s c).g, (getCtx s c).pc + 1) ∧ (getCtx t c).flags.f = false ∧
      ((getCtx s c).routine = 0 → t.pwr.committed = true ∧ fld t PWR_DUMP_STAT_PHASE = 6) ∧
      ((getCtx s c).routine ≠ 0 → highestGen s + 1 < 2 ^ 64 → fld t IMG_GEN_OPEN_G = highestGen s + 1) ∧
      t.img.committed = s.img.committed ∧ t.dram = s.dram)) ∧
    (imageWrites s = true → s.img.closing = none → (getCtx s c).routine = 0 → s.dram.frozen = false →
      Issues (exec (.seqCommit c m) s) c (fun t => onlyCtx c s t ∧ movedTo (getCtx s c).pc c s t)) ∧
    (imageWrites s = false ∨ s.img.closing.isSome = true → Issues (exec (.seqCommit c m) s) c (fun t => onlyCtx c s t ∧
      (getCtx t c).flags.f = true ∧ (getCtx t c).run = (getCtx s c).run))) ∧
  (∀ (c : Fin 4) (m : Micro) (s : State), seqReady s c 0x1B m → (greg (getCtx s c) m.rc).toNat + 1 ≤ 2047 →
    (psgUp s = true → bitsOf m.mod.toNat 4 1 ≠ 4 → Issues (exec (.seqMsg c m) s) c (fun t => (getCtx t c).flags.f = false ∧
      (getCtx t c).pc = (getCtx s c).pc + 1 ∧ (getCtx t c).g = (getCtx s c).g ∧ t.dram = s.dram ∧ t.regs = s.regs)) ∧
    (psgUp s = true → bitsOf m.mod.toNat 4 1 = 4 → s.psg.fetchWait = [] → s.adm.flights = [] → Issues (exec (.seqMsg c m) s) c (fun t =>
      (getCtx t c).flags.f = false ∧ (getCtx t c).pc = (getCtx s c).pc + 1 ∧ flag t PSG_STAT_CATCHUP = false ∧
      t.psg.needEnd = false ∧ t.psg.source = false ∧ t.dram = s.dram)) ∧
    (psgUp s = false → Issues (exec (.seqMsg c m) s) c (fun t => onlyCtx c s t ∧ (getCtx t c).flags.f = true ∧
      (getCtx t c).pc = (getCtx s c).pc + 1)))

/-- WAITE ends with the events of its mask or waits (bit numbers: log 20); EVT sets its bit and interrupts; HOOK enters a hook
or takes its default; RETH gives back all but G0, RETI all that the handler saved; END leaves the result and an idle context. -/
def Obligations.WaitsHooksAndEnds : Prop :=
  (∀ (c : Fin 4) (m : Micro) (s : State), seqReady s c 0x1C m → (getCtx s c).run = 1 →
    ((∀ e ∈ (getCtx s c).events, bitAt m.imm.toNat e = false ∨ 16 ≤ e) → Issues (exec (.seqWaite c m) s) c (fun t =>
            onlyCtx c s t ∧ (getCtx t c).run = 2 ∧ movedTo (getCtx s c).pc c s t)) ∧
    ((∃ e ∈ (getCtx s c).events, bitAt m.imm.toNat e = true ∧ e < 16) → Issues (exec (.seqWaite c m) s) c (fun t =>
            onlyCtx c s t ∧ (getCtx t c).run = 1 ∧ (∀ e ∈ (getCtx t c).events, bitAt m.imm.toNat e = false ∨ 16 ≤ e) ∧
      wroteReg m.rd (BitVec.ofNat 64 (eventBits ((getCtx s c).events.filter (fun e => bitAt m.imm.toNat e && decide (e < 16))))) c s t))) ∧
  (∀ (c : Fin 4) (m : Micro) (s : State), seqReady s c 0x1D m → Issues (exec (.seqEvt c m) s) c (fun t =>
          bitAt (fld t SEQ_EVT_EVT) (m.imm.toNat % 8) = true ∧ flag t (IRQ_PEND_BIT 0x80 0) = true ∧
    regsKept [SEQ_EVT_EVT.reg, (IRQ_PEND_BIT 0x80 0).reg] s t ∧ movedTo ((getCtx s c).pc + 1) c s t ∧ t = { s with regs := t.regs, seq := t.seq })) ∧
  (∀ (c : Fin 4) (m : Micro) (s : State), seqReady s c 0x1E m → hookRuns s (bitAt m.imm.toNat 0) (ctxBank s c) = false → Issues (exec (.seqHook c m) s) c (fun t =>
      onlyCtx c s t ∧
      wroteReg 0 (if bitAt m.imm.toNat 0 then BitVec.allOnes 64 else 0) c s t)) ∧
  (∀ (c : Fin 4) (m : Micro) (s : State), seqReady s c 0x1E m → hookRuns s (bitAt m.imm.toNat 0) (ctxBank s c) = true → Issues (exec (.seqHook c m) s) c (fun t =>
      (getCtx t c).pc = (if bitAt m.imm.toNat 0 then 0x3003 else 0x3002) ∧
      (getCtx t c).stack = [] ∧ (getCtx t c).flags = Flags.zero ∧ (getCtx t c).run = (if (getCtx s c).run = 5 then 5 else 1) ∧
      (∃ h : HookFrame, (getCtx t c).hook = some h ∧ h.regs = (getCtx s c).g ∧ h.flags = (getCtx s c).flags ∧
        h.pc = (getCtx s c).pc + 1 ∧ h.used = 0) ∧ (bitAt m.imm.toNat 0 = false → t.seq.dirtied = 0) ∧ t.regs = s.regs ∧ t.dram = s.dram)) ∧
  (∀ (c : Fin 4) (m : Micro) (h : HookFrame) (s : State), seqReady s c 0x1F m → (getCtx s c).hook = some h → (getCtx s c).irq = none →
    h.fromIdle = false →
    ((h.index = true → installedUnits s ≤ (greg (getCtx s c) 0).toNat) → (h.index = false → (greg (getCtx s c) 0).toNat % 2 = 0) →
      Completes (exec (.seqReth c m) s) (fun t => (getCtx t c).g = h.regs.set 0 (greg (getCtx s c) 0) ∧ (getCtx t c).flags = h.flags ∧
        (getCtx t c).stack = h.stack ∧ (getCtx t c).pc = h.pc ∧ (getCtx t c).hook = none ∧ onlyCtx c s t)) ∧
    (h.index = false → (greg (getCtx s c) 0).toNat % 2 = 1 → watched s = true → ckptRuns s = false → ckMinPassed s = true →
      Completes (exec (.seqReth c m) s) (fun t => flag t PWR_STAT_CKPT = true ∧ 2 ∈ (getCtx t 0).pend ∧ (getCtx t c).hook = none)) ∧
    (h.index = true → (greg (getCtx s c) 0).toNat < installedUnits s → unitReady s (greg (getCtx s c) 0).toNat = false →
      s.pwr.demand.length < 4096 → Completes (exec (.seqReth c m) s) (fun t => (greg (getCtx s c) 0).toNat ∈ t.pwr.demand ∧
        (getCtx t c).hook = none ∧ t.dram = s.dram))) ∧
  (∀ (c : Fin 4) (m : Micro) (h : IrqFrame) (s : State), seqReady s c 0x20 m → (getCtx s c).irq = some h → (getCtx s c).stopReq = false →
    (getCtx s c).events = [] → Issues (exec (.seqReti c m) s) c (fun t =>
      onlyCtx c s t ∧
      (getCtx t c).g = (getCtx s c).g.take 12 ++ h.high ∧ (getCtx t c).hand = (getCtx s c).g.drop 12 ∧ (getCtx t c).pc = h.pc ∧
      (getCtx t c).flags = h.flags ∧ (getCtx t c).irq = none ∧ (getCtx t c).run = 1 ∧ (getCtx t c).blocks = h.blocks ∧
      (getCtx t c).desc = h.desc)) ∧
  (∀ (c : Fin 4) (m : Micro) (s : State), (seqReady s c 0x1F m ∧ (getCtx s c).hook = none →
      exec (.seqReth c m) s = .next (hookBudget (seqTrap (countHook s c) c 2) c)) ∧
    (seqReady s c 0x20 m ∧ (getCtx s c).irq = none → exec (.seqReti c m) s = .next (hookBudget (seqTrap (countHook s c) c 2) c))) ∧
  (∀ (c : Fin 4) (m : Micro) (s : State), seqReady s c 0x21 m → (getCtx s c).run ≠ 5 → (getCtx s c).routine ≠ 9 →
    ((getCtx s c).routine = 0 → m.imm.toNat % 256 ≠ 2) → Issues (exec (.seqEnd c m) s) c (fun t =>
      (getCtx t c).run = 0 ∧
      fld t (ctxF c SEQ_CTX_RESULT) = m.imm.toNat % 256 ∧ fld t (ctxF c SEQ_CTX_RESTARTS) = 0 ∧ flag t (IRQ_PEND_BIT 0x80 1) = true ∧
      fld t SEQ_COUNTS_ROUTINES = min (2 ^ 32 - 1) (fld s SEQ_COUNTS_ROUTINES + 1) ∧
      ((getCtx s c).routine = 1 → flag t PWR_STAT_SPEC = false) ∧ (∀ d, d ≠ c → getCtx t d = getCtx s d) ∧ t.dram = s.dram ∧ t.img = s.img))

/-- A microword, an APPLY or a Passage message that names DRAM beyond the installed lines stops the model (the model's choice, log 31):
no such line exists (R83, R85). -/
def Obligations.LinesBeyondTheInstalledStop : Prop :=
  (∀ (c : Fin 4) (m : Micro) (s : State), let l := (greg (getCtx s c) m.ra).toNat
    seqReady s c 0x0F m → inCust (getCtx s c) = false → installedLines s ≤ l → exec (.seqLdl c m) s = .fault (.noSuchLine l)) ∧
  (∀ (c : Fin 4) (m : Micro) (s : State), let l := 256 * (greg (getCtx s c) m.ra).toNat
    installedLines s ≤ l → (seqReady s c 0x16 m → exec (.seqDigest c m) s = .fault (.noSuchLine l)) ∧
      (seqReady s c 0x17 m → exec (.seqLedger c m) s = .fault (.noSuchLine l))) ∧
  (∀ (c : Fin 4) (m : Micro) (i : Instr) (s : State), let x := getCtx s c
    let n := (greg x m.rc).toNat
    let l := 256 * ((greg x m.ra).toNat + x.blocks / 4)
    (0x14, true, i) ∈ pathRows c m → copyPath m ∈ [0, 1, 4] → seqReady s c 0x14 m → 1 ≤ n → n ≤ 4096 → installedLines s ≤ l →
    exec i s = .fault (.noSuchLine l)) ∧
  (∀ (c : Fin 4) (m : Micro) (i : Instr) (s : State), let x := getCtx s c
    let n := (greg x m.rc).toNat
    let l := (greg x m.ra).toNat + 64 * x.blocks
    (0x14, true, i) ∈ pathRows c m → copyPath m ∈ [2, 3] → seqReady s c 0x14 m → 1 ≤ n → n ≤ 4096 → installedLines s < l + 64 →
    exec i s = .fault (.noSuchLine (max l (installedLines s)))) ∧
  (∀ (q : Requester) (e : LogEntry) (l : Nat) (s : State), canWrite s q 0x30 = true → serving s = true → flag s IMG_RLOG_IDX_BUSY = false →
    s.pwr.log[indexOf s q IMG_RLOG_IDX_INDEX]? = some e → loggedLine s e = some l →
    installedLines s < l + lineCount (BitVec.ofNat 6 (bitsOf e.hdr.toNat 88 83)) →
    exec (.apply q) s = .fault (.noSuchLine (max l (installedLines s)))) ∧
  (∀ (h : PsgHdr) (data : List Slot128) (typ need : Nat) (i : Instr) (s : State), let n := lineCount h.count
    (typ, need, i) ∈ [(1, 4 * n, Instr.mirror h data), (3, 4 * n, .stream h data), (0xA, 4 * n, .repair h data), (0xB, 0, .fetch h),
      (0xC, if h.arg.toNat = 0 then 4 * n else 0, .fetchData h data)] → PsgArrives s typ h → need ≤ data.length →
    installedLines s < h.line.toNat + n → exec i s = .fault (.noSuchLine (max h.line.toNat (installedLines s)))) ∧
  (∀ (h : PsgHdr) (data : List Slot128) (typ need : Nat) (i : Instr) (s : State),
    (typ, need, i) ∈ [(8, 1, Instr.digest h data), (9, 0, .digestResult h)] → PsgArrives s typ h → need ≤ data.length →
    installedLines s ≤ h.line.toNat → exec i s = .fault (.noSuchLine h.line.toNat))

/-! The sequencer: routines, events, faults, banks. -/

/-- Context c has entered its handler at v: the interrupted place and the upper registers are saved, nothing else has changed. -/
def handlerEntered (c : Fin 4) (v : Nat) (s t : State) : Prop :=
  (getCtx t c).pc = BitVec.ofNat 14 v ∧ (getCtx t c).run = 3 ∧ (getCtx t c).g = (getCtx s c).g.take 12 ++ (getCtx s c).hand ∧
    (∃ h : IrqFrame, (getCtx t c).irq = some h ∧ h.pc = (getCtx s c).pc ∧ h.flags = (getCtx s c).flags ∧
      h.blocks = (getCtx s c).blocks ∧ h.desc = (getCtx s c).desc ∧ h.high = (getCtx s c).g.drop 12) ∧ onlyCtx c s t

/-- A start: an idle context takes its pending routine of lowest vector that may start, at that vector on the active bank; a running
routine gives way only if it is preemptible and the other is not, ends PREEMPTED and stays pending. DUMP, RETURN, LOSS, ABORT,
PAUSE, RESUME and LEAVE act on the routine at the boundary R251 gives them, and wait where it is not there. TICK, DOORBELL and MSGIN
vector a running routine, which saves its place; a context without a routine ignores them, and one in a handler or behind a COMMIT
holds them. -/
def Obligations.RoutinesAndEventsOfContexts : Prop :=
  (∀ (c : Fin 4) (r : Nat) (s : State), seqOn s = true → accepts s 0x80 = true → (getCtx s c).run = 0 → nextStart s c = some r → r ≠ 9 →
    (r = 0 → c = 0) → Completes (exec (.routineStart c) s) (fun t => (getCtx t c).run = 1 ∧ (getCtx t c).routine = BitVec.ofNat 5 r ∧
      (getCtx t c).pc = BitVec.ofNat 14 (vectorOf r) ∧ (getCtx t c).stack = [] ∧ r ∉ (getCtx t c).pend ∧
      (∀ v, v ≠ r → (v ∈ (getCtx t c).pend ↔ v ∈ (getCtx s c).pend)) ∧ (16 ≤ r → (getCtx t c).g = List.replicate 16 0) ∧
      fld t (ctxF c SEQ_CTX_RESTARTS) = 0 ∧ ctxBank t c = activeBank s ∧ (r = 1 → flag t PWR_STAT_SPEC = true) ∧
      (∀ d, d ≠ c → getCtx t d = getCtx s d) ∧ t = { s with regs := t.regs, seq := t.seq })) ∧
  (∀ (c : Fin 4) (s : State), nextStart s c = none → exec (.routineStart c) s = .next s) ∧
  (∀ (c : Fin 4) (r : Nat) (s : State), (getCtx s c).run ≠ 0 → nextStart s c = some r →
    preemptible (getCtx s c).routine.toNat = false → exec (.routineStart c) s = .next s) ∧
  (∀ (c : Fin 4) (r : Nat) (s : State), seqOn s = true → accepts s 0x80 = true → (getCtx s c).run ≠ 0 → atYield (getCtx s c) = true →
    (getCtx s c).hook = none → nextStart s c = some r → r ≠ 9 → preemptible (getCtx s c).routine.toNat = true → preemptible r = false →
    Completes (exec (.routineStart c) s) (fun t => (getCtx t c).run = 1 ∧ (getCtx t c).routine = BitVec.ofNat 5 r ∧
      (getCtx t c).pc = BitVec.ofNat 14 (vectorOf r) ∧ fld t (ctxF c SEQ_CTX_RESULT) = 5 ∧ flag t (IRQ_PEND_BIT 0x80 1) = true ∧
      ((getCtx s c).routine.toNat < 16 → (getCtx s c).routine.toNat ∈ (getCtx t c).pend) ∧ t = { s with regs := t.regs, seq := t.seq })) ∧
  (∀ s : State, seqOn s = true → evDump ∈ (getCtx s 0).events → (getCtx s 0).run = 0 ∨ atUnit (getCtx s 0) = true →
    Completes (exec .dumpEvent s) (fun t => (getCtx t 0).run = 1 ∧ (getCtx t 0).routine = 0 ∧ (getCtx t 0).pc = 0x10 ∧
      evDump ∉ (getCtx t 0).events ∧ ((getCtx s 0).run ≠ 0 → fld t (ctxF 0 SEQ_CTX_RESULT) = 3) ∧
      (evAbort ∈ (getCtx t 0).events ↔ (s.pwr.abortSeen = true ∧ s.pwr.committed = false) ∨
        ((getCtx s 0).run = 0 ∧ evAbort ∈ (getCtx s 0).events)) ∧
      t = { s with regs := t.regs, seq := t.seq, adm := { s.adm with resHist := t.adm.resHist } })) ∧
  (∀ s : State, (getCtx s 0).run ≠ 0 → atUnit (getCtx s 0) = false → exec .dumpEvent s = .next s ∧ exec .returnEvent s = .next s ∧
    exec .lossEvent s = .next s ∧ exec .abortEvent s = .next s) ∧
  (∀ s : State, seqOn s = true → evReturn ∈ (getCtx s 0).events →
    ((getCtx s 0).run ≠ 0 → atUnit (getCtx s 0) = true → (getCtx s 0).routine = 1 → Completes (exec .returnEvent s) (fun t =>
      (getCtx t 0).run = 0 ∧ fld t (ctxF 0 SEQ_CTX_RESULT) = 4 ∧ flag t PWR_STAT_SPEC = false ∧ t = { s with regs := t.regs, seq := t.seq })) ∧
    ((getCtx s 0).run ≠ 0 → atUnit (getCtx s 0) = true → (getCtx s 0).routine ≠ 1 → Completes (exec .returnEvent s) (fun t =>
      1 ∉ (getCtx t 0).pend ∧ evReturn ∉ (getCtx t 0).events ∧ movedTo (getCtx s 0).pc 0 s t ∧ (getCtx t 0).run = (getCtx s 0).run ∧
      onlyCtx 0 s t)) ∧
    ((getCtx s 0).run = 0 → Completes (exec .returnEvent s) (fun t => flag t PWR_STAT_SPEC = false ∧ 1 ∉ (getCtx t 0).pend ∧
      evReturn ∉ (getCtx t 0).events ∧ regsKept [PWR_STAT_SPEC.reg] s t))) ∧
  (∀ s : State, seqOn s = true → evLoss ∈ (getCtx s 0).events → (getCtx s 0).run ≠ 0 → atUnit (getCtx s 0) = true →
    (getCtx s 0).routine = 2 → Completes (exec .lossEvent s) (fun t => (getCtx t 0).run = 1 ∧ (getCtx t 0).routine = 1 ∧
      (getCtx t 0).pc = 0x11 ∧ fld t (ctxF 0 SEQ_CTX_RESULT) = 3 ∧ flag t PWR_STAT_SPEC = true ∧
      t = { s with regs := t.regs, seq := t.seq, adm := { s.adm with resHist := t.adm.resHist } })) ∧
  (∀ s : State, seqOn s = true → evAbort ∈ (getCtx s 0).events → (getCtx s 0).run ≠ 0 → atUnit (getCtx s 0) = true →
    (getCtx s 0).routine = 0 → Completes (exec .abortEvent s) (fun t => (getCtx t 0).pc = 0x20 ∧ (getCtx t 0).run = 1 ∧
      (getCtx t 0).g = (getCtx s 0).g ∧ evAbort ∉ (getCtx t 0).events ∧ onlyCtx 0 s t)) ∧
  (∀ (c : Fin 4) (s : State), seqOn s = true → evPause ∈ (getCtx s c).events → (c = 2 → (getCtx s c).routine = 7) →
    (getCtx s c).run = 1 ∨ (getCtx s c).run = 2 → (getCtx s c).hook = none → Completes (exec (.pauseEvent c) s) (fun t =>
      (getCtx t c).run = 4 ∧ evPause ∉ (getCtx t c).events ∧ movedTo (getCtx s c).pc c s t ∧ onlyCtx c s t)) ∧
  (∀ (c : Fin 4) (s : State), seqOn s = true → evResume ∈ (getCtx s c).events → (getCtx s c).run = 4 →
    (∀ e ∈ (getCtx s c).events, e < evTick) → Completes (exec (.resumeEvent c) s) (fun t => (getCtx t c).run = 1 ∧
      evResume ∉ (getCtx t c).events ∧ evPause ∉ (getCtx t c).events ∧ movedTo (getCtx s c).pc c s t ∧ onlyCtx c s t)) ∧
  (∀ (c : Fin 4) (s : State), seqOn s = true → evLeave ∈ (getCtx s c).events → (getCtx s c).run ≠ 0 → atYield (getCtx s c) = true →
    (getCtx s c).hook = none → ((getCtx s c).routine = 8 → serving s = false) → Completes (exec (.leaveEvent c) s) (fun t =>
      (getCtx t c).run = 0 ∧ fld t (ctxF c SEQ_CTX_RESULT) = 4 ∧ evLeave ∉ (getCtx t c).events ∧
      ((getCtx s c).routine = 6 → 6 ∈ (getCtx t c).pend) ∧ (∀ d, d ≠ c → getCtx t d = getCtx s d) ∧
      t = { s with regs := t.regs, seq := t.seq, adm := { s.adm with resHist := t.adm.resHist } })) ∧
  (∀ (c : Fin 4) (s : State), seqOn s = true →
    ((getCtx s c).run = 1 → Completes (exec (.tickEvent c) s) (handlerEntered c (0x24 + c.val) s)) ∧
    ((getCtx s 2).run = 1 → psgUp s = true → Completes (exec .msgin s) (handlerEntered 2 0x2C s)) ∧
    (psgUp s = false → exec .msgin s = .next s) ∧
    (∀ q, canWrite s q 0x80 = true → (getCtx s c).run = 1 → Completes (exec (.doorbell q c) s) (fun t =>
      (getCtx t c).pc = BitVec.ofNat 14 (0x28 + c.val) ∧ (getCtx t c).run = 3 ∧ (∃ h : IrqFrame, (getCtx t c).irq = some h ∧
        h.pc = (getCtx s c).pc) ∧ t = { s with seq := t.seq, mgt := t.mgt })) ∧
    ((getCtx s c).run = 0 → exec (.tickEvent c) s = .next s) ∧
    ((getCtx s c).run = 3 ∨ (getCtx s c).run = 5 → Completes (exec (.tickEvent c) s) (fun t => evTick ∈ (getCtx t c).events ∧
      (getCtx t c).run = (getCtx s c).run ∧ movedTo (getCtx s c).pc c s t ∧ onlyCtx c s t)))

/-- Context c has restarted after a fault of that cause: registers, stack and COPY progress are cleared, the PC stands at the routine's
vector, the fault is logged, the stripes the context wrote are void and their units dirty, and its Plaza entries that were not granted are
cancelled. -/
def restarted (c : Fin 4) (cause : Nat) (s t : State) : Prop :=
  (getCtx t c).run = 1 ∧ (getCtx t c).pc = BitVec.ofNat 14 (vectorOf (getCtx s c).routine.toNat) ∧
    (getCtx t c).g = List.replicate 16 0 ∧ (getCtx t c).stack = [] ∧ (getCtx t c).blocks = 0 ∧
    fld t (ctxF c SEQ_CTX_RESTARTS) = fld s (ctxF c SEQ_CTX_RESTARTS) + 1 ∧ fld t SEQ_FAULT_LOG_CAUSE = cause ∧
    fld t SEQ_FAULT_LOG_CTX = c.val ∧ fld t SEQ_FAULT_LOG_PC = (getCtx s c).pc.toNat ∧ (∀ o ∈ t.img.openStripes, o.ctx ≠ c.val) ∧
    (∀ o ∈ s.img.openStripes, o.ctx = c.val → (∀ u ∈ o.units, isDirty t u = true) ∧ ∀ k ∈ o.spans, k ∈ t.img.spans) ∧
    (∀ o ∈ s.img.openStripes, o.ctx ≠ c.val → o ∈ t.img.openStripes) ∧
    (∀ e ∈ t.adm.plaza, e.client = c.val → e.stage ≠ .plaza) ∧ dramKept s t

/-- A fault voids the stripes its context writes, clears its registers and restarts it at its vector, or behind its COMMIT with the
registers held there; beyond RESTART_MAX the routine ends FAULTED. -/
def Obligations.SequencerFaultsRestartTheirRoutine : Prop :=
  (∀ (c : Fin 4) (s : State), seqOn s = true → (getCtx s c).run = 1 → (getCtx s c).commitAt = none → (getCtx s c).hook = none →
    (getCtx s c).routine.toNat < 16 →
    (fld s (ctxF c SEQ_CTX_RESTARTS) < fld s SEQ_LIMITS_RESTART_MAX →
      (LogsOnly s (srcSeq 1) → Completes (exec (.seqFault c .csUncorr) s) (restarted c 1 s)) ∧
      (LogsOnly s (srcSeq 4) → Completes (exec (.seqFault c .regErr) s) (restarted c 5 s)) ∧
      (LogsOnly s (srcSeq 3) → Completes (exec (.watchdog c) s) (restarted c 4 s))) ∧
    (fld s SEQ_LIMITS_RESTART_MAX ≤ fld s (ctxF c SEQ_CTX_RESTARTS) → LogsOnly s (srcSeq 4) →
      ∃ s1, exec (.seqFault c .regErr) s = .next (raise s1 (srcSeq 6)) ∧ (getCtx s1 c).run = 0 ∧
        fld s1 (ctxF c SEQ_CTX_RESULT) = 6)) ∧
  (∀ (c : Fin 4) (s : State), seqOn s = true → (getCtx s c).run ≠ 0 → inCust (getCtx s c) = false →
    exec (.seqFault c .illegal) s = .next (hookBudget (seqFault s c 2) c) ∧
    exec (.seqFault c .scratch) s = .next (hookBudget (seqFault s c 3) c)) ∧
  (∀ (c : Fin 4) (g : List Word) (pc : BitVec 14) (s : State), seqOn s = true → (getCtx s c).run = 5 →
    (getCtx s c).commitAt = some (g, pc) → (getCtx s c).hook = none → (getCtx s c).routine.toNat < 16 → LogsOnly s (srcSeq 5) →
    fld s (ctxF c SEQ_CTX_RESTARTS) < fld s SEQ_LIMITS_RESTART_MAX → Completes (exec (.postCommitTimeout c) s) (fun t =>
      (getCtx t c).run = 5 ∧ (getCtx t c).pc = pc ∧ (getCtx t c).g = g ∧ flag t (FLT_STICKY_SRC 0x80 5) = true ∧
      fld t SEQ_FAULT_LOG_CAUSE = 6 ∧ dramKept s t)) ∧
  (∀ (c : Fin 4) (s : State), (getCtx s c).run ≠ 5 → exec (.postCommitTimeout c) s = .next s) ∧
  (∀ (c : Fin 4) (s : State), (getCtx s c).run = 0 ∨ (getCtx s c).run = 2 ∨ (getCtx s c).run = 4 → exec (.watchdog c) s = .next s)

/-- STOP ends a routine of contexts 1 to 3 and never of context 0; a bank becomes active where it passes its check, and never in
RIDE or DUMP; a customer routine needs a region and SERVE or RESTORE; a poll enters H0 on an idle context 3; a bank in use takes
no word, another takes it and ADDR steps on. -/
def Obligations.BanksStopsAndCustomerStarts : Prop :=
  (∀ (q : Requester) (s : State), canWrite s q 0x80 = true → Completes (exec (.contextStop q 0) s) (fun t => t = { s with mgt := t.mgt })) ∧
  (∀ (q : Requester) (c : Fin 4) (s : State), canWrite s q 0x80 = true → c ≠ 0 → atYield (getCtx s c) = true → (getCtx s c).hook = none →
    Completes (exec (.contextStop q c) s) (fun t => (getCtx t c).run = 0 ∧ fld t (ctxF c SEQ_CTX_RESULT) = 4 ∧
      (∀ d, d ≠ c → getCtx t d = getCtx s d) ∧
      t = { s with regs := t.regs, seq := t.seq, mgt := t.mgt, adm := { s.adm with resHist := t.adm.resHist } })) ∧
  (∀ (q : Requester) (s : State), canWrite s q 0x80 = true →
    (s.vault ≠ .ride → s.vault ≠ .dump → flag s SEQ_STAT_SWITCH_BUSY = false → bankPasses s (1 - activeBank s) = true →
      Completes (exec (.bankSwitch q) s) (fun t => activeBank t = 1 - activeBank s ∧ fld t SEQ_STAT_SWITCH_RESULT = 1 ∧
        (∀ c, ctxBank t c = ctxBank s c) ∧ t = { s with regs := t.regs, mgt := t.mgt })) ∧
    (s.vault = .ride ∨ s.vault = .dump → ∃ s1, exec (.bankSwitch q) s = .next (dropHalf (raise s1 (srcSeq 9)) q) ∧
      fld s1 SEQ_STAT_SWITCH_RESULT = 5 ∧ activeBank s1 = activeBank s ∧ regsKept [SEQ_STAT_SWITCH_RESULT.reg] s s1)) ∧
  (∀ (q : Requester) (s : State), canWrite s q 0x80 = true → Completes (exec (.bankCheck q) s) (fun t =>
    fld t SEQ_CS_CHECK_CRC_A = wholeCrc s 0 % 2 ^ 32 ∧ fld t SEQ_CS_CHECK_CRC_B = wholeCrc s 1 % 2 ^ 32 ∧
    regsKept [SEQ_CS_CHECK_CRC_A.reg] s t ∧ t = { s with regs := t.regs, mgt := t.mgt })) ∧
  (∀ (q : Requester) (s : State), canWrite s q 0x80 = true →
    (custEmpty s (activeBank s) = false → steady s = true → Completes (exec (.customerStart q) s) (fun t =>
      16 + fld s SEQ_CUST_START_IDX ∈ (getCtx t 3).pend ∧ t = { s with seq := t.seq, mgt := t.mgt })) ∧
    (custEmpty s (activeBank s) = true ∨ steady s = false → Completes (exec (.customerStart q) s) (fun t =>
      fld t (ctxF 3 SEQ_CTX_RESULT) = 7 ∧ t = { s with regs := t.regs, mgt := t.mgt }))) ∧
  (∀ s : State, seqOn s = true → steady s = true → (getCtx s 3).run = 0 → hookRuns s false (activeBank s) = true →
    0 < fld s SEQ_CUST_BUDGET → Completes (exec .ckptPoll s) (fun t => (getCtx t 3).run = 1 ∧ (getCtx t 3).pc = 0x3002 ∧
      (∃ h : HookFrame, (getCtx t 3).hook = some h ∧ h.fromIdle = true ∧ h.index = false) ∧ t.seq.dirtied = 0 ∧
      ctxBank t 3 = activeBank s ∧ t.dram = s.dram)) ∧
  (∀ s : State, (getCtx s 3).run ≠ 0 ∨ hookRuns s false (activeBank s) = false → exec .ckptPoll s = .next s) ∧
  (∀ (q : Requester) (v : Word) (s : State), canWrite s q 0x81 = true → Completes (exec (.csIndexWrite q v) s) (fun t =>
    let w := bankWord s (bitsOf v.toNat 14 14) (bitsOf v.toNat 13 0)
    fldIn t SEQ_CS_IDX_BANK 0 (reqBank q) = bitsOf v.toNat 14 14 ∧ fldIn t SEQ_CS_IDX_ADDR 0 (reqBank q) = bitsOf v.toNat 13 0 ∧
    fldIn t SEQ_CS_W0_WORD_LO 0 (reqBank q) = w.toNat % 2 ^ 64 ∧ fldIn t SEQ_CS_W1_WORD_HI 0 (reqBank q) = w.toNat / 2 ^ 64 ∧
    t = { s with regs := t.regs, mgt := t.mgt })) ∧
  (∀ (q : Requester) (v : Word) (s : State), canWrite s q 0x81 = true → let b := fldIn s SEQ_CS_IDX_BANK 0 (reqBank q)
    let a := fldIn s SEQ_CS_IDX_ADDR 0 (reqBank q)
    (bankHeld s b = false → Completes (exec (.csWordWrite q v) s) (fun t =>
      (bankWord t b a).toNat = fldIn s SEQ_CS_W0_WORD_LO 0 (reqBank q) + v.toNat * 2 ^ 64 ∧
      (∀ x, x ≠ a → bankWord t b x = bankWord s b x) ∧ (∀ x, bankWord t (1 - b) x = bankWord s (1 - b) x) ∧
      fldIn t SEQ_CS_IDX_ADDR 0 (reqBank q) = (a + 1) % 16384 ∧ t = { s with regs := t.regs, seq := t.seq, mgt := t.mgt })) ∧
    (bankHeld s b = true → ∃ s1, exec (.csWordWrite q v) s = .next (dropHalf (raise s1 (srcSeq 10)) q) ∧
      s1.seq = s.seq ∧ regsKept [SEQ_CS_W1_WORD_HI.key 0 (reqBank q)] s s1))

/-! The management core and the code flash. -/

/-- A table load is refused by its first failing check (their order: log 45), moves its lines and counts them, and ends 7 on a
PCIe error; one runs at a time. -/
def Obligations.TableLoadsMoveOrAreRefused : Prop :=
  (∀ (q : Requester) (s : State), canWrite s q 0x00 = true → s.mgt.load = none →
    let w := windowOf s (fld s MGT_TL_CTL_WIN)
    let line := fld s MGT_TL_LINE_LINE
    let bytes := fld s MGT_TL_LEN_BYTES
    let r := if s.vault ≠ .serve then 8 else if bytes = 0 ∨ bytes % 64 ≠ 0 then 3 else if w.valid = false then 6
      else if line < w.base ∨ w.limit < line then 4 else if w.limit < line + bytes / 64 - 1 then 5 else 0
    (r = 0 → Completes (exec (.tableLoad q) s) (fun t => fld t MGT_TL_STAT_STATUS = 1 ∧ fld t MGT_TL_STAT_DONE = 0 ∧
      t.mgt.load = some ⟨fld s MGT_TL_CTL_WIN, w.dbase + (line - w.base), bytes / 64,
        if flag s MGT_TL_CTL_SRC_SRAM then some (64 * fld s MGT_TL_SRC_ADDR) else none, none⟩ ∧
      regsKept [MGT_TL_STAT_STATUS.reg] s t ∧ t = { s with regs := t.regs, mgt := t.mgt })) ∧
    (r ≠ 0 → ∃ s1, exec (.tableLoad q) s = .next (dropHalf (raise s1 (srcMgt 3)) q) ∧ fld s1 MGT_TL_STAT_STATUS = r ∧
      flag s1 (IRQ_PEND_BIT 0x00 0) = true ∧ s1 = { s with regs := s1.regs })) ∧
  (∀ (q : Requester) (s : State), canWrite s q 0x00 = true → s.mgt.load.isSome = true →
    Completes (exec (.tableLoad q) s) (fun t => t = { s with mgt := t.mgt } ∧ t.mgt.load = s.mgt.load)) ∧
  (∀ (x : TableLoad) (given : List Line) (e : Bool) (s : State), dataUp s = true → serving s = true → s.mgt.load = some x →
    x.ending = none → x.dline + x.lines ≤ installedLines s → let ls := loadLines s x given
    ls ≠ [] → Completes (exec (.tableLoadEnd given e) s) (fun t =>
      t.mgt.load = some { x with ending := some (ls.length,
        if s.vault ≠ .serve then 8 else if e = true ∨ ls.length < x.lines then 7 else 2) } ∧
      (∀ k y, ls[k]? = some y → ∃ p ∈ t.adm.plaza, p.client = 5 ∧ p.input = 31 ∧ p.output = subOf s (x.dline + k) ∧
        p.stage = .plaza ∧ p.restore = false ∧ (x.dline + k, some y) ∈ p.lines) ∧ (∀ p ∈ s.adm.plaza, p ∈ t.adm.plaza) ∧
      (∀ p ∈ t.adm.plaza, p ∈ s.adm.plaza ∨ ∀ i ∈ p.lines, ∃ k, k < ls.length ∧ i = (x.dline + k, ls[k]?)) ∧
      t = { s with adm := t.adm, mgt := t.mgt })) ∧
  (∀ (x : TableLoad) (given : List Line) (s : State), (x.sram = none → loadLines s x given = given.take x.lines) ∧
    (∀ a, x.sram = some a → (loadLines s x given).length = x.lines ∧ ∀ k i, k < x.lines → i < 64 →
      ((loadLines s x given).getD k 0).extractLsb' (8 * i) 8 = sget 0 s.mgt.sram (a + 64 * k + i))) ∧
  (∀ (x : TableLoad) (given : List Line) (e : Bool) (n r : Nat) (s : State), dataUp s = true → s.mgt.load = some x →
    x.ending = some (n, r) → x.dline + x.lines ≤ installedLines s → n < 2 ^ 32 → r < 16 →
    ((∃ p ∈ s.adm.plaza, p.client = 5) → exec (.tableLoadEnd given e) s = .next s) ∧
    ((∀ p ∈ s.adm.plaza, p.client ≠ 5) → r < 3 → s.mgt.heldCommit = none → Completes (exec (.tableLoadEnd given e) s) (fun t =>
      t.mgt.load = none ∧ fld t MGT_TL_STAT_STATUS = r ∧ fld t MGT_TL_STAT_DONE = n ∧ flag t (IRQ_PEND_BIT 0x00 0) = true ∧
      t = { s with regs := t.regs, mgt := t.mgt })) ∧
    ((∀ p ∈ s.adm.plaza, p.client ≠ 5) → 3 ≤ r → ∃ s1, exec (.tableLoadEnd given e) s =
      .next (releaseCommit (raise s1 (srcMgt 3))) ∧ fld s1 MGT_TL_STAT_STATUS = r ∧ fld s1 MGT_TL_STAT_DONE = n ∧ s1.mgt.load = none)) ∧
  (∀ (x : TableLoad) (given : List Line) (e : Bool) (s : State), dataUp s = true → s.mgt.load = some x →
    installedLines s < x.dline + x.lines → exec (.tableLoadEnd given e) s = .fault (.noSuchLine (max x.dline (installedLines s)))) ∧
  (∀ (given : List Line) (e : Bool) (s : State), s.mgt.load = none → exec (.tableLoadEnd given e) s = .next s)

/-- Where half h begins to run: its base and its ENTRY, bit 0 clear (R276). -/
def entryOf (s : State) (h : Bool) : BitVec 32 :=
  BitVec.ofNat 32 ((halfBase h + ofBytes (flashBytes s (halfBase h + 16) 4)) / 2 * 2)

/-- The hart has trapped: the place, the cause and the value are saved, machine mode runs with interrupts off, MPP and MPIE keep the mode
and the enable, and the PC is at the trap vector. -/
def trapped (cause tval : BitVec 32) (h g : HartSt) : Prop :=
  g = { h with mepc := h.pc, mcause := cause, mtval := tval, user := false, mstatus := g.mstatus,
               pc := (h.mtvec &&& 0xFFFFFFFC) +
                 (if cause.getLsbD 31 = true ∧ h.mtvec.getLsbD 0 = true then 4 * (cause &&& 0x7FFFFFFF) else 0) } ∧
    g.mstatus.getLsbD 3 = false ∧ g.mstatus.getLsbD 7 = h.mstatus.getLsbD 3 ∧ g.mstatus.getLsbD 11 = !h.user ∧
    g.mstatus.getLsbD 12 = !h.user ∧ ∀ i, i ≠ 3 → i ≠ 7 → i ≠ 11 → i ≠ 12 → g.mstatus.getLsbD i = h.mstatus.getLsbD i

/-- Of the hart, register rd has become v (register 0 stays zero) and the PC pc; one more instruction is counted. -/
def coreWrote (rd : Nat) (v pc : BitVec 32) (s t : State) : Prop :=
  (∀ r, r < 32 → coreReg t r = if r = rd ∧ r ≠ 0 then v else coreReg s r) ∧
    t = { s with mgt := { s.mgt with hart := { s.mgt.hart with x := t.mgt.hart.x, pc := pc, minstret := s.mgt.hart.minstret + 1 } } }

/-- A core restart runs the half NEXT names and releases the unlock; BOOT_OK confirms a trial, the watchdog falls back to the other
half. A running core takes the interrupt where it is enabled, at once or out of a stalled fetch, and otherwise only notes the
request. The core runs what it fetches: in machine mode from the SRAM, a 32-bit instruction by its meaning; arithmetic, branches,
loads and stores of the SRAM, system calls and the return from a trap (R268, R269; log 58: the encodings are the RISC-V manuals').
-/
def Obligations.CoreRestartsAndInterrupts : Prop :=
  (∀ (q : Requester) (s : State), canWrite s q 0x00 = true → quietStart s → Completes (exec (.coreRestart q) s) (fun t =>
    fld t MGT_STAT_CAUSE = 1 ∧ flag t MGT_STAT_HALF = s.mgt.next ∧ flag t NVC_STAT_UNLOCKED = false ∧ t.mgt.keyFails = 0 ∧
    t.mgt.hart = { HartSt.reset with pc := entryOf s s.mgt.next, running := true } ∧
    t.out = s.out ++ [.coreRestarted] ∧ t.dram = s.dram ∧ t.vault = s.vault ∧ t = { s with regs := t.regs, mgt := t.mgt, out := t.out })) ∧
  (∀ (q : Requester) (s : State), canWrite s q 0x00 = true → s.mgt.trialRun = true → Completes (exec (.bootOk q) s) (fun t =>
    t.mgt.trial = false ∧ t.mgt.trialRun = false ∧ flag t MGT_STAT_TRIAL = false ∧ t.mgt.next = s.mgt.next ∧
    regsKept [MGT_STAT_TRIAL.reg] s t ∧ t = { s with regs := t.regs, mgt := t.mgt })) ∧
  (∀ (q : Requester) (s : State), s.mgt.trialRun = false → Completes (exec (.bootOk q) s) (fun t => t = { s with mgt := t.mgt })) ∧
  (∀ s : State, mgtUp s = true → s.mgt.trialRun = true → s.mgt.op = none → s.mgt.suspended = none →
    headerOk s (!runningHalf s) = true → (∃ s1, exec .bootWdogExpire s = .next (raise s1 srcFwFallback) ∧
      s1.mgt.next = !runningHalf s ∧ runningHalf s1 = !runningHalf s ∧ flag s1 MGT_STAT_FALLBACK = true ∧ fld s1 MGT_STAT_CAUSE = 2 ∧
      s1.mgt.hart = { HartSt.reset with pc := entryOf s (!runningHalf s), running := true } ∧
      s1.out = s.out ++ [.coreRestarted] ∧ s1.dram = s.dram) ∧
    (LogsOnly s srcFwFallback → Completes (exec .bootWdogExpire s) (fun t => t.mgt.next = !runningHalf s ∧
      runningHalf t = !runningHalf s ∧ flag t MGT_STAT_FALLBACK = true ∧ fld t MGT_STAT_CAUSE = 2 ∧
      flag t (FLT_STICKY_SRC 0x00 0) = true ∧ dramKept s t))) ∧
  (∀ s : State, s.mgt.trialRun = false → exec .bootWdogExpire s = .next s) ∧
  (∀ s : State, mgtUp s = true → s.mgt.hart.running = false ∨ interruptReady s = false ∨ s.mgt.hart.busy ≠ 0 ∨
      (∃ u, s.mgt.hart.stall = some (false, u)) → Completes (exec .coreInterrupt s) (fun t =>
    (t.mgt.irqTaken = true ↔ ∃ p ∈ allPages, getReg s (rkey 0 0 p 0x048) &&& getReg s (rkey 0 0 p 0x040) ≠ 0) ∧
    t = { s with mgt := { s.mgt with irqTaken := t.mgt.irqTaken } })) ∧
  (∀ s : State, interruptReady s = true ↔ (∃ p ∈ allPages, getReg s (rkey 0 0 p 0x048) &&& getReg s (rkey 0 0 p 0x040) ≠ 0) ∧
    s.mgt.hart.mie.getLsbD 11 = true ∧ (s.mgt.hart.user = true ∨ s.mgt.hart.mstatus.getLsbD 3 = true)) ∧
  (∀ s : State, mgtUp s = true → s.mgt.hart.running = true → interruptReady s = true → s.mgt.hart.busy = 0 →
    (s.mgt.hart.stall = none → Completes (exec .coreInterrupt s) (fun t => t.mgt.irqTaken = true ∧
      trapped 0x8000000B 0 s.mgt.hart t.mgt.hart ∧ t = { s with mgt := { s.mgt with irqTaken := true, hart := t.mgt.hart } })) ∧
    (∀ u, s.mgt.hart.stall = some (true, u) → Completes (exec .coreInterrupt s) (fun t => t.mgt.irqTaken = true ∧
      trapped 0x8000000B 0 { s.mgt.hart with stall := none } t.mgt.hart ∧
      fld t NVC_STALL_LONGEST = min (2 ^ 32 - 1) (max (fld s NVC_STALL_LONGEST) ((s.now - u) / usUnits)) ∧
      regsKept [NVC_STALL_LONGEST.reg] s t ∧ t = { s with regs := t.regs, mgt := t.mgt }))) ∧
  (∀ (off w : Nat) (i : CoreOp) (s : State), s.mgt.hart.user = false → s.mgt.hart.pc.toNat = 0x10000000 + off → off + 4 ≤ 0x80000 →
    sramNum s off 4 = w → w % 4 = 3 → decode32 w = some i → coreInstr s = runCore s w 4 i) ∧
  (∀ (bits rd a b : Nat) (o : AluOp) (imm : BitVec 32) (s : State), rd < 32 →
    Completes (runCore s bits 4 (.alu o rd a b)) (coreWrote rd (aluRun o (coreReg s a) (coreReg s b)) (s.mgt.hart.pc + 4) s) ∧
    Completes (runCore s bits 4 (.aluImm o rd a imm)) (coreWrote rd (aluRun o (coreReg s a) imm) (s.mgt.hart.pc + 4) s) ∧
    Completes (runCore s bits 4 (.lui rd imm)) (coreWrote rd imm (s.mgt.hart.pc + 4) s) ∧
    Completes (runCore s bits 4 (.jal rd imm)) (coreWrote rd (s.mgt.hart.pc + 4) (s.mgt.hart.pc + imm) s)) ∧
  (∀ (bits a b : Nat) (c : BranchOp) (imm : BitVec 32) (s : State), Completes (runCore s bits 4 (.branch c a b imm))
    (coreWrote 0 0 (s.mgt.hart.pc + if branchRun c (coreReg s a) (coreReg s b) then imm else 4) s)) ∧
  (∀ (bits rd a off : Nat) (imm : BitVec 32) (s : State), rd < 32 → dataUser s = false →
    (coreReg s a + imm).toNat = 0x10000000 + off → off % 4 = 0 → off < 0x80000 →
    Completes (runCore s bits 4 (.load 4 true rd a imm)) (coreWrote rd (sramWord s off) (s.mgt.hart.pc + 4) s)) ∧
  (∀ (bits a b off : Nat) (imm : BitVec 32) (s : State), dataUser s = false →
    (coreReg s a + imm).toNat = 0x10000000 + off → off % 4 = 0 → off < 0x80000 →
    Completes (runCore s bits 4 (.store 4 a b imm)) (fun t => sramWord t off = coreReg s b ∧
      (∀ x, x < off ∨ off + 4 ≤ x → sget 0 t.mgt.sram x = sget 0 s.mgt.sram x) ∧
      (∀ r, coreReg t r = coreReg s r) ∧ t.mgt.hart.pc = s.mgt.hart.pc + 4 ∧ t = { s with mgt := t.mgt })) ∧
  (∀ (bits : Nat) (s : State),
    Completes (runCore s bits 4 .ecall) (fun t => trapped (if s.mgt.hart.user then 8 else 11) 0 s.mgt.hart t.mgt.hart ∧
      t = { s with mgt := { s.mgt with hart := t.mgt.hart } }) ∧
    (s.mgt.hart.user = true → Completes (runCore s bits 4 .mret) (fun t => trapped 2 (BitVec.ofNat 32 bits) s.mgt.hart t.mgt.hart ∧
      t = { s with mgt := { s.mgt with hart := t.mgt.hart } })) ∧
    (s.mgt.hart.user = false → Completes (runCore s bits 4 .mret) (fun t => t.mgt.hart.pc = s.mgt.hart.mepc ∧
      t.mgt.hart.user = !s.mgt.hart.mstatus.getLsbD 11 ∧ t.mgt.hart.mstatus.getLsbD 3 = s.mgt.hart.mstatus.getLsbD 7 ∧
      t.mgt.hart.mstatus.getLsbD 7 = true ∧ t.mgt.hart.x = s.mgt.hart.x ∧ t = { s with mgt := { s.mgt with hart := t.mgt.hart } })))

/-- The core's request follows the pages with a bit set in both IRQ_PEND and IRQ_EN, and MGT_IRQ_SRC reads the lowest such page. -/
def Obligations.CoreInterruptFollowsPendingPages : Prop :=
  (∀ s : State, mgtUp s = true → Completes (exec .coreInterrupt s) (fun t =>
    (t.mgt.irqTaken = true ↔ ∃ p ∈ allPages, getReg s (rkey 0 0 p 0x048) &&& getReg s (rkey 0 0 p 0x040) ≠ 0) ∧
    regsKept [NVC_STALL_LONGEST.reg] s t ∧ t = { s with regs := t.regs, mgt := t.mgt })) ∧
  (∀ (q : Requester) (p : Nat) (s : State), pageRuns s 0x00 = true → p ∈ allPages →
    getReg s (rkey 0 0 p 0x048) &&& getReg s (rkey 0 0 p 0x040) ≠ 0 →
    (∀ p' ∈ allPages, getReg s (rkey 0 0 p' 0x048) &&& getReg s (rkey 0 0 p' 0x040) ≠ 0 → p ≤ p') →
    bitsOf (readValue s q 0x00 0x118).toNat 8 8 = 1 ∧ bitsOf (readValue s q 0x00 0x118).toNat 7 0 = p)

/-- The commands that change the array or the option and key areas, each with its CMD (R281). -/
def nvcChanges (q : Requester) : List (Nat × Instr) :=
  [(1, .nvcProgram q), (2, .nvcSectorErase q), (5, .nvcSetBoot q), (6, .nvcSetLevel q), (7, .nvcKeyProgram q)]

/-- A command of the code flash has started on NVC_ADDR and NVC_DATA. -/
def nvcStarted (q : Requester) (cmd : Nat) (s t : State) : Prop :=
  t.mgt.op = some ⟨cmd, fld s NVC_ADDR_ADDR, BitVec.ofNat 64 (fld s NVC_DATA_DATA), q⟩ ∧ flag t NVC_STAT_BUSY = true ∧
    fld t NVC_STAT_RESULT = 0 ∧ fld t NVC_CMD_CMD = cmd ∧ t.mgt.flash = s.mgt.flash ∧ t = { s with regs := t.regs, mgt := t.mgt }

/-- The unlock: two values in order give it to their writer, the third wrong sequence locks it out, and its holder gives it up;
another requester's commands raise an event and do nothing. A command of the code flash is refused by name (the order of the
grounds: log 29) or starts; PROGRAM needs an erased word; READ and BLANK_CHECK answer at once; NVC_DATA alone starts nothing
without AUTO. The end of a code-flash operation: a PROGRAM writes its word and steps ADDR, an erase clears its sector alone,
SET_BOOT and KEY_PROGRAM write their areas, a lower level erases all; a failed PROGRAM leaves its word undefined; an erase
suspends and resumes; the pump guard trips and releases. -/
def Obligations.CodeFlashUnlockCommandsAndEnds : Prop :=
  (∀ (q : Requester) (s : State), canWrite s q 0x88 = true → flag s NVC_STAT_KEY_LOCKOUT = false → flag s NVC_STAT_UNLOCKED = false →
    (s.mgt.keyStep ≠ some q → Completes (exec (.nvcKeyWrite q 0x4E56434B) s) (fun t => t.mgt.keyStep = some q ∧
      t.mgt.keyFails = s.mgt.keyFails ∧ t = { s with mgt := t.mgt })) ∧
    (s.mgt.keyStep = some q → Completes (exec (.nvcKeyWrite q 0x9D2E07A1) s) (fun t => flag t NVC_STAT_UNLOCKED = true ∧
      fld t NVC_CTL_OWNER = requesterCode q ∧ holdsUnlock t q = true ∧ t.mgt.keyStep = none ∧ t = { s with regs := t.regs, mgt := t.mgt })) ∧
    (∀ v, (s.mgt.keyStep = some q ∧ v ≠ 0x9D2E07A1) ∨ (s.mgt.keyStep ≠ some q ∧ v ≠ 0x4E56434B) →
      (s.mgt.keyFails < 2 → Completes (exec (.nvcKeyWrite q v) s) (fun t => t.mgt.keyFails = s.mgt.keyFails + 1 ∧
        t.mgt.keyStep = none ∧ t = { s with mgt := t.mgt })) ∧
      (2 ≤ s.mgt.keyFails → ∃ s1, exec (.nvcKeyWrite q v) s = .next (dropHalf (raise s1 (srcNvc 8)) q) ∧
        flag s1 NVC_STAT_KEY_LOCKOUT = true ∧ flag s1 NVC_STAT_UNLOCKED = false))) ∧
  (∀ (q : Requester) (v : BitVec 32) (s : State), flag s NVC_STAT_KEY_LOCKOUT = true ∨ flag s NVC_STAT_UNLOCKED = true →
    Completes (exec (.nvcKeyWrite q v) s) (fun t => t.mgt.keyStep = s.mgt.keyStep ∧ t = { s with mgt := t.mgt })) ∧
  (∀ (q : Requester) (s : State), canWrite s q 0x88 = true → holdsUnlock s q = true → Completes (exec (.nvcLock q) s) (fun t =>
    flag t NVC_STAT_UNLOCKED = false ∧ fld t NVC_CTL_OWNER = 0 ∧ regsKept [NVC_STAT_UNLOCKED.reg, NVC_CTL_OWNER.reg] s t ∧
    t = { s with regs := t.regs, mgt := t.mgt })) ∧
  (∀ (q : Requester) (i : Instr) (s : State), i ∈ [.nvcProgram q, .nvcSectorErase q, .nvcRead q, .nvcBlankCheck q, .nvcSetBoot q,
      .nvcSetLevel q, .nvcKeyProgram q, .nvcDataWrite q 0, .nvcSuspend q, .nvcResume q] → canWrite s q 0x88 = true → nvcBarred s q = true →
    exec i s = .next (dropHalf (raise s (srcNvc 9)) q)) ∧
  (∀ (q : Requester) (cmd : Nat) (i : Instr) (s : State), (cmd, i) ∈ nvcChanges q → canWrite s q 0x88 = true → nvcBarred s q = false →
    (s.mgt.op.isSome = true → Completes (exec i s) (fun t => fld t NVC_STAT_RESULT = 8 ∧ t.mgt.op = s.mgt.op ∧ t.mgt.flash = s.mgt.flash)) ∧
    (s.mgt.op = none → s.mgt.suspended = none → s.vault = .ride ∨ s.vault = .dump ∨ s.vault = .alley →
      Completes (exec i s) (fun t => fld t NVC_STAT_RESULT = 10 ∧ t.mgt.op = none ∧ t.mgt.flash = s.mgt.flash)) ∧
    (s.mgt.op = none → s.mgt.suspended = none → nvcState s cmd = false → holdsUnlock s q = false →
      Completes (exec i s) (fun t => fld t NVC_STAT_RESULT = 3 ∧ t.mgt.op = none ∧ t.mgt.flash = s.mgt.flash)) ∧
    (s.mgt.op = none → s.mgt.suspended = none → nvcState s cmd = false → holdsUnlock s q = true → flag s NVC_STAT_GUARD = true →
      ∃ s1, exec i s = .next (dropHalf (raise s1 (srcNvc 4)) q) ∧ fld s1 NVC_STAT_RESULT = 7 ∧ s1.mgt = s.mgt)) ∧
  (∀ (q : Requester) (s : State), canWrite s q 0x88 = true → nvcBarred s q = false →
    let why := fun cmd => nvcWhyNot s q cmd (fld s NVC_ADDR_ADDR) (fld s NVC_DATA_DATA)
    (why 1 = none → fld s NVC_ADDR_ADDR / 8 ∉ s.mgt.dubious → flashWord s (fld s NVC_ADDR_ADDR / 8) = BitVec.allOnes 64 →
      Completes (exec (.nvcProgram q) s) (nvcStarted q 1 s)) ∧
    (why 2 = none → Completes (exec (.nvcSectorErase q) s) (fun t => nvcStarted q 2 s t ∧ fld t NVC_SUSP_COUNT = 0)) ∧
    (why 5 = none → Completes (exec (.nvcSetBoot q) s) (nvcStarted q 5 s)) ∧
    (why 6 = none → Completes (exec (.nvcSetLevel q) s) (nvcStarted q 6 s)) ∧
    (why 7 = none → Completes (exec (.nvcKeyProgram q) s) (nvcStarted q 7 s))) ∧
  (∀ (q : Requester) (s : State), canWrite s q 0x88 = true → nvcBarred s q = false →
    nvcWhyNot s q 1 (fld s NVC_ADDR_ADDR) (fld s NVC_DATA_DATA) = none → fld s NVC_ADDR_ADDR / 8 ∉ s.mgt.dubious →
    flashWord s (fld s NVC_ADDR_ADDR / 8) ≠ BitVec.allOnes 64 → Completes (exec (.nvcProgram q) s) (fun t =>
      fld t NVC_STAT_RESULT = 6 ∧ t.mgt.op = s.mgt.op ∧ t.mgt.flash = s.mgt.flash)) ∧
  (∀ (q : Requester) (s : State), canWrite s q 0x88 = true → nvcBarred s q = false →
    nvcWhyNot s q 3 (fld s NVC_ADDR_ADDR) (fld s NVC_DATA_DATA) = none → fld s NVC_ADDR_ADDR / 8 ∉ s.mgt.dubious →
    optionArea (sectorOf (fld s NVC_ADDR_ADDR)) = false ∨ optionWritten s = false → Completes (exec (.nvcRead q) s) (fun t =>
      fld t NVC_DATA_DATA = (flashWord s (fld s NVC_ADDR_ADDR / 8)).toNat ∧ fld t NVC_STAT_RESULT = 1 ∧ t.mgt.flash = s.mgt.flash ∧
      flag t (IRQ_PEND_BIT 0x88 0) = true ∧ t = { s with regs := t.regs, mgt := t.mgt })) ∧
  (∀ (q : Requester) (s : State), let sec := sectorOf (fld s NVC_ADDR_ADDR)
    canWrite s q 0x88 = true → nvcBarred s q = false → nvcWhyNot s q 4 (fld s NVC_ADDR_ADDR) (fld s NVC_DATA_DATA) = none →
    optionArea sec = false → keyAreaSec sec = false → (∀ w ∈ s.mgt.dubious, w / 512 ≠ sec) →
    Completes (exec (.nvcBlankCheck q) s) (fun t => ((∀ e ∈ s.mgt.flash, e.1 / 512 ≠ sec) → fld t NVC_STAT_RESULT = 1) ∧
      ((∃ e ∈ s.mgt.flash, e.1 / 512 = sec) → fld t NVC_STAT_RESULT = 6) ∧ t = { s with regs := t.regs, mgt := t.mgt })) ∧
  (∀ (q : Requester) (v : Word) (s : State), canWrite s q 0x88 = true → nvcBarred s q = false → flag s NVC_CMD_AUTO = false →
    Completes (exec (.nvcDataWrite q v) s) (fun t => fld t NVC_DATA_DATA = v.toNat ∧ regsKept [NVC_DATA_DATA.reg] s t ∧
      t = { s with regs := t.regs, mgt := t.mgt })) ∧
  (∀ (op : NvcOp) (n : BitVec 4) (s : State), mgtUp s = true → s.mgt.op = some op →
    (op.cmd = 1 → Completes (exec (.nvcOpDone true n) s) (fun t => flashWord t (op.addr / 8) = op.data ∧
      (∀ w, w ≠ op.addr / 8 → flashWord t w = flashWord s w) ∧ op.addr / 8 ∉ t.mgt.dubious ∧ fld t NVC_STAT_RESULT = 1 ∧
      fld t NVC_STAT_PULSES = n.toNat ∧ flag t NVC_STAT_BUSY = false ∧ t.mgt.op = none ∧ fld t NVC_ADDR_ADDR = (op.addr + 8) % 2 ^ 23 ∧
      fld t NVC_COUNTS_PROGRAMS = min (2 ^ 32 - 1) (fld s NVC_COUNTS_PROGRAMS + 1))) ∧
    (op.cmd = 2 → Completes (exec (.nvcOpDone true n) s) (fun t => (∀ w, w / 512 = sectorOf op.addr → flashWord t w = BitVec.allOnes 64) ∧
      (∀ w, w / 512 ≠ sectorOf op.addr → flashWord t w = flashWord s w) ∧ fld t NVC_STAT_RESULT = 1 ∧ t.mgt.op = none ∧
      fld t NVC_COUNTS_ERASES = min (2 ^ 32 - 1) (fld s NVC_COUNTS_ERASES + 1))) ∧
    (op.cmd = 5 → Completes (exec (.nvcOpDone true n) s) (fun t => t.mgt.next = bitAt op.data.toNat 0 ∧
      t.mgt.trial = bitAt op.data.toNat 1 ∧ fld t NVC_STAT_RESULT = 1 ∧ t.mgt.flash = s.mgt.flash)) ∧
    (op.cmd = 6 → op.data.toNat % 4 < s.mgt.level.toNat → Completes (exec (.nvcOpDone true n) s) (fun t => t.mgt.level = 0 ∧
      (∀ w, flashWord t w = BitVec.allOnes 64) ∧ t.mgt.keyArea = [] ∧ t.mgt.imageSlot = [] ∧ t.img.key = none)) ∧
    (op.cmd = 6 → s.mgt.level.toNat ≤ op.data.toNat % 4 → Completes (exec (.nvcOpDone true n) s) (fun t =>
      t.mgt.level.toNat = op.data.toNat % 4 ∧ t.mgt.flash = s.mgt.flash)) ∧
    (op.cmd = 7 → Completes (exec (.nvcOpDone true n) s) (fun t => sget 0 t.mgt.keyArea (op.addr / 8) = op.data ∧
      t.mgt.flash = s.mgt.flash)) ∧
    (op.cmd = 1 → ∃ s1, exec (.nvcOpDone false n) s = .next (raise s1 (srcNvc 0)) ∧ op.addr / 8 ∈ s1.mgt.dubious ∧
      fld s1 NVC_STAT_RESULT = 2 ∧ s1.mgt.op = none ∧ s1.mgt.flash = s.mgt.flash) ∧
    (op.cmd = 2 → ∃ s1, exec (.nvcOpDone false n) s = .next (raise s1 (srcNvc 1)) ∧ fld s1 NVC_STAT_RESULT = 2 ∧
      (∀ w, w / 512 = sectorOf op.addr → w ∈ s1.mgt.dubious) ∧ s1.mgt.op = none)) ∧
  (∀ (q : Requester) (op : NvcOp) (s : State), canWrite s q 0x88 = true → nvcBarred s q = false → op.cmd = 2 →
    (s.mgt.op = some op → min (2 ^ 32 - 1) (fld s NVC_SUSP_COUNT + 1) = fld s NVC_SUSP_STARVE_TH →
      ∃ s1, exec (.nvcSuspend q) s = .next (dropHalf (raise s1 (srcNvc 6)) q) ∧ s1.mgt.op = none ∧ s1.mgt.suspended = some op) ∧
    (s.mgt.op = some op → min (2 ^ 32 - 1) (fld s NVC_SUSP_COUNT + 1) ≠ fld s NVC_SUSP_STARVE_TH →
      Completes (exec (.nvcSuspend q) s) (fun t => t.mgt.op = none ∧ t.mgt.suspended = some op ∧
      flag t NVC_STAT_BUSY = false ∧ flag t NVC_STAT_SUSPENDED = true ∧
      fld t NVC_SUSP_COUNT = min (2 ^ 32 - 1) (fld s NVC_SUSP_COUNT + 1) ∧ t = { s with regs := t.regs, mgt := t.mgt })) ∧
    (s.mgt.suspended = some op → s.mgt.op = none → flag s NVC_STAT_GUARD = false → Completes (exec (.nvcResume q) s) (fun t =>
      t.mgt.op = some op ∧ t.mgt.suspended = none ∧ flag t NVC_STAT_BUSY = true ∧ flag t NVC_STAT_SUSPENDED = false ∧
      t = { s with regs := t.regs, mgt := t.mgt }))) ∧
  (∀ s : State, mgtUp s = true → (s.mgt.suspended.isSome = true ∨ (∃ op, s.mgt.op = some op ∧ op.cmd = 2) →
      exec .eraseStarved s = .next (raise s (srcNvc 6)) ∧ (LogsOnly s (srcNvc 6) → Completes (exec .eraseStarved s) (fun t =>
        flag t (FLT_STICKY_SRC 0x88 6) = true ∧ t.mgt = s.mgt ∧ dramKept s t))) ∧
    (s.mgt.suspended = none → (∀ op, s.mgt.op = some op → op.cmd ≠ 2) → exec .eraseStarved s = .next s) ∧
    (s.mgt.op = none → Completes (exec .pumpGuardTrip s) (fun t => flag t NVC_STAT_GUARD = true ∧ regsKept [NVC_STAT_GUARD.reg] s t ∧
      t = { s with regs := t.regs })) ∧
    (∀ op, s.mgt.op = some op → op.cmd = 1 ∨ op.cmd = 2 ∨ op.cmd = 7 → ∃ s1, exec .pumpGuardTrip s =
      .next (raise (raise s1 (srcNvc 4)) srcInterrupted) ∧ flag s1 NVC_STAT_GUARD = true ∧ fld s1 NVC_STAT_RESULT = 7 ∧
      s1.mgt.op = none ∧ flag s1 NVC_INTR_VALID = true ∧ fld s1 NVC_INTR_ADDR = op.addr % 2 ^ 23) ∧
    Completes (exec .pumpGuardRelease s) (fun t => flag t NVC_STAT_GUARD = false ∧ regsKept [NVC_STAT_GUARD.reg] s t ∧
      t = { s with regs := t.regs }))

/-! Register pages and management frames. -/

/-- The write of PAGE_CTL is refused: CTL_REFUSED alone is set. -/
def ctlRefused (pg : Nat) (s t : State) : Prop :=
  flag t (PAGE_STAT_CTL_REFUSED pg) = true ∧ regsKept [(PAGE_STAT_CTL_REFUSED pg).reg] s t ∧ t = { s with regs := t.regs, mgt := t.mgt }

/-- The write v of PAGE_CTL is taken: ENABLE, QUIESCE and CLOCKED follow it, REMOTE unless the page is locked. -/
def ctlTaken (pg : Nat) (v : Word) (s t : State) : Prop :=
  flag t (PAGE_CTL_ENABLE pg) = bitAt v.toNat 0 ∧ flag t (PAGE_CTL_QUIESCE pg) = bitAt v.toNat 2 ∧
    flag t (PAGE_STAT_CLOCKED pg) = bitAt v.toNat 0 ∧ flag t (PAGE_STAT_CTL_REFUSED pg) = false ∧
    fld t (PAGE_CTL_REMOTE pg) = (if locked s pg then fld s (PAGE_CTL_REMOTE pg) else bitsOf v.toNat 5 4) ∧
    regsKept [(PAGE_CTL_ENABLE pg).reg, (PAGE_STAT_CLOCKED pg).reg] s t ∧ t = { s with regs := t.regs, mgt := t.mgt }

/-- A lock is set by writing one, never by the ring or by zero, and a set lock freezes REMOTE; ENABLE and QUIESCE act only on a
page out of service and are noted as refused otherwise, BLOCK_RESET likewise; a block reset of an unlocked page gives every
register from 0x100 its reset value (log 33). -/
def Obligations.PageControlGuardsPagesInService : Prop :=
  (∀ (q : Requester) (pg : Nat) (v : Word) (s : State), canWriteHdr s q pg = true → q ≠ .ring → bitAt v.toNat 0 = true →
    pg ≠ 0x0B ∨ ocvRises s = true → Completes (exec (.pageLockWrite q pg v) s) (fun t => locked t pg = true ∧
      regsKept [(PAGE_LOCK_LOCK pg).reg] s t ∧ t = { s with regs := t.regs, mgt := t.mgt })) ∧
  (∀ (q : Requester) (pg : Nat) (v : Word) (s : State), q = .ring ∨ bitAt v.toNat 0 = false →
    Completes (exec (.pageLockWrite q pg v) s) (fun t => t = { s with mgt := t.mgt })) ∧
  (∀ (q : Requester) (pg : Nat) (v : Word) (s : State), canWriteHdr s q pg = true →
    q ≠ .ring ∨ bitsOf v.toNat 5 4 = fld s (PAGE_CTL_REMOTE pg) →
    (outOfService s pg = false → bitAt v.toNat 0 ≠ flag s (PAGE_CTL_ENABLE pg) ∨ bitAt v.toNat 2 ≠ flag s (PAGE_CTL_QUIESCE pg) →
      Completes (exec (.pageEnable q pg v) s) (ctlRefused pg s) ∧ Completes (exec (.quiesce q pg v) s) (ctlRefused pg s)) ∧
    (outOfService s pg = true → bitAt v.toNat 1 = false →
      Completes (exec (.pageEnable q pg v) s) (ctlTaken pg v s) ∧ Completes (exec (.quiesce q pg v) s) (ctlTaken pg v s))) ∧
  (∀ (pg : Nat) (v : Word) (s : State), bitsOf v.toNat 5 4 ≠ fld s (PAGE_CTL_REMOTE pg) →
    Completes (exec (.pageEnable .ring pg v) s) (fun t => t = { s with mgt := t.mgt })) ∧
  (∀ (q : Requester) (pg : Nat) (v : Word) (s : State), q ≠ .ring → canWriteHdr s q pg = true → outOfService s pg = true →
    locked s pg = false → pg ≠ 0x09 → pg ≠ 0x0A → Completes (exec (.blockReset q pg v) s) (fun t => flag t (PAGE_CTL_ENABLE pg) = bitAt v.toNat 0 ∧
      (∀ k, keyPage k = pg → 0x100 ≤ keyOff k → getReg t k = resetWord k) ∧
      (∀ k, keyPage k ≠ pg → getReg t k = getReg s k) ∧ flag t (PAGE_STAT_RESET_BUSY pg) = true ∧
      t = { s with regs := t.regs, mgt := t.mgt })) ∧
  (∀ (q : Requester) (pg : Nat) (v : Word) (s : State), q ≠ .ring → canWriteHdr s q pg = true → outOfService s pg = false →
    Completes (exec (.blockReset q pg v) s) (fun t => flag t (PAGE_STAT_CTL_REFUSED pg) = true ∧
      regsKept [(PAGE_STAT_CTL_REFUSED pg).reg] s t ∧ t = { s with regs := t.regs, mgt := t.mgt })) ∧
  (∀ (pg : Nat) (s : State), mappedPage pg = true → groupUp s pg = true → Completes (exec (.blockResetDone pg) s) (fun t =>
    flag t (PAGE_STAT_RESET_BUSY pg) = false ∧ regsKept [(PAGE_STAT_RESET_BUSY pg).reg] s t ∧ t = { s with regs := t.regs })) ∧
  (∀ (q : Requester) (pg : Nat) (v : Word) (i : Instr) (s : State), i ∈ [.pageEnable q pg v, .quiesce q pg v, .blockReset q pg v] →
    locked s pg = true → Completes (exec i s) (fun t => fld t (PAGE_CTL_REMOTE pg) = fld s (PAGE_CTL_REMOTE pg)))

/-- The plain index fields (R378). -/
def indexFields : List Fld :=
  [BLV_PORT_IDX_INDEX, ADM_PORT_IDX_INDEX, ADM_POOL_IDX_INDEX, ZON_WIN_IDX_INDEX, ZON_TEN_IDX_INDEX, DRP_DLY_IDX_PIN,
   FCH_REMAP_IDX_INDEX, MEAS_OCV_IDX_INDEX, MEAS_TS_IDX_INDEX, RNG_TX_IDX_INDEX, RNG_REG_IDX_INDEX, CEN_WIN_IDX_INDEX,
   FLT_ESC_IDX_SOURCE, FLT_LOG_IDX_INDEX]

/-- Each requester has its own index registers. A write changes RW fields, and RWL fields of an unlocked page, and nothing else; a
read returns the value and clears the RC fields; a page out of reach reads all ones and takes no write. A low half is held for its
register and requester; the high half writes both at once or is discarded; a load of the low half latches the high one, which the
next load returns. -/
def Obligations.AccessesAndHalvesOfRegisters : Prop :=
  (∀ (q : Requester) (f : Fld) (v : Word) (s : State), f ∈ indexFields → canWrite s q f.page = true →
    Completes (exec (.indexWrite q f.page f.off v) s) (fun t => indexOf t q f = bitsOf v.toNat f.hi f.lo ∧
      (∀ x, reqBank x ≠ reqBank q → indexOf t x f = indexOf s x f) ∧ regsKept [f.key 0 (reqBank q)] s t ∧
      t = { s with regs := t.regs, mgt := t.mgt, snaps := t.snaps, adm := { s.adm with resHist := t.adm.resHist } })) ∧
  (∀ (q : Requester) (pg off : Nat) (v : Word) (s : State), indexRegister pg off = false → exec (.indexWrite q pg off v) s = .next s) ∧
  (∀ (q : Requester) (pg off : Nat) (r : RegRow) (v : Word) (s : State), pg ∈ [0x01, 0x02, 0x10] → 0x100 ≤ off → (pg, off) ≠ (0x02, 0x100) →
    findRow pg off = some r → canWrite s q pg = true → Completes (exec (.registerWrite q pg off v) s) (fun t =>
      (∀ f ∈ r.fields, bitsOf (getReg t (rkey 0 0 pg off)).toNat f.hi f.lo =
        (if f.acc = .rw ∨ (f.acc = .rwl ∧ locked s pg = false) then bitsOf v.toNat f.hi f.lo
         else if f.acc = .w1c then bitsOf (getReg s (rkey 0 0 pg off)).toNat f.hi f.lo &&& (2 ^ (f.hi + 1 - f.lo) - 1 - bitsOf v.toNat f.hi f.lo)
         else bitsOf (getReg s (rkey 0 0 pg off)).toNat f.hi f.lo)) ∧
      regsKept [rkey 0 0 pg off] s t ∧ t = { s with regs := t.regs, mgt := t.mgt, adm := { s.adm with resHist := t.adm.resHist } })) ∧
  (∀ (q : Requester) (pg off : Nat) (v : Word) (s : State), reachable s q pg = false ∨ s.vault = .sealed →
    Completes (exec (.registerWrite q pg off v) s) (fun t => t = { s with mgt := t.mgt })) ∧
  (∀ (q : Requester) (pg off i b : Nat) (r : RegRow) (s : State), reachable s q pg = true → (q = .ring → ringReads s pg = true) →
    findRow pg off = some r → place s q pg off = some (i, b) → snapped pg off = false → pageRuns s pg = true →
    s.vault ≠ .sealed → Completes (exec (.readClearAccess q pg off) s) (fun t =>
      t.out = s.out ++ [.readData q pg off (BitVec.ofNat 64 (liveWord s q pg off i (getReg s (rkey i b pg off)).toNat))] ∧
      (∀ f ∈ r.fields, bitsOf (getReg t (rkey i b pg off)).toNat f.hi f.lo =
        (if f.acc = .rc then 0 else bitsOf (getReg s (rkey i b pg off)).toNat f.hi f.lo)) ∧
      regsKept [rkey i b pg off] s t ∧ t = { s with regs := t.regs, out := t.out })) ∧
  (∀ (q : Requester) (pg off : Nat) (s : State), requesterUp s q = true → q ≠ .ring → reachable s q pg = false →
    Completes (exec (.readClearAccess q pg off) s) (fun t => t.out = s.out ++ [.readData q pg off (BitVec.allOnes 64)] ∧
      t = { s with out := t.out })) ∧
  (∀ (q : Requester) (addr : Nat) (v : BitVec 32) (s : State), requesterUp s q = true → addr % 8 = 0 →
    Completes (exec (.lowHalfStore q addr v) s) (fun t => (getHalf t q).held = some (addr, v) ∧ (getHalf t q).latch = (getHalf s q).latch ∧
      (∀ x, reqBank x ≠ reqBank q → getHalf t x = getHalf s x) ∧ t = { s with mgt := t.mgt } ∧ t.mgt.flash = s.mgt.flash)) ∧
  (∀ (q : Requester) (addr : Nat) (lo v : BitVec 32) (s : State), requesterUp s q = true → addr % 8 = 0 →
    (getHalf s q).held = some (addr, lo) →
    exec (.highHalfStore q (addr + 4) v) s = exec (.registerWrite q (addr / 4096) (addr % 4096) (v ++ lo)) s) ∧
  (∀ (q : Requester) (addr a : Nat) (lo v : BitVec 32) (s : State), requesterUp s q = true → addr % 8 = 4 →
    (getHalf s q).held = some (a, lo) → a + 4 ≠ addr → Completes (exec (.highHalfStore q addr v) s) (fun t =>
      (getHalf t q).held = none ∧ t = { s with mgt := t.mgt })) ∧
  (∀ (q : Requester) (pg off : Nat) (lo v : BitVec 32) (r : RegRow) (s : State), pg ∈ [0x01, 0x02, 0x10] → 0x100 ≤ off → off < 0x1000 →
    (pg, off) ≠ (0x02, 0x100) → findRow pg off = some r → canWrite s q pg = true → (getHalf s q).held = some (4096 * pg + off, lo) →
    (4096 * pg + off) % 8 = 0 → Completes (exec (.highHalfStore q (4096 * pg + off + 4) v) s) (fun t =>
      (∀ f ∈ r.fields, f.acc = .rw → bitsOf (getReg t (rkey 0 0 pg off)).toNat f.hi f.lo = bitsOf (v ++ lo).toNat f.hi f.lo) ∧
      (getHalf t q).held = none ∧ regsKept [rkey 0 0 pg off] s t ∧
      t = { s with regs := t.regs, mgt := t.mgt, adm := { s.adm with resHist := t.adm.resHist } })) ∧
  (∀ (q : Requester) (addr : Nat) (s : State), requesterUp s q = true → addr % 8 = 0 → Completes (exec (.lowHalfLoad q addr) s) (fun t =>
    let w := (busRead s q (addr / 4096) (addr % 4096)).1
    t.out = s.out ++ [.readData q (addr / 4096) (addr % 4096) ((w.extractLsb' 0 32).setWidth 64)] ∧
    (getHalf t q).latch = some (addr, w.extractLsb' 32 32) ∧ (getHalf t q).held = (getHalf s q).held)) ∧
  (∀ (q : Requester) (addr a : Nat) (h : BitVec 32) (s : State), requesterUp s q = true → addr % 8 = 4 →
    reachable s q (addr / 4096) = true → (getHalf s q).latch = some (a, h) → Completes (exec (.lowHalfLoad q addr) s) (fun t =>
      t.out = s.out ++ [.readData q (addr / 4096) (addr % 4096) (h.setWidth 64)] ∧ t = { s with out := t.out }))

/-- A transmit descriptor: GO takes the next SEQ and sets BUSY; a cancel before the grant ends it with RESULT 2, one after the frame
left with RESULT 3; the grant sends the frame through its port and writes RESULT 1 with the RNG event. A management request for
another vault goes on; one for this vault runs its operations in order and its response is kept and sent; the same request again is
answered from the store and runs nothing; a response reaches the core. -/
def Obligations.DescriptorsAndManagementFrames : Prop :=
  (∀ (q : Requester) (v : Word) (s : State), canWrite s q 0x90 = true → fldAt s RNG_TX_CTL_BUSY (indexOf s q RNG_TX_IDX_INDEX) = 0 →
    bitAt v.toNat 0 = true → bitAt v.toNat 5 = false → Completes (exec (.txDescriptorGo q v) s) (fun t =>
      let d := indexOf s q RNG_TX_IDX_INDEX
      fldAt t RNG_TX_CTL_BUSY d = 1 ∧ fldAt t RNG_TX_CTL_RESULT d = 0 ∧ fldAt t RNG_TX_CTL_SEQ d = s.ring.seq.toNat ∧
      t.ring = { s.ring with seq := s.ring.seq + 1 } ∧ regsKept [RNG_TX_CTL_BUSY.key d 0] s t ∧
      t = { s with regs := t.regs, ring := t.ring, mgt := t.mgt })) ∧
  (∀ (q : Requester) (s : State), canWrite s q 0x90 = true → fldAt s RNG_TX_CTL_BUSY (indexOf s q RNG_TX_IDX_INDEX) = 1 →
    Completes (exec (.txCancel q) s) (fun t =>
      let d := indexOf s q RNG_TX_IDX_INDEX
      fldAt t RNG_TX_CTL_BUSY d = 0 ∧ fldAt t RNG_TX_CTL_RESULT d = 2 ∧ flag t (IRQ_PEND_BIT 0x90 0) = true ∧
      fld t RNG_CANCEL_DONE = min (2 ^ 32 - 1) (fld s RNG_CANCEL_DONE + 1) ∧
      regsKept [RNG_TX_CTL_BUSY.key d 0, rkey 0 0 0x90 0x048, RNG_CANCEL_DONE.reg] s t ∧ t = { s with regs := t.regs, mgt := t.mgt })) ∧
  (∀ (q : Requester) (s : State), canWrite s q 0x90 = true → fldAt s RNG_TX_CTL_BUSY (indexOf s q RNG_TX_IDX_INDEX) = 0 →
    fldAt s RNG_TX_CTL_RESULT (indexOf s q RNG_TX_IDX_INDEX) = 1 → Completes (exec (.txCancel q) s) (fun t =>
      fldAt t RNG_TX_CTL_RESULT (indexOf s q RNG_TX_IDX_INDEX) = 3 ∧
      fld t RNG_CANCEL_LATE = min (2 ^ 32 - 1) (fld s RNG_CANCEL_LATE + 1) ∧ t = { s with regs := t.regs, mgt := t.mgt })) ∧
  (∀ (d : Fin 16) (s : State), ringOn s = true → fldAt s RNG_TX_CTL_BUSY d.val = 1 → fldAt s RNG_TX_CTL_PORT d.val = 2 →
    portLink s .west = true → Transmits s .west → Completes (exec (.txGrant d) s) (fun t =>
      fldAt t RNG_TX_CTL_BUSY d.val = 0 ∧ fldAt t RNG_TX_CTL_RESULT d.val = 1 ∧ flag t (IRQ_PEND_BIT 0x90 0) = true ∧
      (∃ (f : FrameHdr) (b : List Nat) (typ : Nat), t.out = s.out ++ [sentFrame .west typ f (.raw b)] ∧ f.origin = vaultId s ∧
        f.seq.toNat = fldAt s RNG_TX_CTL_SEQ d.val ∧ f.resend = (fldAt s RNG_TX_CTL_RESEND d.val != 0) ∧
        b = sramBytes s (64 * fldAt s RNG_TX_CTL_OFFSET d.val) (fldAt s RNG_TX_CTL_LEN d.val) ∧ typ = b.getD 14 0) ∧
      t = { s with regs := t.regs, out := t.out })) ∧
  (∀ (p : RingPort) (f : FrameHdr) (g : MgmtGroup) (s : State), GoodFrame s p f → f.origin ≠ vaultId s → f.dest ≠ 0 → f.dest ≠ vaultId s →
    PortOpen s (otherPort p) → Completes (exec (.mgmtReq p f g) s) (fun t =>
      t.out = s.out ++ [sentFrame (otherPort p) 0x40 { f with hops := f.hops + 1 } (.mgmt g)] ∧ t.ring.kept = s.ring.kept ∧
      t = { s with regs := t.regs, out := t.out, ring := t.ring })) ∧
  (∀ (p : RingPort) (f : FrameHdr) (g : MgmtGroup) (r : KeptResp) (s : State), FreshFrame s p f → f.dest ≠ 0 → PortOpen s .east →
    s.ring.kept.find? (fun r => decide (r.origin = f.origin) && decide (r.incarn = f.incarn) && decide (r.rtag = g.rtag)) = some r →
    Completes (exec (.mgmtReq p f g) s) (fun t => t.out = s.out ++ [sentFrame .east 0x41 (ownHdr s f.origin) (.mgmt r.resp)] ∧
      t.ring.kept = s.ring.kept ∧ t = { s with regs := t.regs, out := t.out, ring := t.ring })) ∧
  (∀ (p : RingPort) (f : FrameHdr) (g : MgmtGroup) (o : MgmtOp) (s : State), FreshFrame s p f → f.dest ≠ 0 → PortOpen s .east →
    g.ops = [o] → g.count = 1 →
    s.ring.kept.find? (fun r => decide (r.origin = f.origin) && decide (r.incarn = f.incarn) && decide (r.rtag = g.rtag)) = none →
    (mgmtStatus s o = 0 → o.op = 1 → Completes (exec (.mgmtReq p f g) s) (fun t => ∃ w : Word,
      t.ring.kept.getLast? = some ⟨f.origin, f.incarn, g.rtag, ⟨g.rtag, g.count, [⟨o.addr, 0, w⟩]⟩⟩ ∧
      t.out = s.out ++ [sentFrame .east 0x41 (ownHdr s f.origin) (.mgmt ⟨g.rtag, g.count, [⟨o.addr, 0, w⟩]⟩)] ∧
      w = (busRead (dropHalf (arrives s p f false).1 .ring) .ring (o.addr.toNat / 4096) (o.addr.toNat % 4096)).1)) ∧
    (mgmtStatus s o ≠ 0 → o.op = 2 → Completes (exec (.mgmtReq p f g) s) (fun t =>
      t.out = s.out ++ [sentFrame .east 0x41 (ownHdr s f.origin) (.mgmt ⟨g.rtag, g.count, [⟨o.addr, BitVec.ofNat 8 (mgmtStatus s o), 0⟩]⟩)] ∧
      t = { s with regs := t.regs, out := t.out, ring := t.ring, mgt := t.mgt }))) ∧
  (∀ (p : RingPort) (f : FrameHdr) (g : MgmtGroup) (s : State), FreshFrame s p f → f.dest ≠ 0 → Completes (exec (.mgmtResp p f g) s) (fun t =>
    t.out = s.out ++ [.mgmtResponse g] ∧ flag t (IRQ_PEND_BIT 0x90 1) = true ∧
    regsKept [(portFld p RNE_FRAMES_RX).reg, (IRQ_PEND_BIT 0x90 1).reg] s t ∧ t = { s with regs := t.regs, out := t.out, ring := t.ring }))
end

