-- ==== Sys2Proof/Laws/Crc.lean ====
section
/-! SUPPORT. Laws of the check codes: a reflected CRC of 32 bits stays within 32 bits, and the word that holds a bank's CRC does not
enter it. -/
namespace Sys2Proof.Machine

/-- What every step of a fold keeps holds at its end. -/
theorem foldl_keeps {α β : Type} (P : β → Prop) (f : β → α → β) (l : List α) (b : β) (h : P b)
    (hf : ∀ x a, P x → a ∈ l → P (f x a)) : P (l.foldl f b) := by
  induction l generalizing b with
  | nil => exact h
  | cons a l ih =>
    exact ih _ (hf b a h (List.mem_cons_self ..)) (fun x y hx hy => hf x y hx (List.mem_cons_of_mem _ hy))

/-- One shift of a reflected register stays below 2^n where the polynomial does. -/
theorem crcDown_lt {n poly c : Nat} (hp : poly < 2 ^ n) (hc : c < 2 ^ n) : crcDown poly c < 2 ^ n := by
  have h : c / 2 < 2 ^ n := Nat.lt_of_le_of_lt (Nat.div_le_self c 2) hc
  unfold crcDown
  split
  · exact Nat.xor_lt_two_pow h hp
  · exact h

theorem crcDownByte_lt {n poly c b : Nat} (hp : poly < 2 ^ n) (hc : c < 2 ^ n) (hb : b < 2 ^ n) :
    crcDownByte poly c b < 2 ^ n := by
  unfold crcDownByte
  exact foldl_keeps (fun x => x < 2 ^ n) _ _ _ (Nat.xor_lt_two_pow hc hb) (fun x _ hx _ => crcDown_lt hp hx)

theorem crcDownBytes_lt {n poly c : Nat} (l : List Nat) (hp : poly < 2 ^ n) (hc : c < 2 ^ n) (hl : ∀ b ∈ l, b < 2 ^ n) :
    l.foldl (crcDownByte poly) c < 2 ^ n :=
  foldl_keeps (fun x => x < 2 ^ n) _ _ _ hc (fun _ b hx hb => crcDownByte_lt hp hx (hl b hb))

theorem bytesOf_lt (v n : Nat) : ∀ b ∈ bytesOf v n, b < 256 := by
  induction n generalizing v with
  | zero => simp [bytesOf]
  | succ n ih =>
    intro b hb
    rcases List.mem_cons.mp hb with rfl | hb
    · exact Nat.mod_lt _ (by decide)
    · exact ih _ b hb

/-- A flit's CRC has 32 bits. -/
theorem crc32_lt (l : List Nat) (hl : ∀ b ∈ l, b < 256) : crc32 l < 2 ^ 32 :=
  Nat.xor_lt_two_pow (crcDownBytes_lt l (by decide) (by decide) (fun b hb => Nat.lt_trans (hl b hb) (by decide))) (by decide)

/-- A bank's CRC has 32 bits. -/
theorem bankCrc_lt (s : State) (b first n skip : Nat) : bankCrc s b first n skip < 2 ^ 32 := by
  unfold bankCrc
  refine Nat.xor_lt_two_pow (foldl_keeps (fun x => x < 2 ^ 32) _ _ _ (by decide) ?_) (by decide)
  intro c k hc _
  exact crcDownBytes_lt _ (by decide) hc (fun x hx => Nat.lt_trans (bytesOf_lt _ _ x hx) (by decide))

/-- A bank's CRC depends on the words it covers alone, and not on the word it skips. -/
theorem bankCrc_congr (s t : State) (b first n skip : Nat) (h : ∀ a, a ≠ skip → bankWord t b a = bankWord s b a) :
    bankCrc t b first n skip = bankCrc s b first n skip := by
  unfold bankCrc
  congr 2
  funext c k
  by_cases e : first + k = skip
  · simp [e]
  · simp [e, h _ e]

end Sys2Proof.Machine
end

