-- ==== Sys2Proof/Laws/Sparse.lean ====
section
/-! SUPPORT. The laws of the sparse maps: what a write changes, and that it keeps the canonical form. -/
namespace Sys2Proof.Machine

theorem sget_sdel_same {α : Type} (d : α) (m : Sparse α) (k : Nat) : sget d (sdel m k) k = d := by
  induction m with
  | nil => rfl
  | cons e m ih =>
    obtain ⟨j, v⟩ := e
    by_cases h : j = k <;> simp [sdel, sget, h, ih]

theorem sget_sdel_other {α : Type} (d : α) (m : Sparse α) {k j : Nat} (h : j ≠ k) : sget d (sdel m k) j = sget d m j := by
  induction m with
  | nil => rfl
  | cons e m ih =>
    obtain ⟨i, v⟩ := e
    by_cases hi : i = k
    · have : i ≠ j := fun e => h (e ▸ hi)
      simp [sdel, sget, hi, ih, Ne.symm h]
    · simp [sdel, sget, hi, ih]

theorem sget_sput_same {α : Type} (d v : α) (m : Sparse α) (k : Nat) : sget d (sput k v m) k = v := by
  induction m with
  | nil => simp [sput, sget]
  | cons e m ih =>
    obtain ⟨j, w⟩ := e
    unfold sput
    split
    · simp [sget]
    · split
      · simp [sget]
      · rename_i h
        simp [sget, Ne.symm h, ih]

theorem sget_sput_other {α : Type} (d v : α) (m : Sparse α) {k j : Nat} (h : j ≠ k) :
    sget d (sput k v m) j = sget d m j := by
  induction m with
  | nil => simp [sput, sget, Ne.symm h]
  | cons e m ih =>
    obtain ⟨i, w⟩ := e
    unfold sput
    split
    · simp [sget, Ne.symm h]
    · split
      · rename_i hk
        subst hk
        simp [sget, Ne.symm h]
      · simp [sget, ih]

/-- A write to a key reads back. -/
@[simp] theorem sget_sset_same {α : Type} [DecidableEq α] (d : α) (m : Sparse α) (k : Nat) (v : α) :
    sget d (sset d m k v) k = v := by
  unfold sset
  split
  · rename_i h
    rw [sget_sdel_same, h]
  · exact sget_sput_same d v m k

/-- A write to a key leaves every other key, whatever its default. -/
theorem sget_sset_other {α : Type} [DecidableEq α] (d d' : α) (m : Sparse α) {k j : Nat} (v : α) (h : j ≠ k) :
    sget d' (sset d m k v) j = sget d' m j := by
  unfold sset
  split
  · exact sget_sdel_other d' m h
  · exact sget_sput_other d' v m h

theorem sortedFrom_mono {α : Type} {m : Sparse α} {lo lo' : Nat} (h : lo' ≤ lo) (hs : sortedFrom lo m = true) :
    sortedFrom lo' m = true := by
  cases m with
  | nil => rfl
  | cons e m =>
    obtain ⟨k, v⟩ := e
    simp [sortedFrom] at *
    exact ⟨by omega, hs.2⟩

theorem sortedFrom_sdel {α : Type} (m : Sparse α) (k lo : Nat) (hs : sortedFrom lo m = true) :
    sortedFrom lo (sdel m k) = true := by
  induction m generalizing lo with
  | nil => rfl
  | cons e m ih =>
    obtain ⟨j, v⟩ := e
    simp [sortedFrom] at hs
    unfold sdel
    split
    · exact sortedFrom_mono (by omega) (ih (j + 1) hs.2)
    · simp [sortedFrom, hs.1, ih (j + 1) hs.2]

theorem sortedFrom_sput {α : Type} (m : Sparse α) (k : Nat) (v : α) (lo : Nat) (hk : lo ≤ k)
    (hs : sortedFrom lo m = true) : sortedFrom lo (sput k v m) = true := by
  induction m generalizing lo with
  | nil => simp [sput, sortedFrom, hk]
  | cons e m ih =>
    obtain ⟨j, w⟩ := e
    simp [sortedFrom] at hs
    unfold sput
    split
    · rename_i h
      have h1 : k + 1 ≤ j := h
      simp [sortedFrom, hk, h1, hs.2]
    · split
      · rename_i h
        subst h
        simp [sortedFrom, hk, hs.2]
      · simp [sortedFrom, hs.1, ih (j + 1) (by omega) hs.2]

theorem mem_sdel {α : Type} {m : Sparse α} {k : Nat} {e : Nat × α} (h : e ∈ sdel m k) : e ∈ m := by
  induction m with
  | nil => simp [sdel] at h
  | cons x m ih =>
    obtain ⟨j, v⟩ := x
    unfold sdel at h
    split at h
    · exact List.mem_cons_of_mem _ (ih h)
    · rcases List.mem_cons.mp h with rfl | h
      · exact List.mem_cons_self
      · exact List.mem_cons_of_mem _ (ih h)

theorem mem_sput {α : Type} {m : Sparse α} {k : Nat} {v : α} {e : Nat × α} (h : e ∈ sput k v m) : e = (k, v) ∨ e ∈ m := by
  induction m with
  | nil => simp [sput] at h; exact .inl h
  | cons x m ih =>
    obtain ⟨j, w⟩ := x
    unfold sput at h
    split at h
    · rcases List.mem_cons.mp h with rfl | h
      · exact .inl rfl
      · exact .inr h
    · split at h
      · rcases List.mem_cons.mp h with rfl | h
        · exact .inl rfl
        · exact .inr (List.mem_cons_of_mem _ h)
      · rcases List.mem_cons.mp h with rfl | h
        · exact .inr List.mem_cons_self
        · rcases ih h with h | h
          · exact .inl h
          · exact .inr (List.mem_cons_of_mem _ h)

/-- A write keeps the canonical form, against the default its key has. -/
theorem sparseWf_sset {α : Type} [DecidableEq α] (d : Nat → α) (m : Sparse α) (k : Nat) (v : α) (h : sparseWf d m = true) :
    sparseWf d (sset (d k) m k v) = true := by
  simp only [sparseWf, Bool.and_eq_true, List.all_eq_true, decide_eq_true_eq] at *
  unfold sset
  split
  · exact ⟨sortedFrom_sdel m k 0 h.1, fun e he => h.2 e (mem_sdel he)⟩
  · rename_i hv
    refine ⟨sortedFrom_sput m k v 0 (Nat.zero_le _) h.1, fun e he => ?_⟩
    rcases mem_sput he with rfl | he
    · exact hv
    · exact h.2 e he

/-- A part of a canonical map in the same order is canonical. -/
theorem sortedFrom_filter {α : Type} (p : Nat × α → Bool) (m : Sparse α) (lo : Nat) (h : sortedFrom lo m = true) :
    sortedFrom lo (m.filter p) = true := by
  induction m generalizing lo with
  | nil => rfl
  | cons e m ih =>
    obtain ⟨k, v⟩ := e
    simp [sortedFrom] at h
    rw [List.filter_cons]
    split
    · simp [sortedFrom, h.1, ih (k + 1) h.2]
    · exact sortedFrom_mono (by omega) (ih (k + 1) h.2)

theorem sparseWf_filter {α : Type} [DecidableEq α] (d : Nat → α) (p : Nat × α → Bool) (m : Sparse α)
    (h : sparseWf d m = true) : sparseWf d (m.filter p) = true := by
  simp only [sparseWf, Bool.and_eq_true, List.all_eq_true, decide_eq_true_eq] at *
  exact ⟨sortedFrom_filter p m 0 h.1, fun e he => h.2 e (List.mem_filter.mp he).1⟩

end Sys2Proof.Machine
end

