-- ==== Sys2Proof/Laws/State.lean ====
section
/-! SUPPORT. What every named update of the state leaves: one lemma per field and update. -/
namespace Sys2Proof.Machine

@[simp] theorem setReg_vault (s : State) (k : Nat) (v : Word) : (setReg s k v).vault = s.vault := rfl
@[simp] theorem setReg_now (s : State) (k : Nat) (v : Word) : (setReg s k v).now = s.now := rfl
@[simp] theorem setReg_pod (s : State) (k : Nat) (v : Word) : (setReg s k v).pod = s.pod := rfl
@[simp] theorem setReg_pins (s : State) (k : Nat) (v : Word) : (setReg s k v).pins = s.pins := rfl
@[simp] theorem setReg_rst (s : State) (k : Nat) (v : Word) : (setReg s k v).rst = s.rst := rfl
@[simp] theorem setReg_adm (s : State) (k : Nat) (v : Word) : (setReg s k v).adm = s.adm := rfl
@[simp] theorem setReg_dram (s : State) (k : Nat) (v : Word) : (setReg s k v).dram = s.dram := rfl
@[simp] theorem setReg_links (s : State) (k : Nat) (v : Word) : (setReg s k v).links = s.links := rfl
@[simp] theorem setReg_psg (s : State) (k : Nat) (v : Word) : (setReg s k v).psg = s.psg := rfl
@[simp] theorem setReg_pwr (s : State) (k : Nat) (v : Word) : (setReg s k v).pwr = s.pwr := rfl
@[simp] theorem setReg_img (s : State) (k : Nat) (v : Word) : (setReg s k v).img = s.img := rfl
@[simp] theorem setReg_packA (s : State) (k : Nat) (v : Word) : (setReg s k v).packA = s.packA := rfl
@[simp] theorem setReg_packB (s : State) (k : Nat) (v : Word) : (setReg s k v).packB = s.packB := rfl
@[simp] theorem setReg_seq (s : State) (k : Nat) (v : Word) : (setReg s k v).seq = s.seq := rfl
@[simp] theorem setReg_mgt (s : State) (k : Nat) (v : Word) : (setReg s k v).mgt = s.mgt := rfl
@[simp] theorem setReg_ring (s : State) (k : Nat) (v : Word) : (setReg s k v).ring = s.ring := rfl
@[simp] theorem setReg_cen (s : State) (k : Nat) (v : Word) : (setReg s k v).cen = s.cen := rfl
@[simp] theorem setReg_flt (s : State) (k : Nat) (v : Word) : (setReg s k v).flt = s.flt := rfl
@[simp] theorem setReg_snaps (s : State) (k : Nat) (v : Word) : (setReg s k v).snaps = s.snaps := rfl
@[simp] theorem setReg_out (s : State) (k : Nat) (v : Word) : (setReg s k v).out = s.out := rfl
@[simp] theorem setReg_draws (s : State) (k : Nat) (v : Word) : (setReg s k v).draws = s.draws := rfl
@[simp] theorem setReg_pending (s : State) (k : Nat) (v : Word) : (setReg s k v).pending = s.pending := rfl

@[simp] theorem setFldIn_vault (s : State) (f : Fld) (i b v : Nat) : (setFldIn s f i b v).vault = s.vault := setReg_vault _ _ _
@[simp] theorem setFldIn_now (s : State) (f : Fld) (i b v : Nat) : (setFldIn s f i b v).now = s.now := setReg_now _ _ _
@[simp] theorem setFldIn_pod (s : State) (f : Fld) (i b v : Nat) : (setFldIn s f i b v).pod = s.pod := setReg_pod _ _ _
@[simp] theorem setFldIn_pins (s : State) (f : Fld) (i b v : Nat) : (setFldIn s f i b v).pins = s.pins := setReg_pins _ _ _
@[simp] theorem setFldIn_rst (s : State) (f : Fld) (i b v : Nat) : (setFldIn s f i b v).rst = s.rst := setReg_rst _ _ _
@[simp] theorem setFldIn_adm (s : State) (f : Fld) (i b v : Nat) : (setFldIn s f i b v).adm = s.adm := setReg_adm _ _ _
@[simp] theorem setFldIn_dram (s : State) (f : Fld) (i b v : Nat) : (setFldIn s f i b v).dram = s.dram := setReg_dram _ _ _
@[simp] theorem setFldIn_links (s : State) (f : Fld) (i b v : Nat) : (setFldIn s f i b v).links = s.links := setReg_links _ _ _
@[simp] theorem setFldIn_psg (s : State) (f : Fld) (i b v : Nat) : (setFldIn s f i b v).psg = s.psg := setReg_psg _ _ _
@[simp] theorem setFldIn_pwr (s : State) (f : Fld) (i b v : Nat) : (setFldIn s f i b v).pwr = s.pwr := setReg_pwr _ _ _
@[simp] theorem setFldIn_img (s : State) (f : Fld) (i b v : Nat) : (setFldIn s f i b v).img = s.img := setReg_img _ _ _
@[simp] theorem setFldIn_packA (s : State) (f : Fld) (i b v : Nat) : (setFldIn s f i b v).packA = s.packA := setReg_packA _ _ _
@[simp] theorem setFldIn_packB (s : State) (f : Fld) (i b v : Nat) : (setFldIn s f i b v).packB = s.packB := setReg_packB _ _ _
@[simp] theorem setFldIn_seq (s : State) (f : Fld) (i b v : Nat) : (setFldIn s f i b v).seq = s.seq := setReg_seq _ _ _
@[simp] theorem setFldIn_mgt (s : State) (f : Fld) (i b v : Nat) : (setFldIn s f i b v).mgt = s.mgt := setReg_mgt _ _ _
@[simp] theorem setFldIn_ring (s : State) (f : Fld) (i b v : Nat) : (setFldIn s f i b v).ring = s.ring := setReg_ring _ _ _
@[simp] theorem setFldIn_cen (s : State) (f : Fld) (i b v : Nat) : (setFldIn s f i b v).cen = s.cen := setReg_cen _ _ _
@[simp] theorem setFldIn_flt (s : State) (f : Fld) (i b v : Nat) : (setFldIn s f i b v).flt = s.flt := setReg_flt _ _ _
@[simp] theorem setFldIn_snaps (s : State) (f : Fld) (i b v : Nat) : (setFldIn s f i b v).snaps = s.snaps := setReg_snaps _ _ _
@[simp] theorem setFldIn_out (s : State) (f : Fld) (i b v : Nat) : (setFldIn s f i b v).out = s.out := setReg_out _ _ _
@[simp] theorem setFldIn_draws (s : State) (f : Fld) (i b v : Nat) : (setFldIn s f i b v).draws = s.draws := setReg_draws _ _ _
@[simp] theorem setFldIn_pending (s : State) (f : Fld) (i b v : Nat) : (setFldIn s f i b v).pending = s.pending := setReg_pending _ _ _

@[simp] theorem setFld_vault (s : State) (f : Fld) (v : Nat) : (setFld s f v).vault = s.vault := setFldIn_vault _ _ _ _ _
@[simp] theorem setFld_now (s : State) (f : Fld) (v : Nat) : (setFld s f v).now = s.now := setFldIn_now _ _ _ _ _
@[simp] theorem setFld_pod (s : State) (f : Fld) (v : Nat) : (setFld s f v).pod = s.pod := setFldIn_pod _ _ _ _ _
@[simp] theorem setFld_pins (s : State) (f : Fld) (v : Nat) : (setFld s f v).pins = s.pins := setFldIn_pins _ _ _ _ _
@[simp] theorem setFld_rst (s : State) (f : Fld) (v : Nat) : (setFld s f v).rst = s.rst := setFldIn_rst _ _ _ _ _
@[simp] theorem setFld_adm (s : State) (f : Fld) (v : Nat) : (setFld s f v).adm = s.adm := setFldIn_adm _ _ _ _ _
@[simp] theorem setFld_dram (s : State) (f : Fld) (v : Nat) : (setFld s f v).dram = s.dram := setFldIn_dram _ _ _ _ _
@[simp] theorem setFld_links (s : State) (f : Fld) (v : Nat) : (setFld s f v).links = s.links := setFldIn_links _ _ _ _ _
@[simp] theorem setFld_psg (s : State) (f : Fld) (v : Nat) : (setFld s f v).psg = s.psg := setFldIn_psg _ _ _ _ _
@[simp] theorem setFld_pwr (s : State) (f : Fld) (v : Nat) : (setFld s f v).pwr = s.pwr := setFldIn_pwr _ _ _ _ _
@[simp] theorem setFld_img (s : State) (f : Fld) (v : Nat) : (setFld s f v).img = s.img := setFldIn_img _ _ _ _ _
@[simp] theorem setFld_packA (s : State) (f : Fld) (v : Nat) : (setFld s f v).packA = s.packA := setFldIn_packA _ _ _ _ _
@[simp] theorem setFld_packB (s : State) (f : Fld) (v : Nat) : (setFld s f v).packB = s.packB := setFldIn_packB _ _ _ _ _
@[simp] theorem setFld_seq (s : State) (f : Fld) (v : Nat) : (setFld s f v).seq = s.seq := setFldIn_seq _ _ _ _ _
@[simp] theorem setFld_mgt (s : State) (f : Fld) (v : Nat) : (setFld s f v).mgt = s.mgt := setFldIn_mgt _ _ _ _ _
@[simp] theorem setFld_ring (s : State) (f : Fld) (v : Nat) : (setFld s f v).ring = s.ring := setFldIn_ring _ _ _ _ _
@[simp] theorem setFld_cen (s : State) (f : Fld) (v : Nat) : (setFld s f v).cen = s.cen := setFldIn_cen _ _ _ _ _
@[simp] theorem setFld_flt (s : State) (f : Fld) (v : Nat) : (setFld s f v).flt = s.flt := setFldIn_flt _ _ _ _ _
@[simp] theorem setFld_snaps (s : State) (f : Fld) (v : Nat) : (setFld s f v).snaps = s.snaps := setFldIn_snaps _ _ _ _ _
@[simp] theorem setFld_out (s : State) (f : Fld) (v : Nat) : (setFld s f v).out = s.out := setFldIn_out _ _ _ _ _
@[simp] theorem setFld_draws (s : State) (f : Fld) (v : Nat) : (setFld s f v).draws = s.draws := setFldIn_draws _ _ _ _ _
@[simp] theorem setFld_pending (s : State) (f : Fld) (v : Nat) : (setFld s f v).pending = s.pending := setFldIn_pending _ _ _ _ _

@[simp] theorem setFlag_vault (s : State) (f : Fld) (b : Bool) : (setFlag s f b).vault = s.vault := setFld_vault _ _ _
@[simp] theorem setFlag_now (s : State) (f : Fld) (b : Bool) : (setFlag s f b).now = s.now := setFld_now _ _ _
@[simp] theorem setFlag_pod (s : State) (f : Fld) (b : Bool) : (setFlag s f b).pod = s.pod := setFld_pod _ _ _
@[simp] theorem setFlag_pins (s : State) (f : Fld) (b : Bool) : (setFlag s f b).pins = s.pins := setFld_pins _ _ _
@[simp] theorem setFlag_rst (s : State) (f : Fld) (b : Bool) : (setFlag s f b).rst = s.rst := setFld_rst _ _ _
@[simp] theorem setFlag_adm (s : State) (f : Fld) (b : Bool) : (setFlag s f b).adm = s.adm := setFld_adm _ _ _
@[simp] theorem setFlag_dram (s : State) (f : Fld) (b : Bool) : (setFlag s f b).dram = s.dram := setFld_dram _ _ _
@[simp] theorem setFlag_links (s : State) (f : Fld) (b : Bool) : (setFlag s f b).links = s.links := setFld_links _ _ _
@[simp] theorem setFlag_psg (s : State) (f : Fld) (b : Bool) : (setFlag s f b).psg = s.psg := setFld_psg _ _ _
@[simp] theorem setFlag_pwr (s : State) (f : Fld) (b : Bool) : (setFlag s f b).pwr = s.pwr := setFld_pwr _ _ _
@[simp] theorem setFlag_img (s : State) (f : Fld) (b : Bool) : (setFlag s f b).img = s.img := setFld_img _ _ _
@[simp] theorem setFlag_packA (s : State) (f : Fld) (b : Bool) : (setFlag s f b).packA = s.packA := setFld_packA _ _ _
@[simp] theorem setFlag_packB (s : State) (f : Fld) (b : Bool) : (setFlag s f b).packB = s.packB := setFld_packB _ _ _
@[simp] theorem setFlag_seq (s : State) (f : Fld) (b : Bool) : (setFlag s f b).seq = s.seq := setFld_seq _ _ _
@[simp] theorem setFlag_mgt (s : State) (f : Fld) (b : Bool) : (setFlag s f b).mgt = s.mgt := setFld_mgt _ _ _
@[simp] theorem setFlag_ring (s : State) (f : Fld) (b : Bool) : (setFlag s f b).ring = s.ring := setFld_ring _ _ _
@[simp] theorem setFlag_cen (s : State) (f : Fld) (b : Bool) : (setFlag s f b).cen = s.cen := setFld_cen _ _ _
@[simp] theorem setFlag_flt (s : State) (f : Fld) (b : Bool) : (setFlag s f b).flt = s.flt := setFld_flt _ _ _
@[simp] theorem setFlag_snaps (s : State) (f : Fld) (b : Bool) : (setFlag s f b).snaps = s.snaps := setFld_snaps _ _ _
@[simp] theorem setFlag_out (s : State) (f : Fld) (b : Bool) : (setFlag s f b).out = s.out := setFld_out _ _ _
@[simp] theorem setFlag_draws (s : State) (f : Fld) (b : Bool) : (setFlag s f b).draws = s.draws := setFld_draws _ _ _
@[simp] theorem setFlag_pending (s : State) (f : Fld) (b : Bool) : (setFlag s f b).pending = s.pending := setFld_pending _ _ _

@[simp] theorem setFldAt_vault (s : State) (f : Fld) (i v : Nat) : (setFldAt s f i v).vault = s.vault := setFldIn_vault _ _ _ _ _
@[simp] theorem setFldAt_now (s : State) (f : Fld) (i v : Nat) : (setFldAt s f i v).now = s.now := setFldIn_now _ _ _ _ _
@[simp] theorem setFldAt_pod (s : State) (f : Fld) (i v : Nat) : (setFldAt s f i v).pod = s.pod := setFldIn_pod _ _ _ _ _
@[simp] theorem setFldAt_pins (s : State) (f : Fld) (i v : Nat) : (setFldAt s f i v).pins = s.pins := setFldIn_pins _ _ _ _ _
@[simp] theorem setFldAt_rst (s : State) (f : Fld) (i v : Nat) : (setFldAt s f i v).rst = s.rst := setFldIn_rst _ _ _ _ _
@[simp] theorem setFldAt_adm (s : State) (f : Fld) (i v : Nat) : (setFldAt s f i v).adm = s.adm := setFldIn_adm _ _ _ _ _
@[simp] theorem setFldAt_dram (s : State) (f : Fld) (i v : Nat) : (setFldAt s f i v).dram = s.dram := setFldIn_dram _ _ _ _ _
@[simp] theorem setFldAt_links (s : State) (f : Fld) (i v : Nat) : (setFldAt s f i v).links = s.links := setFldIn_links _ _ _ _ _
@[simp] theorem setFldAt_psg (s : State) (f : Fld) (i v : Nat) : (setFldAt s f i v).psg = s.psg := setFldIn_psg _ _ _ _ _
@[simp] theorem setFldAt_pwr (s : State) (f : Fld) (i v : Nat) : (setFldAt s f i v).pwr = s.pwr := setFldIn_pwr _ _ _ _ _
@[simp] theorem setFldAt_img (s : State) (f : Fld) (i v : Nat) : (setFldAt s f i v).img = s.img := setFldIn_img _ _ _ _ _
@[simp] theorem setFldAt_packA (s : State) (f : Fld) (i v : Nat) : (setFldAt s f i v).packA = s.packA := setFldIn_packA _ _ _ _ _
@[simp] theorem setFldAt_packB (s : State) (f : Fld) (i v : Nat) : (setFldAt s f i v).packB = s.packB := setFldIn_packB _ _ _ _ _
@[simp] theorem setFldAt_seq (s : State) (f : Fld) (i v : Nat) : (setFldAt s f i v).seq = s.seq := setFldIn_seq _ _ _ _ _
@[simp] theorem setFldAt_mgt (s : State) (f : Fld) (i v : Nat) : (setFldAt s f i v).mgt = s.mgt := setFldIn_mgt _ _ _ _ _
@[simp] theorem setFldAt_ring (s : State) (f : Fld) (i v : Nat) : (setFldAt s f i v).ring = s.ring := setFldIn_ring _ _ _ _ _
@[simp] theorem setFldAt_cen (s : State) (f : Fld) (i v : Nat) : (setFldAt s f i v).cen = s.cen := setFldIn_cen _ _ _ _ _
@[simp] theorem setFldAt_flt (s : State) (f : Fld) (i v : Nat) : (setFldAt s f i v).flt = s.flt := setFldIn_flt _ _ _ _ _
@[simp] theorem setFldAt_snaps (s : State) (f : Fld) (i v : Nat) : (setFldAt s f i v).snaps = s.snaps := setFldIn_snaps _ _ _ _ _
@[simp] theorem setFldAt_out (s : State) (f : Fld) (i v : Nat) : (setFldAt s f i v).out = s.out := setFldIn_out _ _ _ _ _
@[simp] theorem setFldAt_draws (s : State) (f : Fld) (i v : Nat) : (setFldAt s f i v).draws = s.draws := setFldIn_draws _ _ _ _ _
@[simp] theorem setFldAt_pending (s : State) (f : Fld) (i v : Nat) : (setFldAt s f i v).pending = s.pending := setFldIn_pending _ _ _ _ _

@[simp] theorem bumpBy_vault (s : State) (f : Fld) (n : Nat) : (bumpBy s f n).vault = s.vault := setFld_vault _ _ _
@[simp] theorem bumpBy_now (s : State) (f : Fld) (n : Nat) : (bumpBy s f n).now = s.now := setFld_now _ _ _
@[simp] theorem bumpBy_pod (s : State) (f : Fld) (n : Nat) : (bumpBy s f n).pod = s.pod := setFld_pod _ _ _
@[simp] theorem bumpBy_pins (s : State) (f : Fld) (n : Nat) : (bumpBy s f n).pins = s.pins := setFld_pins _ _ _
@[simp] theorem bumpBy_rst (s : State) (f : Fld) (n : Nat) : (bumpBy s f n).rst = s.rst := setFld_rst _ _ _
@[simp] theorem bumpBy_adm (s : State) (f : Fld) (n : Nat) : (bumpBy s f n).adm = s.adm := setFld_adm _ _ _
@[simp] theorem bumpBy_dram (s : State) (f : Fld) (n : Nat) : (bumpBy s f n).dram = s.dram := setFld_dram _ _ _
@[simp] theorem bumpBy_links (s : State) (f : Fld) (n : Nat) : (bumpBy s f n).links = s.links := setFld_links _ _ _
@[simp] theorem bumpBy_psg (s : State) (f : Fld) (n : Nat) : (bumpBy s f n).psg = s.psg := setFld_psg _ _ _
@[simp] theorem bumpBy_pwr (s : State) (f : Fld) (n : Nat) : (bumpBy s f n).pwr = s.pwr := setFld_pwr _ _ _
@[simp] theorem bumpBy_img (s : State) (f : Fld) (n : Nat) : (bumpBy s f n).img = s.img := setFld_img _ _ _
@[simp] theorem bumpBy_packA (s : State) (f : Fld) (n : Nat) : (bumpBy s f n).packA = s.packA := setFld_packA _ _ _
@[simp] theorem bumpBy_packB (s : State) (f : Fld) (n : Nat) : (bumpBy s f n).packB = s.packB := setFld_packB _ _ _
@[simp] theorem bumpBy_seq (s : State) (f : Fld) (n : Nat) : (bumpBy s f n).seq = s.seq := setFld_seq _ _ _
@[simp] theorem bumpBy_mgt (s : State) (f : Fld) (n : Nat) : (bumpBy s f n).mgt = s.mgt := setFld_mgt _ _ _
@[simp] theorem bumpBy_ring (s : State) (f : Fld) (n : Nat) : (bumpBy s f n).ring = s.ring := setFld_ring _ _ _
@[simp] theorem bumpBy_cen (s : State) (f : Fld) (n : Nat) : (bumpBy s f n).cen = s.cen := setFld_cen _ _ _
@[simp] theorem bumpBy_flt (s : State) (f : Fld) (n : Nat) : (bumpBy s f n).flt = s.flt := setFld_flt _ _ _
@[simp] theorem bumpBy_snaps (s : State) (f : Fld) (n : Nat) : (bumpBy s f n).snaps = s.snaps := setFld_snaps _ _ _
@[simp] theorem bumpBy_out (s : State) (f : Fld) (n : Nat) : (bumpBy s f n).out = s.out := setFld_out _ _ _
@[simp] theorem bumpBy_draws (s : State) (f : Fld) (n : Nat) : (bumpBy s f n).draws = s.draws := setFld_draws _ _ _
@[simp] theorem bumpBy_pending (s : State) (f : Fld) (n : Nat) : (bumpBy s f n).pending = s.pending := setFld_pending _ _ _

@[simp] theorem bump_vault (s : State) (f : Fld) : (bump s f).vault = s.vault := bumpBy_vault _ _ _
@[simp] theorem bump_now (s : State) (f : Fld) : (bump s f).now = s.now := bumpBy_now _ _ _
@[simp] theorem bump_pod (s : State) (f : Fld) : (bump s f).pod = s.pod := bumpBy_pod _ _ _
@[simp] theorem bump_pins (s : State) (f : Fld) : (bump s f).pins = s.pins := bumpBy_pins _ _ _
@[simp] theorem bump_rst (s : State) (f : Fld) : (bump s f).rst = s.rst := bumpBy_rst _ _ _
@[simp] theorem bump_adm (s : State) (f : Fld) : (bump s f).adm = s.adm := bumpBy_adm _ _ _
@[simp] theorem bump_dram (s : State) (f : Fld) : (bump s f).dram = s.dram := bumpBy_dram _ _ _
@[simp] theorem bump_links (s : State) (f : Fld) : (bump s f).links = s.links := bumpBy_links _ _ _
@[simp] theorem bump_psg (s : State) (f : Fld) : (bump s f).psg = s.psg := bumpBy_psg _ _ _
@[simp] theorem bump_pwr (s : State) (f : Fld) : (bump s f).pwr = s.pwr := bumpBy_pwr _ _ _
@[simp] theorem bump_img (s : State) (f : Fld) : (bump s f).img = s.img := bumpBy_img _ _ _
@[simp] theorem bump_packA (s : State) (f : Fld) : (bump s f).packA = s.packA := bumpBy_packA _ _ _
@[simp] theorem bump_packB (s : State) (f : Fld) : (bump s f).packB = s.packB := bumpBy_packB _ _ _
@[simp] theorem bump_seq (s : State) (f : Fld) : (bump s f).seq = s.seq := bumpBy_seq _ _ _
@[simp] theorem bump_mgt (s : State) (f : Fld) : (bump s f).mgt = s.mgt := bumpBy_mgt _ _ _
@[simp] theorem bump_ring (s : State) (f : Fld) : (bump s f).ring = s.ring := bumpBy_ring _ _ _
@[simp] theorem bump_cen (s : State) (f : Fld) : (bump s f).cen = s.cen := bumpBy_cen _ _ _
@[simp] theorem bump_flt (s : State) (f : Fld) : (bump s f).flt = s.flt := bumpBy_flt _ _ _
@[simp] theorem bump_snaps (s : State) (f : Fld) : (bump s f).snaps = s.snaps := bumpBy_snaps _ _ _
@[simp] theorem bump_out (s : State) (f : Fld) : (bump s f).out = s.out := bumpBy_out _ _ _
@[simp] theorem bump_draws (s : State) (f : Fld) : (bump s f).draws = s.draws := bumpBy_draws _ _ _
@[simp] theorem bump_pending (s : State) (f : Fld) : (bump s f).pending = s.pending := bumpBy_pending _ _ _

@[simp] theorem pendEvent_vault (s : State) (page bit : Nat) : (pendEvent s page bit).vault = s.vault := setFlag_vault _ _ _
@[simp] theorem pendEvent_now (s : State) (page bit : Nat) : (pendEvent s page bit).now = s.now := setFlag_now _ _ _
@[simp] theorem pendEvent_pod (s : State) (page bit : Nat) : (pendEvent s page bit).pod = s.pod := setFlag_pod _ _ _
@[simp] theorem pendEvent_pins (s : State) (page bit : Nat) : (pendEvent s page bit).pins = s.pins := setFlag_pins _ _ _
@[simp] theorem pendEvent_rst (s : State) (page bit : Nat) : (pendEvent s page bit).rst = s.rst := setFlag_rst _ _ _
@[simp] theorem pendEvent_adm (s : State) (page bit : Nat) : (pendEvent s page bit).adm = s.adm := setFlag_adm _ _ _
@[simp] theorem pendEvent_dram (s : State) (page bit : Nat) : (pendEvent s page bit).dram = s.dram := setFlag_dram _ _ _
@[simp] theorem pendEvent_links (s : State) (page bit : Nat) : (pendEvent s page bit).links = s.links := setFlag_links _ _ _
@[simp] theorem pendEvent_psg (s : State) (page bit : Nat) : (pendEvent s page bit).psg = s.psg := setFlag_psg _ _ _
@[simp] theorem pendEvent_pwr (s : State) (page bit : Nat) : (pendEvent s page bit).pwr = s.pwr := setFlag_pwr _ _ _
@[simp] theorem pendEvent_img (s : State) (page bit : Nat) : (pendEvent s page bit).img = s.img := setFlag_img _ _ _
@[simp] theorem pendEvent_packA (s : State) (page bit : Nat) : (pendEvent s page bit).packA = s.packA := setFlag_packA _ _ _
@[simp] theorem pendEvent_packB (s : State) (page bit : Nat) : (pendEvent s page bit).packB = s.packB := setFlag_packB _ _ _
@[simp] theorem pendEvent_seq (s : State) (page bit : Nat) : (pendEvent s page bit).seq = s.seq := setFlag_seq _ _ _
@[simp] theorem pendEvent_mgt (s : State) (page bit : Nat) : (pendEvent s page bit).mgt = s.mgt := setFlag_mgt _ _ _
@[simp] theorem pendEvent_ring (s : State) (page bit : Nat) : (pendEvent s page bit).ring = s.ring := setFlag_ring _ _ _
@[simp] theorem pendEvent_cen (s : State) (page bit : Nat) : (pendEvent s page bit).cen = s.cen := setFlag_cen _ _ _
@[simp] theorem pendEvent_flt (s : State) (page bit : Nat) : (pendEvent s page bit).flt = s.flt := setFlag_flt _ _ _
@[simp] theorem pendEvent_snaps (s : State) (page bit : Nat) : (pendEvent s page bit).snaps = s.snaps := setFlag_snaps _ _ _
@[simp] theorem pendEvent_out (s : State) (page bit : Nat) : (pendEvent s page bit).out = s.out := setFlag_out _ _ _
@[simp] theorem pendEvent_draws (s : State) (page bit : Nat) : (pendEvent s page bit).draws = s.draws := setFlag_draws _ _ _
@[simp] theorem pendEvent_pending (s : State) (page bit : Nat) : (pendEvent s page bit).pending = s.pending := setFlag_pending _ _ _

@[simp] theorem emit_regs (s : State) (o : Out) : (emit s o).regs = s.regs := rfl
@[simp] theorem emit_vault (s : State) (o : Out) : (emit s o).vault = s.vault := rfl
@[simp] theorem emit_now (s : State) (o : Out) : (emit s o).now = s.now := rfl
@[simp] theorem emit_pod (s : State) (o : Out) : (emit s o).pod = s.pod := rfl
@[simp] theorem emit_pins (s : State) (o : Out) : (emit s o).pins = s.pins := rfl
@[simp] theorem emit_rst (s : State) (o : Out) : (emit s o).rst = s.rst := rfl
@[simp] theorem emit_adm (s : State) (o : Out) : (emit s o).adm = s.adm := rfl
@[simp] theorem emit_dram (s : State) (o : Out) : (emit s o).dram = s.dram := rfl
@[simp] theorem emit_links (s : State) (o : Out) : (emit s o).links = s.links := rfl
@[simp] theorem emit_psg (s : State) (o : Out) : (emit s o).psg = s.psg := rfl
@[simp] theorem emit_pwr (s : State) (o : Out) : (emit s o).pwr = s.pwr := rfl
@[simp] theorem emit_img (s : State) (o : Out) : (emit s o).img = s.img := rfl
@[simp] theorem emit_packA (s : State) (o : Out) : (emit s o).packA = s.packA := rfl
@[simp] theorem emit_packB (s : State) (o : Out) : (emit s o).packB = s.packB := rfl
@[simp] theorem emit_seq (s : State) (o : Out) : (emit s o).seq = s.seq := rfl
@[simp] theorem emit_mgt (s : State) (o : Out) : (emit s o).mgt = s.mgt := rfl
@[simp] theorem emit_ring (s : State) (o : Out) : (emit s o).ring = s.ring := rfl
@[simp] theorem emit_cen (s : State) (o : Out) : (emit s o).cen = s.cen := rfl
@[simp] theorem emit_flt (s : State) (o : Out) : (emit s o).flt = s.flt := rfl
@[simp] theorem emit_snaps (s : State) (o : Out) : (emit s o).snaps = s.snaps := rfl
@[simp] theorem emit_draws (s : State) (o : Out) : (emit s o).draws = s.draws := rfl
@[simp] theorem emit_pending (s : State) (o : Out) : (emit s o).pending = s.pending := rfl

@[simp] theorem writeLine_regs (s : State) (l : Nat) (d : Line) : (writeLine s l d).regs = s.regs := rfl
@[simp] theorem writeLine_vault (s : State) (l : Nat) (d : Line) : (writeLine s l d).vault = s.vault := rfl
@[simp] theorem writeLine_now (s : State) (l : Nat) (d : Line) : (writeLine s l d).now = s.now := rfl
@[simp] theorem writeLine_pod (s : State) (l : Nat) (d : Line) : (writeLine s l d).pod = s.pod := rfl
@[simp] theorem writeLine_pins (s : State) (l : Nat) (d : Line) : (writeLine s l d).pins = s.pins := rfl
@[simp] theorem writeLine_rst (s : State) (l : Nat) (d : Line) : (writeLine s l d).rst = s.rst := rfl
@[simp] theorem writeLine_adm (s : State) (l : Nat) (d : Line) : (writeLine s l d).adm = s.adm := rfl
@[simp] theorem writeLine_links (s : State) (l : Nat) (d : Line) : (writeLine s l d).links = s.links := rfl
@[simp] theorem writeLine_psg (s : State) (l : Nat) (d : Line) : (writeLine s l d).psg = s.psg := rfl
@[simp] theorem writeLine_pwr (s : State) (l : Nat) (d : Line) : (writeLine s l d).pwr = s.pwr := rfl
@[simp] theorem writeLine_img (s : State) (l : Nat) (d : Line) : (writeLine s l d).img = s.img := rfl
@[simp] theorem writeLine_packA (s : State) (l : Nat) (d : Line) : (writeLine s l d).packA = s.packA := rfl
@[simp] theorem writeLine_packB (s : State) (l : Nat) (d : Line) : (writeLine s l d).packB = s.packB := rfl
@[simp] theorem writeLine_seq (s : State) (l : Nat) (d : Line) : (writeLine s l d).seq = s.seq := rfl
@[simp] theorem writeLine_mgt (s : State) (l : Nat) (d : Line) : (writeLine s l d).mgt = s.mgt := rfl
@[simp] theorem writeLine_ring (s : State) (l : Nat) (d : Line) : (writeLine s l d).ring = s.ring := rfl
@[simp] theorem writeLine_cen (s : State) (l : Nat) (d : Line) : (writeLine s l d).cen = s.cen := rfl
@[simp] theorem writeLine_flt (s : State) (l : Nat) (d : Line) : (writeLine s l d).flt = s.flt := rfl
@[simp] theorem writeLine_snaps (s : State) (l : Nat) (d : Line) : (writeLine s l d).snaps = s.snaps := rfl
@[simp] theorem writeLine_out (s : State) (l : Nat) (d : Line) : (writeLine s l d).out = s.out := rfl
@[simp] theorem writeLine_draws (s : State) (l : Nat) (d : Line) : (writeLine s l d).draws = s.draws := rfl
@[simp] theorem writeLine_pending (s : State) (l : Nat) (d : Line) : (writeLine s l d).pending = s.pending := rfl

@[simp] theorem setPoison_regs (s : State) (l : Nat) : (setPoison s l).regs = s.regs := rfl
@[simp] theorem setPoison_vault (s : State) (l : Nat) : (setPoison s l).vault = s.vault := rfl
@[simp] theorem setPoison_now (s : State) (l : Nat) : (setPoison s l).now = s.now := rfl
@[simp] theorem setPoison_pod (s : State) (l : Nat) : (setPoison s l).pod = s.pod := rfl
@[simp] theorem setPoison_pins (s : State) (l : Nat) : (setPoison s l).pins = s.pins := rfl
@[simp] theorem setPoison_rst (s : State) (l : Nat) : (setPoison s l).rst = s.rst := rfl
@[simp] theorem setPoison_adm (s : State) (l : Nat) : (setPoison s l).adm = s.adm := rfl
@[simp] theorem setPoison_links (s : State) (l : Nat) : (setPoison s l).links = s.links := rfl
@[simp] theorem setPoison_psg (s : State) (l : Nat) : (setPoison s l).psg = s.psg := rfl
@[simp] theorem setPoison_pwr (s : State) (l : Nat) : (setPoison s l).pwr = s.pwr := rfl
@[simp] theorem setPoison_img (s : State) (l : Nat) : (setPoison s l).img = s.img := rfl
@[simp] theorem setPoison_packA (s : State) (l : Nat) : (setPoison s l).packA = s.packA := rfl
@[simp] theorem setPoison_packB (s : State) (l : Nat) : (setPoison s l).packB = s.packB := rfl
@[simp] theorem setPoison_seq (s : State) (l : Nat) : (setPoison s l).seq = s.seq := rfl
@[simp] theorem setPoison_mgt (s : State) (l : Nat) : (setPoison s l).mgt = s.mgt := rfl
@[simp] theorem setPoison_ring (s : State) (l : Nat) : (setPoison s l).ring = s.ring := rfl
@[simp] theorem setPoison_cen (s : State) (l : Nat) : (setPoison s l).cen = s.cen := rfl
@[simp] theorem setPoison_flt (s : State) (l : Nat) : (setPoison s l).flt = s.flt := rfl
@[simp] theorem setPoison_snaps (s : State) (l : Nat) : (setPoison s l).snaps = s.snaps := rfl
@[simp] theorem setPoison_out (s : State) (l : Nat) : (setPoison s l).out = s.out := rfl
@[simp] theorem setPoison_draws (s : State) (l : Nat) : (setPoison s l).draws = s.draws := rfl
@[simp] theorem setPoison_pending (s : State) (l : Nat) : (setPoison s l).pending = s.pending := rfl

@[simp] theorem clearPoison_regs (s : State) (l : Nat) : (clearPoison s l).regs = s.regs := rfl
@[simp] theorem clearPoison_vault (s : State) (l : Nat) : (clearPoison s l).vault = s.vault := rfl
@[simp] theorem clearPoison_now (s : State) (l : Nat) : (clearPoison s l).now = s.now := rfl
@[simp] theorem clearPoison_pod (s : State) (l : Nat) : (clearPoison s l).pod = s.pod := rfl
@[simp] theorem clearPoison_pins (s : State) (l : Nat) : (clearPoison s l).pins = s.pins := rfl
@[simp] theorem clearPoison_rst (s : State) (l : Nat) : (clearPoison s l).rst = s.rst := rfl
@[simp] theorem clearPoison_adm (s : State) (l : Nat) : (clearPoison s l).adm = s.adm := rfl
@[simp] theorem clearPoison_links (s : State) (l : Nat) : (clearPoison s l).links = s.links := rfl
@[simp] theorem clearPoison_psg (s : State) (l : Nat) : (clearPoison s l).psg = s.psg := rfl
@[simp] theorem clearPoison_pwr (s : State) (l : Nat) : (clearPoison s l).pwr = s.pwr := rfl
@[simp] theorem clearPoison_img (s : State) (l : Nat) : (clearPoison s l).img = s.img := rfl
@[simp] theorem clearPoison_packA (s : State) (l : Nat) : (clearPoison s l).packA = s.packA := rfl
@[simp] theorem clearPoison_packB (s : State) (l : Nat) : (clearPoison s l).packB = s.packB := rfl
@[simp] theorem clearPoison_seq (s : State) (l : Nat) : (clearPoison s l).seq = s.seq := rfl
@[simp] theorem clearPoison_mgt (s : State) (l : Nat) : (clearPoison s l).mgt = s.mgt := rfl
@[simp] theorem clearPoison_ring (s : State) (l : Nat) : (clearPoison s l).ring = s.ring := rfl
@[simp] theorem clearPoison_cen (s : State) (l : Nat) : (clearPoison s l).cen = s.cen := rfl
@[simp] theorem clearPoison_flt (s : State) (l : Nat) : (clearPoison s l).flt = s.flt := rfl
@[simp] theorem clearPoison_snaps (s : State) (l : Nat) : (clearPoison s l).snaps = s.snaps := rfl
@[simp] theorem clearPoison_out (s : State) (l : Nat) : (clearPoison s l).out = s.out := rfl
@[simp] theorem clearPoison_draws (s : State) (l : Nat) : (clearPoison s l).draws = s.draws := rfl
@[simp] theorem clearPoison_pending (s : State) (l : Nat) : (clearPoison s l).pending = s.pending := rfl

@[simp] theorem setDirty_regs (s : State) (u : Nat) (v : Bool) : (setDirty s u v).regs = s.regs := rfl
@[simp] theorem setDirty_vault (s : State) (u : Nat) (v : Bool) : (setDirty s u v).vault = s.vault := rfl
@[simp] theorem setDirty_now (s : State) (u : Nat) (v : Bool) : (setDirty s u v).now = s.now := rfl
@[simp] theorem setDirty_pod (s : State) (u : Nat) (v : Bool) : (setDirty s u v).pod = s.pod := rfl
@[simp] theorem setDirty_pins (s : State) (u : Nat) (v : Bool) : (setDirty s u v).pins = s.pins := rfl
@[simp] theorem setDirty_rst (s : State) (u : Nat) (v : Bool) : (setDirty s u v).rst = s.rst := rfl
@[simp] theorem setDirty_adm (s : State) (u : Nat) (v : Bool) : (setDirty s u v).adm = s.adm := rfl
@[simp] theorem setDirty_links (s : State) (u : Nat) (v : Bool) : (setDirty s u v).links = s.links := rfl
@[simp] theorem setDirty_psg (s : State) (u : Nat) (v : Bool) : (setDirty s u v).psg = s.psg := rfl
@[simp] theorem setDirty_pwr (s : State) (u : Nat) (v : Bool) : (setDirty s u v).pwr = s.pwr := rfl
@[simp] theorem setDirty_img (s : State) (u : Nat) (v : Bool) : (setDirty s u v).img = s.img := rfl
@[simp] theorem setDirty_packA (s : State) (u : Nat) (v : Bool) : (setDirty s u v).packA = s.packA := rfl
@[simp] theorem setDirty_packB (s : State) (u : Nat) (v : Bool) : (setDirty s u v).packB = s.packB := rfl
@[simp] theorem setDirty_mgt (s : State) (u : Nat) (v : Bool) : (setDirty s u v).mgt = s.mgt := rfl
@[simp] theorem setDirty_ring (s : State) (u : Nat) (v : Bool) : (setDirty s u v).ring = s.ring := rfl
@[simp] theorem setDirty_cen (s : State) (u : Nat) (v : Bool) : (setDirty s u v).cen = s.cen := rfl
@[simp] theorem setDirty_flt (s : State) (u : Nat) (v : Bool) : (setDirty s u v).flt = s.flt := rfl
@[simp] theorem setDirty_snaps (s : State) (u : Nat) (v : Bool) : (setDirty s u v).snaps = s.snaps := rfl
@[simp] theorem setDirty_out (s : State) (u : Nat) (v : Bool) : (setDirty s u v).out = s.out := rfl
@[simp] theorem setDirty_draws (s : State) (u : Nat) (v : Bool) : (setDirty s u v).draws = s.draws := rfl
@[simp] theorem setDirty_pending (s : State) (u : Nat) (v : Bool) : (setDirty s u v).pending = s.pending := rfl

@[simp] theorem setRestored_regs (s : State) (u : Nat) (v : Bool) : (setRestored s u v).regs = s.regs := rfl
@[simp] theorem setRestored_vault (s : State) (u : Nat) (v : Bool) : (setRestored s u v).vault = s.vault := rfl
@[simp] theorem setRestored_now (s : State) (u : Nat) (v : Bool) : (setRestored s u v).now = s.now := rfl
@[simp] theorem setRestored_pod (s : State) (u : Nat) (v : Bool) : (setRestored s u v).pod = s.pod := rfl
@[simp] theorem setRestored_pins (s : State) (u : Nat) (v : Bool) : (setRestored s u v).pins = s.pins := rfl
@[simp] theorem setRestored_rst (s : State) (u : Nat) (v : Bool) : (setRestored s u v).rst = s.rst := rfl
@[simp] theorem setRestored_adm (s : State) (u : Nat) (v : Bool) : (setRestored s u v).adm = s.adm := rfl
@[simp] theorem setRestored_links (s : State) (u : Nat) (v : Bool) : (setRestored s u v).links = s.links := rfl
@[simp] theorem setRestored_psg (s : State) (u : Nat) (v : Bool) : (setRestored s u v).psg = s.psg := rfl
@[simp] theorem setRestored_pwr (s : State) (u : Nat) (v : Bool) : (setRestored s u v).pwr = s.pwr := rfl
@[simp] theorem setRestored_img (s : State) (u : Nat) (v : Bool) : (setRestored s u v).img = s.img := rfl
@[simp] theorem setRestored_packA (s : State) (u : Nat) (v : Bool) : (setRestored s u v).packA = s.packA := rfl
@[simp] theorem setRestored_packB (s : State) (u : Nat) (v : Bool) : (setRestored s u v).packB = s.packB := rfl
@[simp] theorem setRestored_seq (s : State) (u : Nat) (v : Bool) : (setRestored s u v).seq = s.seq := rfl
@[simp] theorem setRestored_mgt (s : State) (u : Nat) (v : Bool) : (setRestored s u v).mgt = s.mgt := rfl
@[simp] theorem setRestored_ring (s : State) (u : Nat) (v : Bool) : (setRestored s u v).ring = s.ring := rfl
@[simp] theorem setRestored_cen (s : State) (u : Nat) (v : Bool) : (setRestored s u v).cen = s.cen := rfl
@[simp] theorem setRestored_flt (s : State) (u : Nat) (v : Bool) : (setRestored s u v).flt = s.flt := rfl
@[simp] theorem setRestored_snaps (s : State) (u : Nat) (v : Bool) : (setRestored s u v).snaps = s.snaps := rfl
@[simp] theorem setRestored_out (s : State) (u : Nat) (v : Bool) : (setRestored s u v).out = s.out := rfl
@[simp] theorem setRestored_draws (s : State) (u : Nat) (v : Bool) : (setRestored s u v).draws = s.draws := rfl
@[simp] theorem setRestored_pending (s : State) (u : Nat) (v : Bool) : (setRestored s u v).pending = s.pending := rfl

@[simp] theorem setDiverged_regs (s : State) (u : Nat) (v : Bool) : (setDiverged s u v).regs = s.regs := rfl
@[simp] theorem setDiverged_vault (s : State) (u : Nat) (v : Bool) : (setDiverged s u v).vault = s.vault := rfl
@[simp] theorem setDiverged_now (s : State) (u : Nat) (v : Bool) : (setDiverged s u v).now = s.now := rfl
@[simp] theorem setDiverged_pod (s : State) (u : Nat) (v : Bool) : (setDiverged s u v).pod = s.pod := rfl
@[simp] theorem setDiverged_pins (s : State) (u : Nat) (v : Bool) : (setDiverged s u v).pins = s.pins := rfl
@[simp] theorem setDiverged_rst (s : State) (u : Nat) (v : Bool) : (setDiverged s u v).rst = s.rst := rfl
@[simp] theorem setDiverged_adm (s : State) (u : Nat) (v : Bool) : (setDiverged s u v).adm = s.adm := rfl
@[simp] theorem setDiverged_links (s : State) (u : Nat) (v : Bool) : (setDiverged s u v).links = s.links := rfl
@[simp] theorem setDiverged_psg (s : State) (u : Nat) (v : Bool) : (setDiverged s u v).psg = s.psg := rfl
@[simp] theorem setDiverged_pwr (s : State) (u : Nat) (v : Bool) : (setDiverged s u v).pwr = s.pwr := rfl
@[simp] theorem setDiverged_img (s : State) (u : Nat) (v : Bool) : (setDiverged s u v).img = s.img := rfl
@[simp] theorem setDiverged_packA (s : State) (u : Nat) (v : Bool) : (setDiverged s u v).packA = s.packA := rfl
@[simp] theorem setDiverged_packB (s : State) (u : Nat) (v : Bool) : (setDiverged s u v).packB = s.packB := rfl
@[simp] theorem setDiverged_seq (s : State) (u : Nat) (v : Bool) : (setDiverged s u v).seq = s.seq := rfl
@[simp] theorem setDiverged_mgt (s : State) (u : Nat) (v : Bool) : (setDiverged s u v).mgt = s.mgt := rfl
@[simp] theorem setDiverged_ring (s : State) (u : Nat) (v : Bool) : (setDiverged s u v).ring = s.ring := rfl
@[simp] theorem setDiverged_cen (s : State) (u : Nat) (v : Bool) : (setDiverged s u v).cen = s.cen := rfl
@[simp] theorem setDiverged_flt (s : State) (u : Nat) (v : Bool) : (setDiverged s u v).flt = s.flt := rfl
@[simp] theorem setDiverged_snaps (s : State) (u : Nat) (v : Bool) : (setDiverged s u v).snaps = s.snaps := rfl
@[simp] theorem setDiverged_out (s : State) (u : Nat) (v : Bool) : (setDiverged s u v).out = s.out := rfl
@[simp] theorem setDiverged_draws (s : State) (u : Nat) (v : Bool) : (setDiverged s u v).draws = s.draws := rfl
@[simp] theorem setDiverged_pending (s : State) (u : Nat) (v : Bool) : (setDiverged s u v).pending = s.pending := rfl

@[simp] theorem setCtx_regs (s : State) (c : Fin 4) (x : CtxSt) : (setCtx s c x).regs = s.regs := by
  unfold setCtx
  split <;> rfl
@[simp] theorem setCtx_vault (s : State) (c : Fin 4) (x : CtxSt) : (setCtx s c x).vault = s.vault := by
  unfold setCtx
  split <;> rfl
@[simp] theorem setCtx_now (s : State) (c : Fin 4) (x : CtxSt) : (setCtx s c x).now = s.now := by
  unfold setCtx
  split <;> rfl
@[simp] theorem setCtx_pod (s : State) (c : Fin 4) (x : CtxSt) : (setCtx s c x).pod = s.pod := by
  unfold setCtx
  split <;> rfl
@[simp] theorem setCtx_pins (s : State) (c : Fin 4) (x : CtxSt) : (setCtx s c x).pins = s.pins := by
  unfold setCtx
  split <;> rfl
@[simp] theorem setCtx_rst (s : State) (c : Fin 4) (x : CtxSt) : (setCtx s c x).rst = s.rst := by
  unfold setCtx
  split <;> rfl
@[simp] theorem setCtx_adm (s : State) (c : Fin 4) (x : CtxSt) : (setCtx s c x).adm = s.adm := by
  unfold setCtx
  split <;> rfl
@[simp] theorem setCtx_dram (s : State) (c : Fin 4) (x : CtxSt) : (setCtx s c x).dram = s.dram := by
  unfold setCtx
  split <;> rfl
@[simp] theorem setCtx_links (s : State) (c : Fin 4) (x : CtxSt) : (setCtx s c x).links = s.links := by
  unfold setCtx
  split <;> rfl
@[simp] theorem setCtx_psg (s : State) (c : Fin 4) (x : CtxSt) : (setCtx s c x).psg = s.psg := by
  unfold setCtx
  split <;> rfl
@[simp] theorem setCtx_pwr (s : State) (c : Fin 4) (x : CtxSt) : (setCtx s c x).pwr = s.pwr := by
  unfold setCtx
  split <;> rfl
@[simp] theorem setCtx_img (s : State) (c : Fin 4) (x : CtxSt) : (setCtx s c x).img = s.img := by
  unfold setCtx
  split <;> rfl
@[simp] theorem setCtx_packA (s : State) (c : Fin 4) (x : CtxSt) : (setCtx s c x).packA = s.packA := by
  unfold setCtx
  split <;> rfl
@[simp] theorem setCtx_packB (s : State) (c : Fin 4) (x : CtxSt) : (setCtx s c x).packB = s.packB := by
  unfold setCtx
  split <;> rfl
@[simp] theorem setCtx_mgt (s : State) (c : Fin 4) (x : CtxSt) : (setCtx s c x).mgt = s.mgt := by
  unfold setCtx
  split <;> rfl
@[simp] theorem setCtx_ring (s : State) (c : Fin 4) (x : CtxSt) : (setCtx s c x).ring = s.ring := by
  unfold setCtx
  split <;> rfl
@[simp] theorem setCtx_cen (s : State) (c : Fin 4) (x : CtxSt) : (setCtx s c x).cen = s.cen := by
  unfold setCtx
  split <;> rfl
@[simp] theorem setCtx_flt (s : State) (c : Fin 4) (x : CtxSt) : (setCtx s c x).flt = s.flt := by
  unfold setCtx
  split <;> rfl
@[simp] theorem setCtx_snaps (s : State) (c : Fin 4) (x : CtxSt) : (setCtx s c x).snaps = s.snaps := by
  unfold setCtx
  split <;> rfl
@[simp] theorem setCtx_out (s : State) (c : Fin 4) (x : CtxSt) : (setCtx s c x).out = s.out := by
  unfold setCtx
  split <;> rfl
@[simp] theorem setCtx_draws (s : State) (c : Fin 4) (x : CtxSt) : (setCtx s c x).draws = s.draws := by
  unfold setCtx
  split <;> rfl
@[simp] theorem setCtx_pending (s : State) (c : Fin 4) (x : CtxSt) : (setCtx s c x).pending = s.pending := by
  unfold setCtx
  split <;> rfl

@[simp] theorem raiseEvent_regs (s : State) (c : Fin 4) (e : Nat) : (raiseEvent s c e).regs = s.regs := setCtx_regs _ _ _
@[simp] theorem raiseEvent_vault (s : State) (c : Fin 4) (e : Nat) : (raiseEvent s c e).vault = s.vault := setCtx_vault _ _ _
@[simp] theorem raiseEvent_now (s : State) (c : Fin 4) (e : Nat) : (raiseEvent s c e).now = s.now := setCtx_now _ _ _
@[simp] theorem raiseEvent_pod (s : State) (c : Fin 4) (e : Nat) : (raiseEvent s c e).pod = s.pod := setCtx_pod _ _ _
@[simp] theorem raiseEvent_pins (s : State) (c : Fin 4) (e : Nat) : (raiseEvent s c e).pins = s.pins := setCtx_pins _ _ _
@[simp] theorem raiseEvent_rst (s : State) (c : Fin 4) (e : Nat) : (raiseEvent s c e).rst = s.rst := setCtx_rst _ _ _
@[simp] theorem raiseEvent_adm (s : State) (c : Fin 4) (e : Nat) : (raiseEvent s c e).adm = s.adm := setCtx_adm _ _ _
@[simp] theorem raiseEvent_dram (s : State) (c : Fin 4) (e : Nat) : (raiseEvent s c e).dram = s.dram := setCtx_dram _ _ _
@[simp] theorem raiseEvent_links (s : State) (c : Fin 4) (e : Nat) : (raiseEvent s c e).links = s.links := setCtx_links _ _ _
@[simp] theorem raiseEvent_psg (s : State) (c : Fin 4) (e : Nat) : (raiseEvent s c e).psg = s.psg := setCtx_psg _ _ _
@[simp] theorem raiseEvent_pwr (s : State) (c : Fin 4) (e : Nat) : (raiseEvent s c e).pwr = s.pwr := setCtx_pwr _ _ _
@[simp] theorem raiseEvent_img (s : State) (c : Fin 4) (e : Nat) : (raiseEvent s c e).img = s.img := setCtx_img _ _ _
@[simp] theorem raiseEvent_packA (s : State) (c : Fin 4) (e : Nat) : (raiseEvent s c e).packA = s.packA := setCtx_packA _ _ _
@[simp] theorem raiseEvent_packB (s : State) (c : Fin 4) (e : Nat) : (raiseEvent s c e).packB = s.packB := setCtx_packB _ _ _
@[simp] theorem raiseEvent_mgt (s : State) (c : Fin 4) (e : Nat) : (raiseEvent s c e).mgt = s.mgt := setCtx_mgt _ _ _
@[simp] theorem raiseEvent_ring (s : State) (c : Fin 4) (e : Nat) : (raiseEvent s c e).ring = s.ring := setCtx_ring _ _ _
@[simp] theorem raiseEvent_cen (s : State) (c : Fin 4) (e : Nat) : (raiseEvent s c e).cen = s.cen := setCtx_cen _ _ _
@[simp] theorem raiseEvent_flt (s : State) (c : Fin 4) (e : Nat) : (raiseEvent s c e).flt = s.flt := setCtx_flt _ _ _
@[simp] theorem raiseEvent_snaps (s : State) (c : Fin 4) (e : Nat) : (raiseEvent s c e).snaps = s.snaps := setCtx_snaps _ _ _
@[simp] theorem raiseEvent_out (s : State) (c : Fin 4) (e : Nat) : (raiseEvent s c e).out = s.out := setCtx_out _ _ _
@[simp] theorem raiseEvent_draws (s : State) (c : Fin 4) (e : Nat) : (raiseEvent s c e).draws = s.draws := setCtx_draws _ _ _
@[simp] theorem raiseEvent_pending (s : State) (c : Fin 4) (e : Nat) : (raiseEvent s c e).pending = s.pending := setCtx_pending _ _ _

@[simp] theorem requestRoutine_regs (s : State) (c : Fin 4) (v : Nat) : (requestRoutine s c v).regs = s.regs := setCtx_regs _ _ _
@[simp] theorem requestRoutine_vault (s : State) (c : Fin 4) (v : Nat) : (requestRoutine s c v).vault = s.vault := setCtx_vault _ _ _
@[simp] theorem requestRoutine_now (s : State) (c : Fin 4) (v : Nat) : (requestRoutine s c v).now = s.now := setCtx_now _ _ _
@[simp] theorem requestRoutine_pod (s : State) (c : Fin 4) (v : Nat) : (requestRoutine s c v).pod = s.pod := setCtx_pod _ _ _
@[simp] theorem requestRoutine_pins (s : State) (c : Fin 4) (v : Nat) : (requestRoutine s c v).pins = s.pins := setCtx_pins _ _ _
@[simp] theorem requestRoutine_rst (s : State) (c : Fin 4) (v : Nat) : (requestRoutine s c v).rst = s.rst := setCtx_rst _ _ _
@[simp] theorem requestRoutine_adm (s : State) (c : Fin 4) (v : Nat) : (requestRoutine s c v).adm = s.adm := setCtx_adm _ _ _
@[simp] theorem requestRoutine_dram (s : State) (c : Fin 4) (v : Nat) : (requestRoutine s c v).dram = s.dram := setCtx_dram _ _ _
@[simp] theorem requestRoutine_links (s : State) (c : Fin 4) (v : Nat) : (requestRoutine s c v).links = s.links := setCtx_links _ _ _
@[simp] theorem requestRoutine_psg (s : State) (c : Fin 4) (v : Nat) : (requestRoutine s c v).psg = s.psg := setCtx_psg _ _ _
@[simp] theorem requestRoutine_pwr (s : State) (c : Fin 4) (v : Nat) : (requestRoutine s c v).pwr = s.pwr := setCtx_pwr _ _ _
@[simp] theorem requestRoutine_img (s : State) (c : Fin 4) (v : Nat) : (requestRoutine s c v).img = s.img := setCtx_img _ _ _
@[simp] theorem requestRoutine_packA (s : State) (c : Fin 4) (v : Nat) : (requestRoutine s c v).packA = s.packA := setCtx_packA _ _ _
@[simp] theorem requestRoutine_packB (s : State) (c : Fin 4) (v : Nat) : (requestRoutine s c v).packB = s.packB := setCtx_packB _ _ _
@[simp] theorem requestRoutine_mgt (s : State) (c : Fin 4) (v : Nat) : (requestRoutine s c v).mgt = s.mgt := setCtx_mgt _ _ _
@[simp] theorem requestRoutine_ring (s : State) (c : Fin 4) (v : Nat) : (requestRoutine s c v).ring = s.ring := setCtx_ring _ _ _
@[simp] theorem requestRoutine_cen (s : State) (c : Fin 4) (v : Nat) : (requestRoutine s c v).cen = s.cen := setCtx_cen _ _ _
@[simp] theorem requestRoutine_flt (s : State) (c : Fin 4) (v : Nat) : (requestRoutine s c v).flt = s.flt := setCtx_flt _ _ _
@[simp] theorem requestRoutine_snaps (s : State) (c : Fin 4) (v : Nat) : (requestRoutine s c v).snaps = s.snaps := setCtx_snaps _ _ _
@[simp] theorem requestRoutine_out (s : State) (c : Fin 4) (v : Nat) : (requestRoutine s c v).out = s.out := setCtx_out _ _ _
@[simp] theorem requestRoutine_draws (s : State) (c : Fin 4) (v : Nat) : (requestRoutine s c v).draws = s.draws := setCtx_draws _ _ _
@[simp] theorem requestRoutine_pending (s : State) (c : Fin 4) (v : Nat) : (requestRoutine s c v).pending = s.pending := setCtx_pending _ _ _

@[simp] theorem setPack_regs (s : State) (p : PackId) (x : PackSt) : (setPack s p x).regs = s.regs := by
  cases p <;> rfl
@[simp] theorem setPack_vault (s : State) (p : PackId) (x : PackSt) : (setPack s p x).vault = s.vault := by
  cases p <;> rfl
@[simp] theorem setPack_now (s : State) (p : PackId) (x : PackSt) : (setPack s p x).now = s.now := by
  cases p <;> rfl
@[simp] theorem setPack_pod (s : State) (p : PackId) (x : PackSt) : (setPack s p x).pod = s.pod := by
  cases p <;> rfl
@[simp] theorem setPack_pins (s : State) (p : PackId) (x : PackSt) : (setPack s p x).pins = s.pins := by
  cases p <;> rfl
@[simp] theorem setPack_rst (s : State) (p : PackId) (x : PackSt) : (setPack s p x).rst = s.rst := by
  cases p <;> rfl
@[simp] theorem setPack_adm (s : State) (p : PackId) (x : PackSt) : (setPack s p x).adm = s.adm := by
  cases p <;> rfl
@[simp] theorem setPack_dram (s : State) (p : PackId) (x : PackSt) : (setPack s p x).dram = s.dram := by
  cases p <;> rfl
@[simp] theorem setPack_links (s : State) (p : PackId) (x : PackSt) : (setPack s p x).links = s.links := by
  cases p <;> rfl
@[simp] theorem setPack_psg (s : State) (p : PackId) (x : PackSt) : (setPack s p x).psg = s.psg := by
  cases p <;> rfl
@[simp] theorem setPack_pwr (s : State) (p : PackId) (x : PackSt) : (setPack s p x).pwr = s.pwr := by
  cases p <;> rfl
@[simp] theorem setPack_img (s : State) (p : PackId) (x : PackSt) : (setPack s p x).img = s.img := by
  cases p <;> rfl
@[simp] theorem setPack_seq (s : State) (p : PackId) (x : PackSt) : (setPack s p x).seq = s.seq := by
  cases p <;> rfl
@[simp] theorem setPack_mgt (s : State) (p : PackId) (x : PackSt) : (setPack s p x).mgt = s.mgt := by
  cases p <;> rfl
@[simp] theorem setPack_ring (s : State) (p : PackId) (x : PackSt) : (setPack s p x).ring = s.ring := by
  cases p <;> rfl
@[simp] theorem setPack_cen (s : State) (p : PackId) (x : PackSt) : (setPack s p x).cen = s.cen := by
  cases p <;> rfl
@[simp] theorem setPack_flt (s : State) (p : PackId) (x : PackSt) : (setPack s p x).flt = s.flt := by
  cases p <;> rfl
@[simp] theorem setPack_snaps (s : State) (p : PackId) (x : PackSt) : (setPack s p x).snaps = s.snaps := by
  cases p <;> rfl
@[simp] theorem setPack_out (s : State) (p : PackId) (x : PackSt) : (setPack s p x).out = s.out := by
  cases p <;> rfl
@[simp] theorem setPack_draws (s : State) (p : PackId) (x : PackSt) : (setPack s p x).draws = s.draws := by
  cases p <;> rfl
@[simp] theorem setPack_pending (s : State) (p : PackId) (x : PackSt) : (setPack s p x).pending = s.pending := by
  cases p <;> rfl

@[simp] theorem setPortSt_regs (s : State) (p : RingPort) (x : PortSt) : (setPortSt s p x).regs = s.regs := by
  cases p <;> rfl
@[simp] theorem setPortSt_vault (s : State) (p : RingPort) (x : PortSt) : (setPortSt s p x).vault = s.vault := by
  cases p <;> rfl
@[simp] theorem setPortSt_now (s : State) (p : RingPort) (x : PortSt) : (setPortSt s p x).now = s.now := by
  cases p <;> rfl
@[simp] theorem setPortSt_pod (s : State) (p : RingPort) (x : PortSt) : (setPortSt s p x).pod = s.pod := by
  cases p <;> rfl
@[simp] theorem setPortSt_pins (s : State) (p : RingPort) (x : PortSt) : (setPortSt s p x).pins = s.pins := by
  cases p <;> rfl
@[simp] theorem setPortSt_rst (s : State) (p : RingPort) (x : PortSt) : (setPortSt s p x).rst = s.rst := by
  cases p <;> rfl
@[simp] theorem setPortSt_adm (s : State) (p : RingPort) (x : PortSt) : (setPortSt s p x).adm = s.adm := by
  cases p <;> rfl
@[simp] theorem setPortSt_dram (s : State) (p : RingPort) (x : PortSt) : (setPortSt s p x).dram = s.dram := by
  cases p <;> rfl
@[simp] theorem setPortSt_links (s : State) (p : RingPort) (x : PortSt) : (setPortSt s p x).links = s.links := by
  cases p <;> rfl
@[simp] theorem setPortSt_psg (s : State) (p : RingPort) (x : PortSt) : (setPortSt s p x).psg = s.psg := by
  cases p <;> rfl
@[simp] theorem setPortSt_pwr (s : State) (p : RingPort) (x : PortSt) : (setPortSt s p x).pwr = s.pwr := by
  cases p <;> rfl
@[simp] theorem setPortSt_img (s : State) (p : RingPort) (x : PortSt) : (setPortSt s p x).img = s.img := by
  cases p <;> rfl
@[simp] theorem setPortSt_packA (s : State) (p : RingPort) (x : PortSt) : (setPortSt s p x).packA = s.packA := by
  cases p <;> rfl
@[simp] theorem setPortSt_packB (s : State) (p : RingPort) (x : PortSt) : (setPortSt s p x).packB = s.packB := by
  cases p <;> rfl
@[simp] theorem setPortSt_seq (s : State) (p : RingPort) (x : PortSt) : (setPortSt s p x).seq = s.seq := by
  cases p <;> rfl
@[simp] theorem setPortSt_mgt (s : State) (p : RingPort) (x : PortSt) : (setPortSt s p x).mgt = s.mgt := by
  cases p <;> rfl
@[simp] theorem setPortSt_cen (s : State) (p : RingPort) (x : PortSt) : (setPortSt s p x).cen = s.cen := by
  cases p <;> rfl
@[simp] theorem setPortSt_flt (s : State) (p : RingPort) (x : PortSt) : (setPortSt s p x).flt = s.flt := by
  cases p <;> rfl
@[simp] theorem setPortSt_snaps (s : State) (p : RingPort) (x : PortSt) : (setPortSt s p x).snaps = s.snaps := by
  cases p <;> rfl
@[simp] theorem setPortSt_out (s : State) (p : RingPort) (x : PortSt) : (setPortSt s p x).out = s.out := by
  cases p <;> rfl
@[simp] theorem setPortSt_draws (s : State) (p : RingPort) (x : PortSt) : (setPortSt s p x).draws = s.draws := by
  cases p <;> rfl
@[simp] theorem setPortSt_pending (s : State) (p : RingPort) (x : PortSt) : (setPortSt s p x).pending = s.pending := by
  cases p <;> rfl

@[simp] theorem setLearnPin_regs (s : State) (p : PackId) (v : Bool) : (setLearnPin s p v).regs = s.regs := by
  cases p <;> rfl
@[simp] theorem setLearnPin_vault (s : State) (p : PackId) (v : Bool) : (setLearnPin s p v).vault = s.vault := by
  cases p <;> rfl
@[simp] theorem setLearnPin_now (s : State) (p : PackId) (v : Bool) : (setLearnPin s p v).now = s.now := by
  cases p <;> rfl
@[simp] theorem setLearnPin_pod (s : State) (p : PackId) (v : Bool) : (setLearnPin s p v).pod = s.pod := by
  cases p <;> rfl
@[simp] theorem setLearnPin_rst (s : State) (p : PackId) (v : Bool) : (setLearnPin s p v).rst = s.rst := by
  cases p <;> rfl
@[simp] theorem setLearnPin_adm (s : State) (p : PackId) (v : Bool) : (setLearnPin s p v).adm = s.adm := by
  cases p <;> rfl
@[simp] theorem setLearnPin_dram (s : State) (p : PackId) (v : Bool) : (setLearnPin s p v).dram = s.dram := by
  cases p <;> rfl
@[simp] theorem setLearnPin_links (s : State) (p : PackId) (v : Bool) : (setLearnPin s p v).links = s.links := by
  cases p <;> rfl
@[simp] theorem setLearnPin_psg (s : State) (p : PackId) (v : Bool) : (setLearnPin s p v).psg = s.psg := by
  cases p <;> rfl
@[simp] theorem setLearnPin_pwr (s : State) (p : PackId) (v : Bool) : (setLearnPin s p v).pwr = s.pwr := by
  cases p <;> rfl
@[simp] theorem setLearnPin_img (s : State) (p : PackId) (v : Bool) : (setLearnPin s p v).img = s.img := by
  cases p <;> rfl
@[simp] theorem setLearnPin_packA (s : State) (p : PackId) (v : Bool) : (setLearnPin s p v).packA = s.packA := by
  cases p <;> rfl
@[simp] theorem setLearnPin_packB (s : State) (p : PackId) (v : Bool) : (setLearnPin s p v).packB = s.packB := by
  cases p <;> rfl
@[simp] theorem setLearnPin_seq (s : State) (p : PackId) (v : Bool) : (setLearnPin s p v).seq = s.seq := by
  cases p <;> rfl
@[simp] theorem setLearnPin_mgt (s : State) (p : PackId) (v : Bool) : (setLearnPin s p v).mgt = s.mgt := by
  cases p <;> rfl
@[simp] theorem setLearnPin_ring (s : State) (p : PackId) (v : Bool) : (setLearnPin s p v).ring = s.ring := by
  cases p <;> rfl
@[simp] theorem setLearnPin_cen (s : State) (p : PackId) (v : Bool) : (setLearnPin s p v).cen = s.cen := by
  cases p <;> rfl
@[simp] theorem setLearnPin_flt (s : State) (p : PackId) (v : Bool) : (setLearnPin s p v).flt = s.flt := by
  cases p <;> rfl
@[simp] theorem setLearnPin_snaps (s : State) (p : PackId) (v : Bool) : (setLearnPin s p v).snaps = s.snaps := by
  cases p <;> rfl
@[simp] theorem setLearnPin_out (s : State) (p : PackId) (v : Bool) : (setLearnPin s p v).out = s.out := by
  cases p <;> rfl
@[simp] theorem setLearnPin_draws (s : State) (p : PackId) (v : Bool) : (setLearnPin s p v).draws = s.draws := by
  cases p <;> rfl
@[simp] theorem setLearnPin_pending (s : State) (p : PackId) (v : Bool) : (setLearnPin s p v).pending = s.pending := by
  cases p <;> rfl

@[simp] theorem setLink_regs (s : State) (l : Nat) (x : LinkSt) : (setLink s l x).regs = s.regs := rfl
@[simp] theorem setLink_vault (s : State) (l : Nat) (x : LinkSt) : (setLink s l x).vault = s.vault := rfl
@[simp] theorem setLink_now (s : State) (l : Nat) (x : LinkSt) : (setLink s l x).now = s.now := rfl
@[simp] theorem setLink_pod (s : State) (l : Nat) (x : LinkSt) : (setLink s l x).pod = s.pod := rfl
@[simp] theorem setLink_pins (s : State) (l : Nat) (x : LinkSt) : (setLink s l x).pins = s.pins := rfl
@[simp] theorem setLink_rst (s : State) (l : Nat) (x : LinkSt) : (setLink s l x).rst = s.rst := rfl
@[simp] theorem setLink_adm (s : State) (l : Nat) (x : LinkSt) : (setLink s l x).adm = s.adm := rfl
@[simp] theorem setLink_dram (s : State) (l : Nat) (x : LinkSt) : (setLink s l x).dram = s.dram := rfl
@[simp] theorem setLink_psg (s : State) (l : Nat) (x : LinkSt) : (setLink s l x).psg = s.psg := rfl
@[simp] theorem setLink_pwr (s : State) (l : Nat) (x : LinkSt) : (setLink s l x).pwr = s.pwr := rfl
@[simp] theorem setLink_img (s : State) (l : Nat) (x : LinkSt) : (setLink s l x).img = s.img := rfl
@[simp] theorem setLink_packA (s : State) (l : Nat) (x : LinkSt) : (setLink s l x).packA = s.packA := rfl
@[simp] theorem setLink_packB (s : State) (l : Nat) (x : LinkSt) : (setLink s l x).packB = s.packB := rfl
@[simp] theorem setLink_seq (s : State) (l : Nat) (x : LinkSt) : (setLink s l x).seq = s.seq := rfl
@[simp] theorem setLink_mgt (s : State) (l : Nat) (x : LinkSt) : (setLink s l x).mgt = s.mgt := rfl
@[simp] theorem setLink_ring (s : State) (l : Nat) (x : LinkSt) : (setLink s l x).ring = s.ring := rfl
@[simp] theorem setLink_cen (s : State) (l : Nat) (x : LinkSt) : (setLink s l x).cen = s.cen := rfl
@[simp] theorem setLink_flt (s : State) (l : Nat) (x : LinkSt) : (setLink s l x).flt = s.flt := rfl
@[simp] theorem setLink_snaps (s : State) (l : Nat) (x : LinkSt) : (setLink s l x).snaps = s.snaps := rfl
@[simp] theorem setLink_out (s : State) (l : Nat) (x : LinkSt) : (setLink s l x).out = s.out := rfl
@[simp] theorem setLink_draws (s : State) (l : Nat) (x : LinkSt) : (setLink s l x).draws = s.draws := rfl
@[simp] theorem setLink_pending (s : State) (l : Nat) (x : LinkSt) : (setLink s l x).pending = s.pending := rfl

@[simp] theorem setHalf_regs (s : State) (q : Requester) (h : HalfSt) : (setHalf s q h).regs = s.regs := by
  cases q <;> rfl
@[simp] theorem setHalf_vault (s : State) (q : Requester) (h : HalfSt) : (setHalf s q h).vault = s.vault := by
  cases q <;> rfl
@[simp] theorem setHalf_now (s : State) (q : Requester) (h : HalfSt) : (setHalf s q h).now = s.now := by
  cases q <;> rfl
@[simp] theorem setHalf_pod (s : State) (q : Requester) (h : HalfSt) : (setHalf s q h).pod = s.pod := by
  cases q <;> rfl
@[simp] theorem setHalf_pins (s : State) (q : Requester) (h : HalfSt) : (setHalf s q h).pins = s.pins := by
  cases q <;> rfl
@[simp] theorem setHalf_rst (s : State) (q : Requester) (h : HalfSt) : (setHalf s q h).rst = s.rst := by
  cases q <;> rfl
@[simp] theorem setHalf_adm (s : State) (q : Requester) (h : HalfSt) : (setHalf s q h).adm = s.adm := by
  cases q <;> rfl
@[simp] theorem setHalf_dram (s : State) (q : Requester) (h : HalfSt) : (setHalf s q h).dram = s.dram := by
  cases q <;> rfl
@[simp] theorem setHalf_links (s : State) (q : Requester) (h : HalfSt) : (setHalf s q h).links = s.links := by
  cases q <;> rfl
@[simp] theorem setHalf_psg (s : State) (q : Requester) (h : HalfSt) : (setHalf s q h).psg = s.psg := by
  cases q <;> rfl
@[simp] theorem setHalf_pwr (s : State) (q : Requester) (h : HalfSt) : (setHalf s q h).pwr = s.pwr := by
  cases q <;> rfl
@[simp] theorem setHalf_img (s : State) (q : Requester) (h : HalfSt) : (setHalf s q h).img = s.img := by
  cases q <;> rfl
@[simp] theorem setHalf_packA (s : State) (q : Requester) (h : HalfSt) : (setHalf s q h).packA = s.packA := by
  cases q <;> rfl
@[simp] theorem setHalf_packB (s : State) (q : Requester) (h : HalfSt) : (setHalf s q h).packB = s.packB := by
  cases q <;> rfl
@[simp] theorem setHalf_seq (s : State) (q : Requester) (h : HalfSt) : (setHalf s q h).seq = s.seq := by
  cases q <;> rfl
@[simp] theorem setHalf_ring (s : State) (q : Requester) (h : HalfSt) : (setHalf s q h).ring = s.ring := by
  cases q <;> rfl
@[simp] theorem setHalf_cen (s : State) (q : Requester) (h : HalfSt) : (setHalf s q h).cen = s.cen := by
  cases q <;> rfl
@[simp] theorem setHalf_flt (s : State) (q : Requester) (h : HalfSt) : (setHalf s q h).flt = s.flt := by
  cases q <;> rfl
@[simp] theorem setHalf_snaps (s : State) (q : Requester) (h : HalfSt) : (setHalf s q h).snaps = s.snaps := by
  cases q <;> rfl
@[simp] theorem setHalf_out (s : State) (q : Requester) (h : HalfSt) : (setHalf s q h).out = s.out := by
  cases q <;> rfl
@[simp] theorem setHalf_draws (s : State) (q : Requester) (h : HalfSt) : (setHalf s q h).draws = s.draws := by
  cases q <;> rfl
@[simp] theorem setHalf_pending (s : State) (q : Requester) (h : HalfSt) : (setHalf s q h).pending = s.pending := by
  cases q <;> rfl

@[simp] theorem dropHalf_regs (s : State) (q : Requester) : (dropHalf s q).regs = s.regs := setHalf_regs _ _ _
@[simp] theorem dropHalf_vault (s : State) (q : Requester) : (dropHalf s q).vault = s.vault := setHalf_vault _ _ _
@[simp] theorem dropHalf_now (s : State) (q : Requester) : (dropHalf s q).now = s.now := setHalf_now _ _ _
@[simp] theorem dropHalf_pod (s : State) (q : Requester) : (dropHalf s q).pod = s.pod := setHalf_pod _ _ _
@[simp] theorem dropHalf_pins (s : State) (q : Requester) : (dropHalf s q).pins = s.pins := setHalf_pins _ _ _
@[simp] theorem dropHalf_rst (s : State) (q : Requester) : (dropHalf s q).rst = s.rst := setHalf_rst _ _ _
@[simp] theorem dropHalf_adm (s : State) (q : Requester) : (dropHalf s q).adm = s.adm := setHalf_adm _ _ _
@[simp] theorem dropHalf_dram (s : State) (q : Requester) : (dropHalf s q).dram = s.dram := setHalf_dram _ _ _
@[simp] theorem dropHalf_links (s : State) (q : Requester) : (dropHalf s q).links = s.links := setHalf_links _ _ _
@[simp] theorem dropHalf_psg (s : State) (q : Requester) : (dropHalf s q).psg = s.psg := setHalf_psg _ _ _
@[simp] theorem dropHalf_pwr (s : State) (q : Requester) : (dropHalf s q).pwr = s.pwr := setHalf_pwr _ _ _
@[simp] theorem dropHalf_img (s : State) (q : Requester) : (dropHalf s q).img = s.img := setHalf_img _ _ _
@[simp] theorem dropHalf_packA (s : State) (q : Requester) : (dropHalf s q).packA = s.packA := setHalf_packA _ _ _
@[simp] theorem dropHalf_packB (s : State) (q : Requester) : (dropHalf s q).packB = s.packB := setHalf_packB _ _ _
@[simp] theorem dropHalf_seq (s : State) (q : Requester) : (dropHalf s q).seq = s.seq := setHalf_seq _ _ _
@[simp] theorem dropHalf_ring (s : State) (q : Requester) : (dropHalf s q).ring = s.ring := setHalf_ring _ _ _
@[simp] theorem dropHalf_cen (s : State) (q : Requester) : (dropHalf s q).cen = s.cen := setHalf_cen _ _ _
@[simp] theorem dropHalf_flt (s : State) (q : Requester) : (dropHalf s q).flt = s.flt := setHalf_flt _ _ _
@[simp] theorem dropHalf_snaps (s : State) (q : Requester) : (dropHalf s q).snaps = s.snaps := setHalf_snaps _ _ _
@[simp] theorem dropHalf_out (s : State) (q : Requester) : (dropHalf s q).out = s.out := setHalf_out _ _ _
@[simp] theorem dropHalf_draws (s : State) (q : Requester) : (dropHalf s q).draws = s.draws := setHalf_draws _ _ _
@[simp] theorem dropHalf_pending (s : State) (q : Requester) : (dropHalf s q).pending = s.pending := setHalf_pending _ _ _

@[simp] theorem setWindow_vault (s : State) (w : Nat) (a b c d : Word) : (setWindow s w a b c d).vault = s.vault := by
  unfold setWindow
  rw [setReg_vault, setReg_vault, setReg_vault, setReg_vault]
@[simp] theorem setWindow_now (s : State) (w : Nat) (a b c d : Word) : (setWindow s w a b c d).now = s.now := by
  unfold setWindow
  rw [setReg_now, setReg_now, setReg_now, setReg_now]
@[simp] theorem setWindow_pod (s : State) (w : Nat) (a b c d : Word) : (setWindow s w a b c d).pod = s.pod := by
  unfold setWindow
  rw [setReg_pod, setReg_pod, setReg_pod, setReg_pod]
@[simp] theorem setWindow_pins (s : State) (w : Nat) (a b c d : Word) : (setWindow s w a b c d).pins = s.pins := by
  unfold setWindow
  rw [setReg_pins, setReg_pins, setReg_pins, setReg_pins]
@[simp] theorem setWindow_rst (s : State) (w : Nat) (a b c d : Word) : (setWindow s w a b c d).rst = s.rst := by
  unfold setWindow
  rw [setReg_rst, setReg_rst, setReg_rst, setReg_rst]
@[simp] theorem setWindow_adm (s : State) (w : Nat) (a b c d : Word) : (setWindow s w a b c d).adm = s.adm := by
  unfold setWindow
  rw [setReg_adm, setReg_adm, setReg_adm, setReg_adm]
@[simp] theorem setWindow_dram (s : State) (w : Nat) (a b c d : Word) : (setWindow s w a b c d).dram = s.dram := by
  unfold setWindow
  rw [setReg_dram, setReg_dram, setReg_dram, setReg_dram]
@[simp] theorem setWindow_links (s : State) (w : Nat) (a b c d : Word) : (setWindow s w a b c d).links = s.links := by
  unfold setWindow
  rw [setReg_links, setReg_links, setReg_links, setReg_links]
@[simp] theorem setWindow_psg (s : State) (w : Nat) (a b c d : Word) : (setWindow s w a b c d).psg = s.psg := by
  unfold setWindow
  rw [setReg_psg, setReg_psg, setReg_psg, setReg_psg]
@[simp] theorem setWindow_pwr (s : State) (w : Nat) (a b c d : Word) : (setWindow s w a b c d).pwr = s.pwr := by
  unfold setWindow
  rw [setReg_pwr, setReg_pwr, setReg_pwr, setReg_pwr]
@[simp] theorem setWindow_img (s : State) (w : Nat) (a b c d : Word) : (setWindow s w a b c d).img = s.img := by
  unfold setWindow
  rw [setReg_img, setReg_img, setReg_img, setReg_img]
@[simp] theorem setWindow_packA (s : State) (w : Nat) (a b c d : Word) : (setWindow s w a b c d).packA = s.packA := by
  unfold setWindow
  rw [setReg_packA, setReg_packA, setReg_packA, setReg_packA]
@[simp] theorem setWindow_packB (s : State) (w : Nat) (a b c d : Word) : (setWindow s w a b c d).packB = s.packB := by
  unfold setWindow
  rw [setReg_packB, setReg_packB, setReg_packB, setReg_packB]
@[simp] theorem setWindow_seq (s : State) (w : Nat) (a b c d : Word) : (setWindow s w a b c d).seq = s.seq := by
  unfold setWindow
  rw [setReg_seq, setReg_seq, setReg_seq, setReg_seq]
@[simp] theorem setWindow_mgt (s : State) (w : Nat) (a b c d : Word) : (setWindow s w a b c d).mgt = s.mgt := by
  unfold setWindow
  rw [setReg_mgt, setReg_mgt, setReg_mgt, setReg_mgt]
@[simp] theorem setWindow_ring (s : State) (w : Nat) (a b c d : Word) : (setWindow s w a b c d).ring = s.ring := by
  unfold setWindow
  rw [setReg_ring, setReg_ring, setReg_ring, setReg_ring]
@[simp] theorem setWindow_cen (s : State) (w : Nat) (a b c d : Word) : (setWindow s w a b c d).cen = s.cen := by
  unfold setWindow
  rw [setReg_cen, setReg_cen, setReg_cen, setReg_cen]
@[simp] theorem setWindow_flt (s : State) (w : Nat) (a b c d : Word) : (setWindow s w a b c d).flt = s.flt := by
  unfold setWindow
  rw [setReg_flt, setReg_flt, setReg_flt, setReg_flt]
@[simp] theorem setWindow_snaps (s : State) (w : Nat) (a b c d : Word) : (setWindow s w a b c d).snaps = s.snaps := by
  unfold setWindow
  rw [setReg_snaps, setReg_snaps, setReg_snaps, setReg_snaps]
@[simp] theorem setWindow_out (s : State) (w : Nat) (a b c d : Word) : (setWindow s w a b c d).out = s.out := by
  unfold setWindow
  rw [setReg_out, setReg_out, setReg_out, setReg_out]
@[simp] theorem setWindow_draws (s : State) (w : Nat) (a b c d : Word) : (setWindow s w a b c d).draws = s.draws := by
  unfold setWindow
  rw [setReg_draws, setReg_draws, setReg_draws, setReg_draws]
@[simp] theorem setWindow_pending (s : State) (w : Nat) (a b c d : Word) : (setWindow s w a b c d).pending = s.pending := by
  unfold setWindow
  rw [setReg_pending, setReg_pending, setReg_pending, setReg_pending]

@[simp] theorem setOwner_vault (s : State) (w v : Nat) : (setOwner s w v).vault = s.vault := setFldIn_vault _ _ _ _ _
@[simp] theorem setOwner_now (s : State) (w v : Nat) : (setOwner s w v).now = s.now := setFldIn_now _ _ _ _ _
@[simp] theorem setOwner_pod (s : State) (w v : Nat) : (setOwner s w v).pod = s.pod := setFldIn_pod _ _ _ _ _
@[simp] theorem setOwner_pins (s : State) (w v : Nat) : (setOwner s w v).pins = s.pins := setFldIn_pins _ _ _ _ _
@[simp] theorem setOwner_rst (s : State) (w v : Nat) : (setOwner s w v).rst = s.rst := setFldIn_rst _ _ _ _ _
@[simp] theorem setOwner_adm (s : State) (w v : Nat) : (setOwner s w v).adm = s.adm := setFldIn_adm _ _ _ _ _
@[simp] theorem setOwner_dram (s : State) (w v : Nat) : (setOwner s w v).dram = s.dram := setFldIn_dram _ _ _ _ _
@[simp] theorem setOwner_links (s : State) (w v : Nat) : (setOwner s w v).links = s.links := setFldIn_links _ _ _ _ _
@[simp] theorem setOwner_psg (s : State) (w v : Nat) : (setOwner s w v).psg = s.psg := setFldIn_psg _ _ _ _ _
@[simp] theorem setOwner_pwr (s : State) (w v : Nat) : (setOwner s w v).pwr = s.pwr := setFldIn_pwr _ _ _ _ _
@[simp] theorem setOwner_img (s : State) (w v : Nat) : (setOwner s w v).img = s.img := setFldIn_img _ _ _ _ _
@[simp] theorem setOwner_packA (s : State) (w v : Nat) : (setOwner s w v).packA = s.packA := setFldIn_packA _ _ _ _ _
@[simp] theorem setOwner_packB (s : State) (w v : Nat) : (setOwner s w v).packB = s.packB := setFldIn_packB _ _ _ _ _
@[simp] theorem setOwner_seq (s : State) (w v : Nat) : (setOwner s w v).seq = s.seq := setFldIn_seq _ _ _ _ _
@[simp] theorem setOwner_mgt (s : State) (w v : Nat) : (setOwner s w v).mgt = s.mgt := setFldIn_mgt _ _ _ _ _
@[simp] theorem setOwner_ring (s : State) (w v : Nat) : (setOwner s w v).ring = s.ring := setFldIn_ring _ _ _ _ _
@[simp] theorem setOwner_cen (s : State) (w v : Nat) : (setOwner s w v).cen = s.cen := setFldIn_cen _ _ _ _ _
@[simp] theorem setOwner_flt (s : State) (w v : Nat) : (setOwner s w v).flt = s.flt := setFldIn_flt _ _ _ _ _
@[simp] theorem setOwner_snaps (s : State) (w v : Nat) : (setOwner s w v).snaps = s.snaps := setFldIn_snaps _ _ _ _ _
@[simp] theorem setOwner_out (s : State) (w v : Nat) : (setOwner s w v).out = s.out := setFldIn_out _ _ _ _ _
@[simp] theorem setOwner_draws (s : State) (w v : Nat) : (setOwner s w v).draws = s.draws := setFldIn_draws _ _ _ _ _
@[simp] theorem setOwner_pending (s : State) (w v : Nat) : (setOwner s w v).pending = s.pending := setFldIn_pending _ _ _ _ _

@[simp] theorem setFlashWord_regs (s : State) (w : Nat) (v : Word) : (setFlashWord s w v).regs = s.regs := rfl
@[simp] theorem setFlashWord_vault (s : State) (w : Nat) (v : Word) : (setFlashWord s w v).vault = s.vault := rfl
@[simp] theorem setFlashWord_now (s : State) (w : Nat) (v : Word) : (setFlashWord s w v).now = s.now := rfl
@[simp] theorem setFlashWord_pod (s : State) (w : Nat) (v : Word) : (setFlashWord s w v).pod = s.pod := rfl
@[simp] theorem setFlashWord_pins (s : State) (w : Nat) (v : Word) : (setFlashWord s w v).pins = s.pins := rfl
@[simp] theorem setFlashWord_rst (s : State) (w : Nat) (v : Word) : (setFlashWord s w v).rst = s.rst := rfl
@[simp] theorem setFlashWord_adm (s : State) (w : Nat) (v : Word) : (setFlashWord s w v).adm = s.adm := rfl
@[simp] theorem setFlashWord_dram (s : State) (w : Nat) (v : Word) : (setFlashWord s w v).dram = s.dram := rfl
@[simp] theorem setFlashWord_links (s : State) (w : Nat) (v : Word) : (setFlashWord s w v).links = s.links := rfl
@[simp] theorem setFlashWord_psg (s : State) (w : Nat) (v : Word) : (setFlashWord s w v).psg = s.psg := rfl
@[simp] theorem setFlashWord_pwr (s : State) (w : Nat) (v : Word) : (setFlashWord s w v).pwr = s.pwr := rfl
@[simp] theorem setFlashWord_img (s : State) (w : Nat) (v : Word) : (setFlashWord s w v).img = s.img := rfl
@[simp] theorem setFlashWord_packA (s : State) (w : Nat) (v : Word) : (setFlashWord s w v).packA = s.packA := rfl
@[simp] theorem setFlashWord_packB (s : State) (w : Nat) (v : Word) : (setFlashWord s w v).packB = s.packB := rfl
@[simp] theorem setFlashWord_seq (s : State) (w : Nat) (v : Word) : (setFlashWord s w v).seq = s.seq := rfl
@[simp] theorem setFlashWord_ring (s : State) (w : Nat) (v : Word) : (setFlashWord s w v).ring = s.ring := rfl
@[simp] theorem setFlashWord_cen (s : State) (w : Nat) (v : Word) : (setFlashWord s w v).cen = s.cen := rfl
@[simp] theorem setFlashWord_flt (s : State) (w : Nat) (v : Word) : (setFlashWord s w v).flt = s.flt := rfl
@[simp] theorem setFlashWord_snaps (s : State) (w : Nat) (v : Word) : (setFlashWord s w v).snaps = s.snaps := rfl
@[simp] theorem setFlashWord_out (s : State) (w : Nat) (v : Word) : (setFlashWord s w v).out = s.out := rfl
@[simp] theorem setFlashWord_draws (s : State) (w : Nat) (v : Word) : (setFlashWord s w v).draws = s.draws := rfl
@[simp] theorem setFlashWord_pending (s : State) (w : Nat) (v : Word) : (setFlashWord s w v).pending = s.pending := rfl

@[simp] theorem logUpdate_regs (s : State) (i : Nat) (f : LogRec → LogRec) : (logUpdate s i f).regs = s.regs := rfl
@[simp] theorem logUpdate_vault (s : State) (i : Nat) (f : LogRec → LogRec) : (logUpdate s i f).vault = s.vault := rfl
@[simp] theorem logUpdate_now (s : State) (i : Nat) (f : LogRec → LogRec) : (logUpdate s i f).now = s.now := rfl
@[simp] theorem logUpdate_pod (s : State) (i : Nat) (f : LogRec → LogRec) : (logUpdate s i f).pod = s.pod := rfl
@[simp] theorem logUpdate_pins (s : State) (i : Nat) (f : LogRec → LogRec) : (logUpdate s i f).pins = s.pins := rfl
@[simp] theorem logUpdate_rst (s : State) (i : Nat) (f : LogRec → LogRec) : (logUpdate s i f).rst = s.rst := rfl
@[simp] theorem logUpdate_adm (s : State) (i : Nat) (f : LogRec → LogRec) : (logUpdate s i f).adm = s.adm := rfl
@[simp] theorem logUpdate_dram (s : State) (i : Nat) (f : LogRec → LogRec) : (logUpdate s i f).dram = s.dram := rfl
@[simp] theorem logUpdate_links (s : State) (i : Nat) (f : LogRec → LogRec) : (logUpdate s i f).links = s.links := rfl
@[simp] theorem logUpdate_psg (s : State) (i : Nat) (f : LogRec → LogRec) : (logUpdate s i f).psg = s.psg := rfl
@[simp] theorem logUpdate_pwr (s : State) (i : Nat) (f : LogRec → LogRec) : (logUpdate s i f).pwr = s.pwr := rfl
@[simp] theorem logUpdate_img (s : State) (i : Nat) (f : LogRec → LogRec) : (logUpdate s i f).img = s.img := rfl
@[simp] theorem logUpdate_packA (s : State) (i : Nat) (f : LogRec → LogRec) : (logUpdate s i f).packA = s.packA := rfl
@[simp] theorem logUpdate_packB (s : State) (i : Nat) (f : LogRec → LogRec) : (logUpdate s i f).packB = s.packB := rfl
@[simp] theorem logUpdate_seq (s : State) (i : Nat) (f : LogRec → LogRec) : (logUpdate s i f).seq = s.seq := rfl
@[simp] theorem logUpdate_mgt (s : State) (i : Nat) (f : LogRec → LogRec) : (logUpdate s i f).mgt = s.mgt := rfl
@[simp] theorem logUpdate_ring (s : State) (i : Nat) (f : LogRec → LogRec) : (logUpdate s i f).ring = s.ring := rfl
@[simp] theorem logUpdate_cen (s : State) (i : Nat) (f : LogRec → LogRec) : (logUpdate s i f).cen = s.cen := rfl
@[simp] theorem logUpdate_snaps (s : State) (i : Nat) (f : LogRec → LogRec) : (logUpdate s i f).snaps = s.snaps := rfl
@[simp] theorem logUpdate_out (s : State) (i : Nat) (f : LogRec → LogRec) : (logUpdate s i f).out = s.out := rfl
@[simp] theorem logUpdate_draws (s : State) (i : Nat) (f : LogRec → LogRec) : (logUpdate s i f).draws = s.draws := rfl
@[simp] theorem logUpdate_pending (s : State) (i : Nat) (f : LogRec → LogRec) : (logUpdate s i f).pending = s.pending := rfl

@[simp] theorem pass_regs (s : State) (n : Nat) : (pass n s).regs = s.regs := by
  unfold pass slew
  split <;> rfl
@[simp] theorem pass_vault (s : State) (n : Nat) : (pass n s).vault = s.vault := by
  unfold pass slew
  split <;> rfl
@[simp] theorem pass_pins (s : State) (n : Nat) : (pass n s).pins = s.pins := by
  unfold pass slew
  split <;> rfl
@[simp] theorem pass_rst (s : State) (n : Nat) : (pass n s).rst = s.rst := by
  unfold pass slew
  split <;> rfl
@[simp] theorem pass_adm (s : State) (n : Nat) : (pass n s).adm = s.adm := by
  unfold pass slew
  split <;> rfl
@[simp] theorem pass_dram (s : State) (n : Nat) : (pass n s).dram = s.dram := by
  unfold pass slew
  split <;> rfl
@[simp] theorem pass_links (s : State) (n : Nat) : (pass n s).links = s.links := by
  unfold pass slew
  split <;> rfl
@[simp] theorem pass_psg (s : State) (n : Nat) : (pass n s).psg = s.psg := by
  unfold pass slew
  split <;> rfl
@[simp] theorem pass_pwr (s : State) (n : Nat) : (pass n s).pwr = s.pwr := by
  unfold pass slew
  split <;> rfl
@[simp] theorem pass_img (s : State) (n : Nat) : (pass n s).img = s.img := by
  unfold pass slew
  split <;> rfl
@[simp] theorem pass_packA (s : State) (n : Nat) : (pass n s).packA = s.packA := by
  unfold pass slew
  split <;> rfl
@[simp] theorem pass_packB (s : State) (n : Nat) : (pass n s).packB = s.packB := by
  unfold pass slew
  split <;> rfl
@[simp] theorem pass_seq (s : State) (n : Nat) : (pass n s).seq = s.seq := by
  unfold pass slew
  split <;> rfl
@[simp] theorem pass_mgt (s : State) (n : Nat) : (pass n s).mgt = s.mgt := by
  unfold pass slew
  split <;> rfl
@[simp] theorem pass_cen (s : State) (n : Nat) : (pass n s).cen = s.cen := by
  unfold pass slew
  split <;> rfl
@[simp] theorem pass_flt (s : State) (n : Nat) : (pass n s).flt = s.flt := by
  unfold pass slew
  split <;> rfl
@[simp] theorem pass_snaps (s : State) (n : Nat) : (pass n s).snaps = s.snaps := by
  unfold pass slew
  split <;> rfl
@[simp] theorem pass_out (s : State) (n : Nat) : (pass n s).out = s.out := by
  unfold pass slew
  split <;> rfl
@[simp] theorem pass_draws (s : State) (n : Nat) : (pass n s).draws = s.draws := by
  unfold pass slew
  split <;> rfl
@[simp] theorem pass_pending (s : State) (n : Nat) : (pass n s).pending = s.pending := by
  unfold pass slew
  split <;> rfl

end Sys2Proof.Machine
end

