-- ==== Sys2Proof/Laws/Memory.lean ====
section
/-! SUPPORT. The laws of DRAM: a line reads back as written, every other byte stays, and the canonical form stays. -/
namespace Sys2Proof.Machine

theorem putBytes_wf (m : List Host.Cell) (a v n : Nat) (h : Memory.wf m = true) : Memory.wf (putBytes m a v n) = true := by
  induction n generalizing m a v with
  | zero => exact h
  | succ n ih => exact ih _ _ _ (sparseWf_sset (fun _ => (0 : BitVec 8)) m a (BitVec.ofNat 8 v) h)

/-- The one store to DRAM keeps the canonical form. -/
theorem writeLine_wf (s : State) (l : Nat) (d : Line) (h : Memory.wf s.dram.cells = true) :
    Memory.wf (writeLine s l d).dram.cells = true := putBytes_wf _ _ _ _ h

/-- The memory after reset is in canonical form. -/
theorem reset_memory_wf : Memory.wf State.reset.dram.cells = true := rfl

theorem sget_putBytes_other (m : List Host.Cell) (a v n b : Nat) (h : b < a ∨ a + n ≤ b) :
    sget (0 : BitVec 8) (putBytes m a v n) b = sget 0 m b := by
  induction n generalizing m a v with
  | zero => rfl
  | succ n ih =>
    unfold putBytes
    rw [ih _ _ _ (by omega), sget_sset_other _ _ _ _ (by omega)]

theorem sget_putBytes_same (m : List Host.Cell) (a v n i : Nat) (h : i < n) :
    sget (0 : BitVec 8) (putBytes m a v n) (a + i) = BitVec.ofNat 8 (v / 256 ^ i) := by
  induction n generalizing m a v i with
  | zero => omega
  | succ n ih =>
    unfold putBytes
    cases i with
    | zero => rw [sget_putBytes_other _ _ _ _ _ (by omega)]; simp
    | succ i =>
      have := ih (sset (0 : BitVec 8) m a (BitVec.ofNat 8 v)) (a + 1) (v / 256) i (by omega)
      rw [show a + (i + 1) = a + 1 + i by omega, this, Nat.div_div_eq_div_mul, ← pow_succ']

/-- Bytes outside a stored line read as before. -/
theorem readByte_writeLine_other (s : State) (l : Nat) (d : Line) (a : Nat) (h : a < 64 * l ∨ 64 * l + 64 ≤ a) :
    readByte (writeLine s l d) a = readByte s a := sget_putBytes_other _ _ _ _ _ h

/-- Byte i of a stored line. -/
theorem readByte_writeLine_same (s : State) (l : Nat) (d : Line) (i : Nat) (h : i < 64) :
    readByte (writeLine s l d) (64 * l + i) = BitVec.ofNat 8 (d.toNat / 256 ^ i) := sget_putBytes_same _ _ _ _ _ h

theorem readBytes_writeLine (s : State) (l : Nat) (d : Line) (n i : Nat) (h : i + n ≤ 64) :
    readBytes (writeLine s l d) (64 * l + i) n = d.toNat / 256 ^ i % 256 ^ n := by
  induction n generalizing i with
  | zero => simp [readBytes, Nat.mod_one]
  | succ n ih =>
    rw [readBytes, readByte_writeLine_same s l d i (by omega), show 64 * l + i + 1 = 64 * l + (i + 1) by omega,
      ih (i + 1) (by omega), BitVec.toNat_ofNat, pow_succ' 256 n, Nat.mod_mul, pow_succ 256 i, Nat.div_div_eq_div_mul]

/-- A line reads back as written. -/
@[simp] theorem readLine_writeLine_same (s : State) (l : Nat) (d : Line) : readLine (writeLine s l d) l = d := by
  unfold readLine
  have := readBytes_writeLine s l d 64 0 (by omega)
  simp only [Nat.add_zero, pow_zero, Nat.div_one] at this
  have e : (256 : Nat) ^ 64 = 2 ^ 512 := by rw [show (256 : Nat) = 2 ^ 8 from rfl, ← pow_mul]
  rw [this, e, ← BitVec.toNat_ofNat, BitVec.ofNat_toNat]
  simp

theorem readBytes_congr (s t : State) (a n : Nat) (h : ∀ i, i < n → readByte t (a + i) = readByte s (a + i)) :
    readBytes t a n = readBytes s a n := by
  induction n generalizing a with
  | zero => rfl
  | succ n ih =>
    rw [readBytes, readBytes, show readByte t a = readByte s a from h 0 (by omega),
      ih (a + 1) (fun i hi => by rw [show a + 1 + i = a + (i + 1) by omega]; exact h (i + 1) (by omega))]

/-- A store leaves every other line. -/
theorem readLine_writeLine_other (s : State) (l k : Nat) (d : Line) (h : k ≠ l) : readLine (writeLine s l d) k = readLine s k := by
  unfold readLine
  rw [readBytes_congr s (writeLine s l d) (64 * k) 64 (fun i hi => readByte_writeLine_other s l d _ (by omega))]

end Sys2Proof.Machine
end

