-- ==== Sys2Proof/Laws/Regs.lean ====
section
/-! SUPPORT. The laws of the registers: reading after a write, field by field, and the canonical form of the map. -/
namespace Sys2Proof.Machine

@[simp] theorem getReg_setReg_same (s : State) (k : Nat) (v : Word) : getReg (setReg s k v) k = v := by
  simp [getReg, setReg]

theorem getReg_setReg_other (s : State) {k j : Nat} (v : Word) (h : j ≠ k) : getReg (setReg s k v) j = getReg s j := by
  simp only [getReg, setReg]
  exact sget_sset_other _ _ _ _ h

/-- A read of a register depends on the register map alone. -/
theorem getReg_of_regs {s t : State} (h : t.regs = s.regs) (k : Nat) : getReg t k = getReg s k := by
  simp [getReg, h]

/-- The map stays canonical under a register write. -/
theorem setReg_wf (s : State) (k : Nat) (v : Word) (h : sparseWf resetWord s.regs = true) :
    sparseWf resetWord (setReg s k v).regs = true := sparseWf_sset resetWord s.regs k v h

/-- Keys of different registers differ. -/
theorem rkey_inj {i b p o i' b' p' o' : Nat} (ho : o < 4096) (ho' : o' < 4096) (hp : p < 256) (hp' : p' < 256)
    (hb : b < 4) (hb' : b' < 4) (h : rkey i b p o = rkey i' b' p' o') : i = i' ∧ b = b' ∧ p = p' ∧ o = o' := by
  unfold rkey at h
  omega

/-- What a field's bits become. -/
theorem bitsOf_withBits (n hi lo v : Nat) (h : lo ≤ hi) : bitsOf (withBits n hi lo v) hi lo = v % 2 ^ (hi + 1 - lo) := by
  unfold bitsOf withBits
  have hp : 2 ^ (hi + 1) = 2 ^ lo * 2 ^ (hi + 1 - lo) := by rw [← pow_add]; congr 1; omega
  have hl : 0 < 2 ^ lo := by positivity
  have hw : 0 < 2 ^ (hi + 1 - lo) := by positivity
  have e : n % 2 ^ lo + v % 2 ^ (hi + 1 - lo) * 2 ^ lo + n / 2 ^ (hi + 1) * 2 ^ (hi + 1) =
      n % 2 ^ lo + 2 ^ lo * (v % 2 ^ (hi + 1 - lo) + 2 ^ (hi + 1 - lo) * (n / 2 ^ (hi + 1))) := by
    rw [hp]; ring
  rw [e, Nat.add_mul_div_left _ _ hl, Nat.div_eq_of_lt (Nat.mod_lt _ hl), Nat.zero_add, Nat.add_mul_mod_self_left,
    Nat.mod_mod]

/-- Bits of a word outside the written field stay. -/
theorem bitsOf_withBits_above (n hi lo v hi' lo' : Nat) (h : hi < lo') (h2 : lo ≤ hi) :
    bitsOf (withBits n hi lo v) hi' lo' = bitsOf n hi' lo' := by
  unfold bitsOf withBits
  congr 1
  have hp : 2 ^ (hi + 1) = 2 ^ lo * 2 ^ (hi + 1 - lo) := by rw [← pow_add]; congr 1; omega
  have hq : 2 ^ lo' = 2 ^ (hi + 1) * 2 ^ (lo' - (hi + 1)) := by rw [← pow_add]; congr 1; omega
  have hl : 0 < 2 ^ lo := by positivity
  have small : n % 2 ^ lo + v % 2 ^ (hi + 1 - lo) * 2 ^ lo < 2 ^ (hi + 1) := by
    have a := Nat.mod_lt n hl
    have b : v % 2 ^ (hi + 1 - lo) < 2 ^ (hi + 1 - lo) := Nat.mod_lt _ (by positivity)
    rw [hp]
    nlinarith
  rw [hq, ← Nat.div_div_eq_div_mul, ← Nat.div_div_eq_div_mul, Nat.add_mul_div_right _ _ (by positivity),
    Nat.div_eq_of_lt small, Nat.zero_add]

theorem bitsOf_withBits_below (n hi lo v hi' lo' : Nat) (h : hi' < lo) (h1 : lo' ≤ hi') (h2 : lo ≤ hi) :
    bitsOf (withBits n hi lo v) hi' lo' = bitsOf n hi' lo' := by
  unfold bitsOf withBits
  have hp : 2 ^ (hi + 1) = 2 ^ lo * 2 ^ (hi + 1 - lo) := by rw [← pow_add]; congr 1; omega
  have hq : 2 ^ lo = 2 ^ lo' * 2 ^ (lo - lo') := by rw [← pow_add]; congr 1; omega
  have hr : 2 ^ (lo - lo') = 2 ^ (hi' + 1 - lo') * 2 ^ (lo - (hi' + 1)) := by rw [← pow_add]; congr 1; omega
  have e : n % 2 ^ lo + v % 2 ^ (hi + 1 - lo) * 2 ^ lo + n / 2 ^ (hi + 1) * 2 ^ (hi + 1) =
      n % 2 ^ lo + 2 ^ lo' * (2 ^ (lo - lo') * (v % 2 ^ (hi + 1 - lo) + 2 ^ (hi + 1 - lo) * (n / 2 ^ (hi + 1)))) := by
    rw [hp, hq]; ring
  have f : n = n % 2 ^ lo + 2 ^ lo' * (2 ^ (lo - lo') * (n / 2 ^ lo)) := by
    have := Nat.mod_add_div n (2 ^ lo)
    rw [hq] at this ⊢
    rw [← Nat.mul_assoc]
    omega
  have hl : 0 < 2 ^ lo' := by positivity
  rw [e, Nat.add_mul_div_left _ _ hl, hr, Nat.mul_assoc, Nat.add_mul_mod_self_left]
  conv_rhs => rw [f, Nat.add_mul_div_left _ _ hl, hr, Nat.mul_assoc, Nat.add_mul_mod_self_left]

theorem withBits_lt (n hi lo v : Nat) (h : lo ≤ hi) (h64 : hi < 64) (hn : n < 2 ^ 64) : withBits n hi lo v < 2 ^ 64 := by
  unfold withBits
  have hp : 2 ^ (hi + 1) = 2 ^ lo * 2 ^ (hi + 1 - lo) := by rw [← pow_add]; congr 1; omega
  have hq : 2 ^ 64 = 2 ^ (hi + 1) * 2 ^ (64 - (hi + 1)) := by rw [← pow_add]; congr 1; omega
  have hl : 0 < 2 ^ lo := by positivity
  have a := Nat.mod_lt n hl
  have b : v % 2 ^ (hi + 1 - lo) < 2 ^ (hi + 1 - lo) := Nat.mod_lt _ (by positivity)
  have small : n % 2 ^ lo + v % 2 ^ (hi + 1 - lo) * 2 ^ lo < 2 ^ (hi + 1) := by rw [hp]; nlinarith
  have c : n / 2 ^ (hi + 1) < 2 ^ (64 - (hi + 1)) := by
    rw [Nat.div_lt_iff_lt_mul (by positivity), Nat.mul_comm, ← hq]; exact hn
  have hk : 0 < 2 ^ (hi + 1) := by positivity
  rw [hq]
  nlinarith

/-- The field is a field of a 64-bit register. -/
def Fld.ok (f : Fld) : Prop := f.lo ≤ f.hi ∧ f.hi < 64

/-- A field reads back what was written, cut to its width. -/
theorem fldIn_setFldIn_same (s : State) (f : Fld) (i b v : Nat) (h : f.ok) :
    fldIn (setFldIn s f i b v) f i b = v % 2 ^ (f.hi + 1 - f.lo) := by
  have hlt := withBits_lt (getReg s (f.key i b)).toNat f.hi f.lo v h.1 h.2 (by simpa using (getReg s (f.key i b)).isLt)
  unfold fldIn setFldIn
  rw [getReg_setReg_same, BitVec.toNat_ofNat, Nat.mod_eq_of_lt hlt, bitsOf_withBits _ _ _ _ h.1]

/-- A write to a field leaves a field of another register. -/
theorem fldIn_setFldIn_other (s : State) (f g : Fld) (i b v j c : Nat) (h : g.key j c ≠ f.key i b) :
    fldIn (setFldIn s f i b v) g j c = fldIn s g j c := by
  unfold fldIn setFldIn
  rw [getReg_setReg_other _ _ h]

/-- A write to a field leaves the other fields of its register. -/
theorem fldIn_setFldIn_apart (s : State) (f g : Fld) (i b v j c : Nat) (hf : f.ok) (hg : g.ok)
    (h : g.hi < f.lo ∨ f.hi < g.lo) : fldIn (setFldIn s f i b v) g j c = fldIn s g j c := by
  by_cases hk : g.key j c = f.key i b
  · have hlt := withBits_lt (getReg s (f.key i b)).toNat f.hi f.lo v hf.1 hf.2 (by simpa using (getReg s (f.key i b)).isLt)
    unfold fldIn setFldIn
    rw [hk, getReg_setReg_same, BitVec.toNat_ofNat, Nat.mod_eq_of_lt hlt]
    rcases h with h | h
    · exact bitsOf_withBits_below _ _ _ _ _ _ h hg.1 hf.1
    · exact bitsOf_withBits_above _ _ _ _ _ _ h hf.1
  · exact fldIn_setFldIn_other s f g i b v j c hk

/-- The registers a field write leaves. -/
theorem getReg_setFldIn_other (s : State) (f : Fld) (i b v : Nat) {j : Nat} (h : j ≠ f.key i b) :
    getReg (setFldIn s f i b v) j = getReg s j := getReg_setReg_other s _ h

theorem fld_setFld_same (s : State) (f : Fld) (v : Nat) (h : f.ok) : fld (setFld s f v) f = v % 2 ^ (f.hi + 1 - f.lo) :=
  fldIn_setFldIn_same s f 0 0 v h

theorem flag_setFlag_same (s : State) (f : Fld) (b : Bool) (h : f.lo = f.hi ∧ f.hi < 64) :
    flag (setFlag s f b) f = b := by
  unfold flag setFlag
  rw [fld_setFld_same s f _ ⟨le_of_eq h.1, h.2⟩, h.1]
  cases b <;> simp [b2n]

theorem fldIn_lt (s : State) (f : Fld) (i b : Nat) : fldIn s f i b < 2 ^ (f.hi + 1 - f.lo) :=
  Nat.mod_lt _ (by positivity)

end Sys2Proof.Machine
end

