-- ==== Sys2Proof/Laws/Ops.lean ====
section
/-! SUPPORT. The laws of the shared operations: for each, what it does when its condition holds and what it leaves when the
condition fails, so that a proof about a command cites them and does not unfold them. -/
namespace Sys2Proof.Machine

/-! Sorted lists and unit bitmaps. -/

theorem mem_lins {k j : Nat} {l : List Nat} : j ∈ lins k l ↔ j = k ∨ j ∈ l := by
  induction l with
  | nil => simp [lins]
  | cons i l ih =>
    unfold lins
    split
    · simp
    · split
      · rename_i h; subst h; simp
      · simp [ih]; tauto

theorem mem_ldel {k j : Nat} {l : List Nat} : j ∈ ldel k l ↔ j ≠ k ∧ j ∈ l := by
  induction l with
  | nil => simp [ldel]
  | cons i l ih =>
    unfold ldel
    split
    · rename_i h; subst h; rw [ih]; simp; tauto
    · rename_i h
      simp only [List.mem_cons, ih]
      constructor
      · rintro (rfl | ⟨h1, h2⟩)
        · exact ⟨h, .inl rfl⟩
        · exact ⟨h1, .inr h2⟩
      · rintro ⟨h1, rfl | h2⟩
        · exact .inl rfl
        · exact .inr ⟨h1, h2⟩

/-- A bit that is written reads back. -/
@[simp] theorem Bitmap.get_set_same (b : Bitmap) (u : Nat) (v : Bool) : (b.set u v).get u = v := by
  unfold Bitmap.set Bitmap.get
  split
  · rename_i h; simp [List.contains_eq_mem, mem_ldel, h]
  · rename_i h; simp only [List.contains_eq_mem, mem_lins]; cases v <;> cases hd : b.dflt <;> simp_all

/-- A write to a bit leaves every other bit. -/
theorem Bitmap.get_set_other (b : Bitmap) {u w : Nat} (v : Bool) (h : w ≠ u) : (b.set u v).get w = b.get w := by
  unfold Bitmap.set Bitmap.get
  split <;> simp [List.contains_eq_mem, mem_ldel, mem_lins, h]

@[simp] theorem isDirty_setDirty_same (s : State) (u : Nat) (v : Bool) : isDirty (setDirty s u v) u = v := by
  simp [isDirty, setDirty]
theorem isDirty_setDirty_other (s : State) {u w : Nat} (v : Bool) (h : w ≠ u) :
    isDirty (setDirty s u v) w = isDirty s w := by
  simp [isDirty, setDirty, Bitmap.get_set_other _ v h]
@[simp] theorem isRestored_setRestored_same (s : State) (u : Nat) (v : Bool) :
    isRestored (setRestored s u v) u = v := by simp [isRestored, setRestored]
theorem isRestored_setRestored_other (s : State) {u w : Nat} (v : Bool) (h : w ≠ u) :
    isRestored (setRestored s u v) w = isRestored s w := by
  simp [isRestored, setRestored, Bitmap.get_set_other _ v h]
@[simp] theorem isDiverged_setDiverged_same (s : State) (u : Nat) (v : Bool) :
    isDiverged (setDiverged s u v) u = v := by simp [isDiverged, setDiverged]
theorem isDiverged_setDiverged_other (s : State) {u w : Nat} (v : Bool) (h : w ≠ u) :
    isDiverged (setDiverged s u v) w = isDiverged s w := by
  simp [isDiverged, setDiverged, Bitmap.get_set_other _ v h]

/-- Poison marks one line (R97). -/
theorem isPoison_setPoison (s : State) (l k : Nat) : isPoison (setPoison s l) k = (decide (k = l) || isPoison s k) := by
  simp [isPoison, setPoison, List.contains_eq_mem, mem_lins]
theorem isPoison_clearPoison (s : State) (l k : Nat) :
    isPoison (clearPoison s l) k = (decide (k ≠ l) && isPoison s k) := by
  simp [isPoison, clearPoison, List.contains_eq_mem, mem_ldel]

/-! Lines that exist. -/

theorem withLine_of_lt {s : State} {l : Nat} (k : Res) (h : l < installedLines s) : withLine s l k = k := if_pos h
theorem withLine_of_ge {s : State} {l : Nat} (k : Res) (h : installedLines s ≤ l) :
    withLine s l k = .fault (.noSuchLine l) := if_neg (by omega)
theorem withLines_of_le {s : State} {l n : Nat} (k : Res) (h : l + n ≤ installedLines s) : withLines s l n k = k := if_pos h
theorem withLines_of_gt {s : State} {l n : Nat} (k : Res) (h : installedLines s < l + n) :
    withLines s l n k = .fault (.noSuchLine (max l (installedLines s))) := if_neg (by omega)

/-- A next state behind `withLine` means that the line is installed. -/
theorem withLine_next {s t : State} {l : Nat} {k : Res} (h : withLine s l k = .next t) :
    l < installedLines s ∧ k = .next t := by
  unfold withLine at h
  split at h
  · exact ⟨‹_›, h⟩
  · cases h

/-! The sequencer's contexts and its control store. -/

@[simp] theorem getCtx_setCtx_same (s : State) (c : Fin 4) (x : CtxSt) : getCtx (setCtx s c x) c = x := by
  fin_cases c <;> rfl
theorem getCtx_setCtx_other (s : State) {c d : Fin 4} (x : CtxSt) (h : d ≠ c) : getCtx (setCtx s c x) d = getCtx s d := by
  fin_cases c <;> fin_cases d <;> first | rfl | exact absurd rfl h

/-- A raised event waits in its context (R251). -/
theorem raiseEvent_mem (s : State) (c : Fin 4) (e : Nat) : e ∈ (getCtx (raiseEvent s c e) c).events := by
  simp [raiseEvent, mem_lins]
/-- A requested routine waits in its context (R244). -/
theorem requestRoutine_mem (s : State) (c : Fin 4) (v : Nat) : v ∈ (getCtx (requestRoutine s c v) c).pend := by
  simp [requestRoutine, mem_lins]
/-- Both leave the other contexts. -/
theorem getCtx_raiseEvent_other (s : State) {c d : Fin 4} (e : Nat) (h : d ≠ c) : getCtx (raiseEvent s c e) d = getCtx s d :=
  getCtx_setCtx_other s _ h
theorem getCtx_requestRoutine_other (s : State) {c d : Fin 4} (v : Nat) (h : d ≠ c) :
    getCtx (requestRoutine s c v) d = getCtx s d := getCtx_setCtx_other s _ h

@[simp] theorem bankWord_setBankWord_same (s : State) (b a : Nat) (w : BitVec 128) :
    bankWord (setBankWord s b a w) b a = w := by
  unfold bankWord setBankWord; split <;> simp
theorem bankWord_setBankWord_other (s : State) (b a x : Nat) (w : BitVec 128) (h : x ≠ a) :
    bankWord (setBankWord s b a w) b x = bankWord s b x := by
  unfold bankWord setBankWord; split <;> simp [sget_sset_other, h]
@[simp] theorem setBankWord_regs (s : State) (b a : Nat) (w : BitVec 128) : (setBankWord s b a w).regs = s.regs := by
  unfold setBankWord; split <;> rfl

/-! Accesses that a guard lets through. -/

theorem guarded_pass {s : State} {q : Requester} {pg : Nat} (t : State) (h : canWrite s q pg = true) :
    guarded s q pg t = dropHalf t q := by simp [guarded, h]
theorem guarded_stop {s : State} {q : Requester} {pg : Nat} (t : State) (h : canWrite s q pg = false) :
    guarded s q pg t = dropHalf s q := by simp [guarded, h]
theorem guardedHdr_pass {s : State} {q : Requester} {pg : Nat} (t : State) (h : canWriteHdr s q pg = true) :
    guardedHdr s q pg t = dropHalf t q := by simp [guardedHdr, h]
theorem guardedHdr_stop {s : State} {q : Requester} {pg : Nat} (t : State) (h : canWriteHdr s q pg = false) :
    guardedHdr s q pg t = dropHalf s q := by simp [guardedHdr, h]

/-- The half that a requester holds is its own. -/
@[simp] theorem getHalf_setHalf_same (s : State) (q : Requester) (h : HalfSt) : getHalf (setHalf s q h) q = h := by
  cases q <;> rfl
theorem getHalf_setHalf_other (s : State) {q r : Requester} (x : HalfSt) (h : r ≠ q) :
    getHalf (setHalf s q x) r = getHalf s r := by
  cases q <;> cases r <;> first | rfl | exact absurd rfl h

/-- In SEALED no write takes effect, to a block's register or to a header (R343, R371). -/
theorem canWrite_sealed {s : State} (q : Requester) (pg : Nat) (h : s.vault = .sealed) :
    canWrite s q pg = false ∧ canWriteHdr s q pg = false := by simp [canWrite, canWriteHdr, h]

/-! The Passage. -/

/-- Nothing leaves, and nothing waits, while the Passage is neither up nor about to be up again. -/
theorem psgSend_down {s : State} (typ mseq arg line count win : Nat) (data : List Slot128) (h : psgLive s = false) :
    psgSend s typ mseq arg line count win data = s := by simp [psgSend, h]

/-- With nothing waiting and credit for its slots, a message leaves at once and takes its credit. -/
theorem psgSend_free {s : State} (typ mseq arg line count win : Nat) (data : List Slot128) (h : psgUp s = true)
    (hw : s.psg.txWait = []) (hc : 1 + data.length ≤ s.psg.credit) :
    psgSend s typ mseq arg line count win data =
      sendMessage { s with psg := { s.psg with txWait := [], credit := s.psg.credit - (1 + data.length) } } 8
        (PsgMsg.message ⟨typ, mseq, arg, line, count, win, data⟩) none := by
  have hl : psgLive s = true := by simp [psgLive, h]
  have hs : PsgMsg.slots ⟨typ, mseq, arg, line, count, win, data⟩ = 1 + data.length := rfl
  have hu : ∀ p : PsgSt, psgUp { s with psg := p } = true := fun _ => h
  unfold psgSend
  simp only [hl, if_true, hw, psgInsert, psgFlush, List.length_singleton, psgFlushN, hu, hs, hc, decide_true, Bool.and_self]

/-- A message that waits leaves the link's flits alone while no credit covers it. -/
theorem psgFlush_short {s : State} {m : PsgMsg} {l : List PsgMsg} (hw : s.psg.txWait = m :: l) (hc : s.psg.credit < m.slots) :
    psgFlush s = s := by
  have : ¬ m.slots ≤ s.psg.credit := by omega
  simp [psgFlush, hw, psgFlushN, this]

/-! Responses. -/

/-- A warm reset's drain holds every response (R355). -/
theorem settle_drain {s : State} (h : s.rst.drain.isSome = true) : settle s = s := by simp [settle, h]
/-- With no request in flight nothing changes. -/
theorem settle_idle {s : State} (h : s.adm.flights = []) : settle s = s := by
  unfold settle
  split
  · rfl
  · rw [h]; simp only [respondFold, List.foldl_nil]
    rw [← h]

/-! Events. -/

/-- A source that the tables do not list, or any source without the always-on supply, raises nothing (R333, R345). -/
theorem raise_none {s : State} {src : Nat} (h : listedSource src = false ∨ aoUp s = false) : raise s src = s := by
  rcases h with h | h <;> simp [raise, raiseN, h]

/-! Links. -/

/-- A link written reads back, and the others stay. -/
@[simp] theorem getLink_setLink_same (s : State) (l : Nat) (x : LinkSt) : getLink (setLink s l x) l = x := by
  simp [getLink, setLink]
theorem getLink_setLink_other (s : State) {l k : Nat} (x : LinkSt) (h : k ≠ l) : getLink (setLink s l x) k = getLink s k :=
  sget_sset_other _ _ _ _ h

/-! The management core. -/

/-- Register 0 reads zero and discards writes; any other reads back, and the others stay (R268). -/
theorem coreReg_setCoreReg (s : State) {r : Nat} (k : Nat) (v : BitVec 32) (h : r < 32) :
    coreReg (setCoreReg s r v) k = if k = r ∧ k ≠ 0 then v else coreReg s k := by
  unfold setCoreReg coreReg
  by_cases hk : k = 0
  · simp [hk]
  · by_cases hr : r = 0
    · have : k ≠ r := by omega
      simp [hr, hk]
    · by_cases e : k = r
      · subst e; simp [hk, withHart, h]
      · have : r ≠ k := fun x => e x.symm
        simp [hk, hr, e, withHart, this]
@[simp] theorem setCoreReg_regs (s : State) (r : Nat) (v : BitVec 32) : (setCoreReg s r v).regs = s.regs := by
  unfold setCoreReg; split <;> rfl

end Sys2Proof.Machine
end

