-- ==== Sys2Proof/Laws/Seq.lean ====
section
/-! SUPPORT. The laws of the microwords: when one issues, what runs, and what the register and flag writes leave. -/
namespace Sys2Proof.Machine

/-! The count of a hook changes the hook alone. -/

theorem countHook_cases (s : State) (c : Fin 4) : countHook s c = s ∨
    ((getCtx s c).hook.isSome = true ∧ ∃ h, countHook s c = setCtx s c { getCtx s c with hook := some h }) := by
  unfold countHook
  dsimp only
  split
  · rename_i h hk
    split
    · exact .inr ⟨by rw [hk]; rfl, _, rfl⟩
    · exact .inl rfl
  · exact .inl rfl

theorem getCtx_countHook (s : State) (c : Fin 4) :
    getCtx (countHook s c) c = { getCtx s c with hook := (getCtx (countHook s c) c).hook } := by
  rcases countHook_cases s c with h | ⟨-, f, h⟩ <;> rw [h]
  rw [getCtx_setCtx_same]

theorem getCtx_countHook_other (s : State) {c d : Fin 4} (h : d ≠ c) : getCtx (countHook s c) d = getCtx s d := by
  rcases countHook_cases s c with e | ⟨-, f, e⟩ <;> rw [e]
  exact getCtx_setCtx_other s _ h

@[simp] theorem countHook_hook_isSome (s : State) (c : Fin 4) :
    (getCtx (countHook s c) c).hook.isSome = (getCtx s c).hook.isSome := by
  rcases countHook_cases s c with e | ⟨hs, f, e⟩ <;> rw [e]
  rw [getCtx_setCtx_same, hs]; rfl

@[simp] theorem countHook_g (s : State) (c : Fin 4) : (getCtx (countHook s c) c).g = (getCtx s c).g := by rw [getCtx_countHook]
@[simp] theorem countHook_flags (s : State) (c : Fin 4) : (getCtx (countHook s c) c).flags = (getCtx s c).flags := by
  rw [getCtx_countHook]
@[simp] theorem countHook_pc (s : State) (c : Fin 4) : (getCtx (countHook s c) c).pc = (getCtx s c).pc := by rw [getCtx_countHook]
@[simp] theorem countHook_stack (s : State) (c : Fin 4) : (getCtx (countHook s c) c).stack = (getCtx s c).stack := by
  rw [getCtx_countHook]
@[simp] theorem countHook_scratch (s : State) (c : Fin 4) : (getCtx (countHook s c) c).scratch = (getCtx s c).scratch := by
  rw [getCtx_countHook]
@[simp] theorem countHook_run (s : State) (c : Fin 4) : (getCtx (countHook s c) c).run = (getCtx s c).run := by
  rw [getCtx_countHook]
@[simp] theorem inCust_countHook (s : State) (c : Fin 4) : inCust (getCtx (countHook s c) c) = inCust (getCtx s c) := by
  rw [getCtx_countHook]; rfl

/-- Counting changes nothing outside the sequencer's context. -/
theorem countHook_seq (s : State) (c : Fin 4) : ∃ q, countHook s c = { s with seq := q } := by
  rcases countHook_cases s c with e | ⟨-, f, e⟩ <;> rw [e]
  · exact ⟨s.seq, rfl⟩
  · fin_cases c <;> exact ⟨_, rfl⟩

/-! Issue. -/

/-- A word that does not stand at the PC of a ready context does nothing (log 47). -/
theorem seqIssue_absent {s : State} {c : Fin 4} {opc : Nat} {m : Micro} (k : State → Res) (h : issues s c opc m = false) :
    seqIssue s c opc m k = .next s := by simp [seqIssue, h]

/-- A reserved predicate traps (R248). -/
theorem seqIssue_reserved {s : State} {c : Fin 4} {opc : Nat} {m : Micro} (k : State → Res) (h : issues s c opc m = true)
    (hc : 10 < m.cond.toNat) : seqIssue s c opc m k = .next (hookBudget (seqTrap (countHook s c) c 2) c) := by
  simp [seqIssue, h, hc]

/-- A predicate that does not hold skips the word (R248). -/
theorem seqIssue_skipped {s : State} {c : Fin 4} {opc : Nat} {m : Micro} (k : State → Res) (h : issues s c opc m = true)
    (hc : m.cond.toNat ≤ 10) (hp : condHolds (getCtx s c).flags m.cond.toNat = false) :
    seqIssue s c opc m k = .next (hookBudget (retire (countHook s c) c) c) := by
  simp [seqIssue, h, hp, Nat.not_lt.mpr hc]

/-- A word that is ready and legal runs its own work, and the hook's budget is looked at behind it. -/
theorem seqIssue_ready {s : State} {c : Fin 4} {opc : Nat} {m : Micro} (k : State → Res) (h : issues s c opc m = true)
    (hc : m.cond.toNat ≤ 10) (hp : condHolds (getCtx s c).flags m.cond.toNat = true)
    (hcu : inCust (getCtx s c) = true → custAllowed opc (getCtx s c).hook.isSome = true)
    (h3 : (getCtx s c).run = 3 → handlerBars opc = false) (h5 : (getCtx s c).run = 5 → yields opc = false) :
    seqIssue s c opc m k = (match k (countHook s c) with
      | .next t => .next (hookBudget t c)
      | r => r) := by
  have hcu' : (inCust (getCtx s c) && !custAllowed opc (getCtx s c).hook.isSome) = false := by
    cases hi : inCust (getCtx s c) <;> simp [hi] at hcu ⊢; exact hcu
  have h35 : ((decide ((getCtx s c).run = 3) && handlerBars opc) || (decide ((getCtx s c).run = 5) && yields opc)) = false := by
    by_cases e3 : (getCtx s c).run = 3
    · simp [e3, h3 e3]
    · by_cases e5 : (getCtx s c).run = 5
      · simp [e5, h5 e5]
      · rw [decide_eq_false e3, decide_eq_false e5]; rfl
  simp only [seqIssue, h, Bool.not_true, Bool.false_eq_true, if_false, Nat.not_lt.mpr hc, countHook_flags, hp,
    inCust_countHook, countHook_hook_isSome, hcu', countHook_run, h35]
  all_goals cases k (countHook s c) <;> rfl

/-! Register and flag writes. -/

theorem getCtx_putReg (s : State) (c : Fin 4) (rd : BitVec 4) (v : Word) :
    getCtx (putReg s c rd v) c = { getCtx s c with g := (getCtx s c).g.set rd.toNat v, pc := (getCtx s c).pc + 1 } := by
  simp [putReg]
theorem getCtx_putReg_other (s : State) {c d : Fin 4} (rd : BitVec 4) (v : Word) (h : d ≠ c) :
    getCtx (putReg s c rd v) d = getCtx s d := getCtx_setCtx_other s _ h
theorem getCtx_retire (s : State) (c : Fin 4) :
    getCtx (retire s c) c = { getCtx s c with pc := (getCtx s c).pc + 1 } := by simp [retire]
theorem getCtx_putFlags (s : State) (c : Fin 4) (z cy n v : Bool) :
    getCtx (putFlags s c z cy n v) c =
      { getCtx s c with flags := { (getCtx s c).flags with z := z, c := cy, n := n, v := v } } := by simp [putFlags]

/-- The sign rule of V is the signed overflow of R248. -/
theorem add_overflow (a b : Word) : (a.msb == b.msb && (a + b).msb != a.msb) =
    decide (a.toInt + b.toInt < -2 ^ 63 ∨ 2 ^ 63 ≤ a.toInt + b.toInt) := by
  have ha := a.isLt
  have hb := b.isLt
  rw [Bool.eq_iff_iff]
  simp only [BitVec.toInt_eq_toNat_cond, BitVec.msb_eq_decide, BitVec.toNat_add, Bool.and_eq_true, beq_iff_eq, bne_iff_ne,
    decide_eq_true_eq, ne_eq, decide_eq_decide]
  split <;> split <;> omega
theorem sub_overflow (a b : Word) : (a.msb != b.msb && (a - b).msb != a.msb) =
    decide (a.toInt - b.toInt < -2 ^ 63 ∨ 2 ^ 63 ≤ a.toInt - b.toInt) := by
  have ha := a.isLt
  have hb := b.isLt
  rw [Bool.eq_iff_iff]
  simp only [BitVec.toInt_eq_toNat_cond, BitVec.msb_eq_decide, BitVec.toNat_sub, Bool.and_eq_true, bne_iff_ne,
    decide_eq_true_eq, ne_eq, decide_eq_decide]
  split <;> split <;> omega

end Sys2Proof.Machine
end

