-- ==== Sys2Proof/Tests/Slice0.lean ====
section
/-! SUPPORT. Tests: terms that WellFormed refuses, values that the spec works out, and for each clause of each obligation with
hypotheses a state and operands that meet them all. -/
namespace Sys2Proof.Tests
open Sys2Proof Sys2Proof.Machine
set_option Elab.async false
set_option linter.unusedVariables false

/-! WellFormed refuses an ill-formed term for each of its checks. -/

def tFlit (n : Nat) : Flit := ⟨true, 0, 0, 0, List.replicate n 0, 0⟩
def tReq : ReqHdr := { crc := 0, rsvd := 0, sub := 0, epoch := 0, hint := 0, count := 1, addr := 0, tenant := 0, tag := 0, port := 0 }
def tPsg : PsgHdr := ⟨0, 0, 0, 0, 0, 0, 0, 0⟩
theorem test_wf_slots : Instr.wellFormed (.wr 0 tReq (List.replicate 257 0)) = false ∧
    Instr.wellFormed (.wr 0 tReq (List.replicate 256 0)) = true ∧ Instr.wellFormed (.mirror tPsg (List.replicate 257 0)) = false := by
  decide +kernel
theorem test_wf_flit : Instr.wellFormed (.flitReceive 0 (tFlit 15)) = false ∧ Instr.wellFormed (.flitReceive 0 (tFlit 16)) = true := by
  decide
theorem test_wf_page : Instr.wellFormed (.quiesce .core 256 0) = false ∧ Instr.wellFormed (.blockResetDone 256) = false ∧
    Instr.wellFormed (.quiesce .core 255 0) = true := by decide
theorem test_wf_offset : Instr.wellFormed (.registerWrite .core 0x10 0x104 0) = false ∧
    Instr.wellFormed (.indexWrite .core 0x10 0x1000 0) = false ∧ Instr.wellFormed (.readClearAccess .core 0x10 0x108) = true := by decide
theorem test_wf_half : Instr.wellFormed (.lowHalfStore .core 0x10104 0) = false ∧ Instr.wellFormed (.highHalfStore .core 0x10104 0) = true ∧
    Instr.wellFormed (.lowHalfLoad .core 0x100000) = false ∧ Instr.wellFormed (.lowHalfLoad .core 0x10102) = false := by decide
theorem test_wf_unit : Instr.wellFormed (.unitRestored (2 ^ 24)) = false ∧ Instr.wellFormed (.scrubRecheck (2 ^ 24 - 1)) = true := by decide
theorem test_wf_group : Instr.wellFormed (.mgmtReq .east (ownHdr State.reset 0) ⟨0, 0, []⟩) = false ∧
    Instr.wellFormed (.mgmtResp .east (ownHdr State.reset 0) ⟨0, 9, List.replicate 9 ⟨0, 1, 0⟩⟩) = false := by decide +kernel
theorem test_wf_source : Instr.wellFormed (.graceExpire 8192) = false ∧ Instr.wellFormed (.graceExpire 8191) = true := by decide

/-! The interface. -/

theorem test_no_word_spells_a_command : decodeTableWord 64 0 = none ∧ State.reset.withFetchWord 64 0 = State.reset := by decide +kernel
theorem test_step_idle : ∃ t, step State.reset = .next t ∧ t.now = State.reset.now + 30 := ⟨_, rfl, by decide +kernel⟩

/-! Values that the spec works out. -/

/-- "123456789". -/
def tDigits : List Nat := [0x31, 0x32, 0x33, 0x34, 0x35, 0x36, 0x37, 0x38, 0x39]
/-- R33. -/
theorem test_header_crc : crc16 tDigits = 0x29B1 := by decide +kernel
/-- R127. -/
theorem test_digest_crc : crc64 tDigits = 0x6C40DF5F0B497347 := by decide +kernel
/-- R172. -/
theorem test_image_crc : crc32c tDigits = 0xE3069283 := by decide +kernel

/-- R86: DENSITY 0b10, XOR_MODE 0b11. -/
def tMap : State := setFld (setFld State.reset DRC_MAP_DENSITY 2) DRC_MAP_XOR_MODE 3
theorem test_map_line : subOf tMap 0x5A3C9E47 = 30 ∧ bankOf tMap 0x5A3C9E47 = 0b1010 ∧ rowOf tMap 0x5A3C9E47 = 0xB479 ∧
    subOf tMap (0x5A3C9E47 + 64) = 29 := by decide +kernel

/-- R48, requests A, B and C of the worked example: C crosses a 4 KiB boundary, A and B do not. -/
def tHdr (addr : BitVec 36) (count : BitVec 6) : ReqHdr := { tReq with addr := addr, count := count }
theorem test_boundary : wellShaped opWR (tHdr 0x12302F80 0) [] = true ∧ wellShaped opWR (tHdr 0x12302F80 40) [] = true ∧
    wellShaped opRD (tHdr 0x12302FA0 48) [] = false := by decide +kernel

/-- R65, the worked example of Admission: link 1 at full width; a refresh due at -30.9 us in bin 4, BUS 35 ns and ACT 70 ns up to bin 4,
BUS 180 ns and ACT 300 ns up to bin 28. Costs are in Plaza cycles of 0.625 ns, times in 1/48 ns. -/
def tItem (w : Work) (cb ca ck dl : Nat) : Item :=
  { id := 0, sub := 9, bank := 0, row := 0, line := 0, dl := dl, cb := cb, ca := ca, ck := ck, acts := 0, hint := false, work := w,
    tag := none, stage := .queue, input := 0, inter := 0, entered := 0, urgency := 0 }
def tBooked : State :=
  let s := setFld State.reset (BLV_STAT_WIDTH.inst 1) 3
  { s with adm := { s.adm with items := [tItem .refresh 0 0 656 14400, tItem .word 56 112 0 14400, tItem .word 232 368 0 86400] } }
theorem test_response_path : tRet tBooked opRD 1 1 = 7740 := by decide +kernel
/-- Port 130: 306.96 ns late, a hint of 5 bins. -/
theorem test_admission_refuses : (subReasons tBooked 0 3240 (480 * 48) 7740 224 ⟨9, 4, 8, 0⟩).head? = some ⟨5, some 9, some 14735⟩ ∧
    encodeHint (largestWait ((subReasons tBooked 0 3240 (480 * 48) 7740 224 ⟨9, 4, 8, 0⟩).map (fun r => r.wait))) = 5 := by decide +kernel
/-- Port 135, 8 ns later. -/
theorem test_admission_accepts : subReasons tBooked 384 3624 (2008 * 48) 7740 224 ⟨9, 4, 0, 0⟩ = [] := by decide +kernel

/-- R226: a pack of 1,069 mAh at -20 degrees with Z25 at 60.0 mOhm; the spec's 52,026.3 J and 13,303.5 J round the drop to 2.684 V. -/
def tPack : State := setFld (setFld State.reset (pakF .a PAK_CAP_CAP) 1069) (pakF .a PAK_IMP_Z25) 600
theorem test_usable_energy : 52026000 ≤ (usable tPack .a 1 (-320)).1 ∧ (usable tPack .a 1 (-320)).1 ≤ 52030000 ∧
    13303000 ≤ (usable tPack .a 1 (-320)).2 ∧ (usable tPack .a 1 (-320)).2 ≤ 13307000 := by decide +kernel

/-- R145: 92 + 5 + 8 + 613.58 J prove a full dump. -/
def tProof (mJ : Nat) : State := setFld (setFld State.reset DRC_MAP_DENSITY 2) PWR_E_NEED_E_USE mJ
theorem test_proven : provenNow { tProof 718577 with vault := .restore } = true ∧ provenNow { tProof 718576 with vault := .restore } = false := by
  decide +kernel

/-- R379: a write of IMG_RLOG_IDX that sets only INDEX is admitted by the page's reset REMOTE, one that applies is not. -/
theorem test_remote_index : mgmtStatus State.reset ⟨0x301A8, 2, 0x25⟩ = 0 ∧ mgmtStatus State.reset ⟨0x301B0, 1, 0⟩ = 0 ∧
    mgmtStatus State.reset ⟨0x30100, 2, 1⟩ = 1 := by decide +kernel

/-! Operations, from their definitions in the spec. -/

/-- R38: ADD64 wraps and returns the old word; the other words stay. -/
theorem test_add64_wraps : wordOp opADD64 (BitVec.ofNat 512 ((2 ^ 64 - 1) * 2 ^ 64 + 7)) 1 [2] =
    ⟨BitVec.ofNat 512 (2 ^ 64 + 7), BitVec.ofNat 128 (2 ^ 64 - 1), false⟩ := by decide +kernel
/-- R38: the packet count wraps alone. -/
theorem test_addpair_no_carry : (wordOp opADDPAIR (BitVec.ofNat 512 (2 ^ 40 - 1)) 0 [BitVec.ofNat 128 (1 + 3 * 2 ^ 40)]).line =
    BitVec.ofNat 512 (3 * 2 ^ 40) := by decide +kernel
/-- R38: CAS64 compares bytes 0 to 7 and writes bytes 8 to 15. -/
theorem test_cas64 : wordOp opCAS64 9 0 [BitVec.ofNat 128 (9 + 5 * 2 ^ 64)] = ⟨5, 9, true⟩ ∧
    wordOp opCAS64 8 0 [BitVec.ofNat 128 (9 + 5 * 2 ^ 64)] = ⟨8, 8, false⟩ := by decide +kernel
/-- R38: CAS128 compares the first slot and writes the second. -/
theorem test_cas128 : (wordOp opCAS128 9 0 [9, 4]).line = 4 ∧ (wordOp opCAS128 9 0 [4, 9]).swapped = false := by decide +kernel
/-- R40, R41: an insertion takes the lowest free slot, a match finds it, a second insertion of the key is refused, a deletion clears
VALID alone. -/
theorem test_bucket : (bucketOp opEXI 0 4 (5 * 2 ^ 32)).bucket = BitVec.ofNat 2048 (5 * 2 ^ 32 + 1) ∧
    (bucketOp opEXI (BitVec.ofNat 2048 (5 * 2 ^ 32 + 1)) 4 (5 * 2 ^ 32)).wrote = false ∧
    (bucketOp opEXD (BitVec.ofNat 2048 (5 * 2 ^ 32 + 1)) 4 (5 * 2 ^ 32)).bucket = BitVec.ofNat 2048 (5 * 2 ^ 32) ∧
    (bucketOp opEXM (BitVec.ofNat 2048 (5 * 2 ^ 32 + 1)) 4 (6 * 2 ^ 32)).status = 8 := by decide +kernel
/-- R248: conditions on the flags. -/
theorem test_conditions : condHolds { Flags.zero with n := true } 7 = true ∧ condHolds { Flags.zero with n := true, v := true } 7 = false ∧
    condHolds Flags.zero 5 = true ∧ condHolds { Flags.zero with f := true } 9 = false := by decide

/-! The ciphers, by the examples of the standards that the rules name: FIPS 197 C.3 (R176), RFC 4493 section 4 (R233), IEEE 1619 vector 10
(R175). -/

theorem test_aes256 : aesEncrypt (roundKeys (List.range 32)) ((List.range 16).map (fun i => 0x11 * i)) =
    [0x8e, 0xa2, 0xb7, 0xca, 0x51, 0x67, 0x45, 0xbf, 0xea, 0xfc, 0x49, 0x90, 0x4b, 0x49, 0x60, 0x89] := by decide +kernel
theorem test_aes256_back : aesDecrypt (roundKeys (List.range 32))
    [0x8e, 0xa2, 0xb7, 0xca, 0x51, 0x67, 0x45, 0xbf, 0xea, 0xfc, 0x49, 0x90, 0x4b, 0x49, 0x60, 0x89] =
    (List.range 16).map (fun i => 0x11 * i) := by decide +kernel
def tCmacKey : List Nat := [0x2b, 0x7e, 0x15, 0x16, 0x28, 0xae, 0xd2, 0xa6, 0xab, 0xf7, 0x15, 0x88, 0x09, 0xcf, 0x4f, 0x3c]
theorem test_cmac_empty : cmac tCmacKey [] =
    [0xbb, 0x1d, 0x69, 0x29, 0xe9, 0x59, 0x37, 0x28, 0x7f, 0xa3, 0x7d, 0x12, 0x9b, 0x75, 0x67, 0x46] := by decide +kernel
theorem test_cmac_block :
    cmac tCmacKey [0x6b, 0xc1, 0xbe, 0xe2, 0x2e, 0x40, 0x9f, 0x96, 0xe9, 0x3d, 0x7e, 0x11, 0x73, 0x93, 0x17, 0x2a] =
    [0x07, 0x0a, 0x16, 0xb4, 0x6b, 0x4d, 0x41, 0x44, 0xf7, 0x9b, 0xdd, 0x9d, 0xd0, 0x4a, 0x28, 0x7c] := by decide +kernel
/-- A number as its bytes, high first. -/
def tBytes (n k : Nat) : List Nat := (bytesOf n k).reverse
theorem test_xts :
    xtsBlocks (aesEncrypt (roundKeys (tBytes 0x2718281828459045235360287471352662497757247093699959574966967627 32)))
      (ofBytes (aesEncrypt (roundKeys (tBytes 0x3141592653589793238462643383279502884197169399375105820974944592 32)) (bytesOf 0xff 16)))
      [ofBytes (List.range 16), ofBytes ((List.range 16).map (fun i => 16 + i))] =
    [ofBytes (tBytes 0x1c3b3a102f770386e4836c99e370cf9b 16), ofBytes (tBytes 0xea00803f5e482357a4ae12d414a3e63b 16)] := by decide +kernel

/-! The management core: instructions as the RISC-V manuals encode them (log 58). -/

/-- ADDI x5, x6, 7; MUL x10, x11, x12; BNE x1, x2, -8. -/
theorem test_core_decode : decode32 0x00730293 = some (.aluImm .add 5 6 7) ∧ decode32 0x02C58533 = some (.alu .mul 10 11 12) ∧
    decode32 0xFE209CE3 = some (.branch .ne 1 2 (BitVec.ofInt 32 (-8))) := by decide +kernel
/-- x0 reads zero whatever is written to it. -/
theorem test_core_zero : coreReg (setCoreReg State.reset 0 7) 0 = 0 ∧ coreReg (setCoreReg State.reset 1 7) 1 = 7 := by decide +kernel

/-! Witnesses: witness_<obligation>_<clause>. -/

/-- Set fields one after another. -/
def withFlds (s : State) (l : List (Fld × Nat)) : State := l.foldl (fun x e => setFld x e.1 e.2) s
/-- A vault in SERVE with identifier 5. -/
def wServe : State :=
  { State.reset with vault := .serve, regs := [(BOOT_ID_VAULT_ID.key 0 0, 5)], pins := { Pins.boot with kerbHold := true } }
def wEmptyQueuePassesOneCycle1 : State := State.reset
theorem witness_EmptyQueuePassesOneCycle_1 : ∃ (s : State), s.pending = [] ∧ s.mgt.hart.running = false ∧ s.ring.slewLeft = 0 :=
    ⟨wEmptyQueuePassesOneCycle1, by decide +kernel⟩
def wEmptyQueuePassesOneCycle2 : State := { State.reset with ring := { RingSt.reset with slewLeft := -7, slewAcc := 99999 } }
theorem witness_EmptyQueuePassesOneCycle_2 : ∃ (s : State), s.pending = [] ∧ s.mgt.hart.running = false ∧ s.ring.slewAcc < 100000 :=
    ⟨wEmptyQueuePassesOneCycle2, by decide +kernel⟩
/-- The core runs: an interrupt of a page is pending and enabled, at the start of the SRAM. -/
def wHart : HartSt := { HartSt.reset with running := true, pc := 0x10000000, mie := 0x800, mstatus := 8, mtvec := 0x10000101 }
def wCore : State := withFlds { wServe with mgt := { MgtSt.reset with hart := wHart } } [(IRQ_PEND_BIT 0x08 3, 1), ({ IRQ_PEND_BIT 0x08 3 with off := 0x040 }, 1)]
def wEmptyQueuePassesOneCycle3 : State := { wCore with mgt := { wCore.mgt with hart := { wHart with busy := 3 } } }
theorem witness_EmptyQueuePassesOneCycle_3 : ∃ (s : State), mgtUp s = true ∧ s.mgt.hart.busy ≠ 0 := ⟨wEmptyQueuePassesOneCycle3,
    by decide +kernel⟩
theorem witness_EmptyQueuePassesOneCycle_4 : ∃ (s : State), s.mgt.hart.busy = 0 ∧ s.mgt.hart.stall = none ∧ interruptReady s = true
    := ⟨wCore, by decide +kernel⟩
def wStepKeepsCanonicalForms1 : State := State.reset
def wStepKeepsCanonicalForms1x : State := tick State.reset
theorem witness_StepKeepsCanonicalForms_1 : ∃ (s t : State), s.Inv ∧ step s = .next t := ⟨wStepKeepsCanonicalForms1,
    wStepKeepsCanonicalForms1x, ⟨by decide +kernel, by decide +kernel⟩, rfl⟩
theorem witness_ClassActionsFenceAndSeal_1 : ∃ (q : Requester) (s : State), canWrite s q 0x03 = true ∧ ActsAtOnce s srcFenceReq 3 :=
    ⟨.core, wServe, by unfold ActsAtOnce; decide +kernel⟩
/-- Isolated: both ring ports and the Passage are down and no member answers. -/
def wIsolated : State := withFlds { wServe with now := 10000000000000, ring := { RingSt.reset with member := true } } [(FLT_ESC_A_N, 0)]
theorem witness_ClassActionsFenceAndSeal_2 : ∃ (s : State), isolatedNow s = true ∧ ActsAtOnce s srcIsolated 3 := ⟨wIsolated,
    by unfold ActsAtOnce; decide +kernel⟩
def wInject : State := withFlds wServe [(FLT_INJ_CTL_ARM, 1), (FLT_INJ_CTL_SOURCE, srcFenceReq)]
theorem witness_ClassActionsFenceAndSeal_3 : ∃ (s : State), flag s FLT_INJ_CTL_ARM = true ∧ ActsAtOnce s (fld s FLT_INJ_CTL_SOURCE)
    3 := ⟨wInject, by unfold ActsAtOnce; decide +kernel⟩
def wClassActionsFenceAndSeal4 : State := setFldAt wServe FLT_ESC_A_GRACE_US srcSealReq 0
theorem witness_ClassActionsFenceAndSeal_4 : ∃ (q : Requester) (s : State), canWrite s q 0x03 = true ∧ ActsAtOnce s srcSealReq 4 :=
    ⟨.core, wClassActionsFenceAndSeal4, by unfold ActsAtOnce; decide +kernel⟩
def wGrace : State := { wServe with flt := { FltSt.reset with grace := [(srcNo 0x93 0, 0, false), (srcNo 8 0, 0, true)] } }
theorem witness_ClassActionsFenceAndSeal_5 : ∃ (src : Nat) (s : State), mgtUp s = true ∧ graceRuns s src = true ∧ effClass s src < 2
    := ⟨srcNo 0x93 0, wGrace, by decide +kernel⟩
def wGrace3 : State := { wServe with flt := { FltSt.reset with grace := [(srcFenceReq, 0, true)] } }
theorem witness_ClassActionsFenceAndSeal_6 : ∃ (src : Nat) (s : State), mgtUp s = true ∧ s.vault.full = true ∧ graceRuns s src =
    true ∧ effClass s src = 3 ∧ censusActive s = false ∧ src < 2 ^ 13 := ⟨srcFenceReq, wGrace3, by decide +kernel⟩
theorem witness_ClassWriteIsTakenWholeOrRefused_1 : ∃ (q : Requester) (pg : Nat) (v : Word) (s : State), canWriteHdr s q pg = true ∧
    pg < 256 ∧ (∀ b, b < (sourceClasses pg).length → bitsOf v.toNat (3 * b + 2) (3 * b) ≤ 4) := ⟨.core, 0x93, 0b100100100, wServe,
    by decide +kernel⟩
theorem witness_ClassWriteIsTakenWholeOrRefused_2 : ∃ (q : Requester) (pg b : Nat) (v : Word) (s : State), canWriteHdr s q pg = true
    ∧ aoUp s = true ∧ b < (sourceClasses pg).length ∧ 4 < bitsOf v.toNat (3 * b + 2) (3 * b) := ⟨.pcie, 0x93, 2, 0b101000000,
    wServe, by decide +kernel⟩
theorem witness_ClassWriteIsTakenWholeOrRefused_3 : ∃ (pg b : Nat), pg < 256 ∧ b < (sourceClasses pg).length := ⟨0x80, 10,
    by decide +kernel⟩
theorem witness_FaultEventsAreCountedAndHandled_1 : ∃ (q : Requester) (pg b : Nat) (s : State), canWriteHdr s q pg = true ∧ pg < 256
    ∧ LogsOnly s (srcNo pg b) ∧ b < (sourceClasses pg).length := ⟨.core, 0x93, 0, wServe, by unfold LogsOnly; decide +kernel⟩
theorem witness_FaultEventsAreCountedAndHandled_2 : ∃ (q : Requester) (pg : Nat) (v : Word) (s : State), canWriteHdr s q pg = true ∧
    pg < 256 := ⟨.core, 0x93, 5, wGrace, by decide +kernel⟩
def wFaultEventsAreCountedAndHandled3 : State := withFlds wServe [(FLT_INJ_TIME_POD_TIME, 1)]
theorem witness_FaultEventsAreCountedAndHandled_3 : ∃ (q : Requester) (v : Word) (s : State), canWrite s q 0x07 = true ∧
    listedSource (bitsOf v.toNat 12 0) = true ∧ bitAt v.toNat 13 = true ∧ podNs s < fld s FLT_INJ_TIME_POD_TIME := ⟨.core,
    BitVec.ofNat 64 (8192 + srcFenceReq), wFaultEventsAreCountedAndHandled3, by decide +kernel⟩
theorem witness_FaultEventsAreCountedAndHandled_4 : ∃ (q : Requester) (v : Word) (s : State), canWrite s q 0x07 = true ∧
    listedSource (bitsOf v.toNat 12 0) = true ∧ bitAt v.toNat 13 = true ∧ fld s FLT_INJ_TIME_POD_TIME ≤ podNs s := ⟨.core,
    BitVec.ofNat 64 (8192 + srcFenceReq), wServe, by decide +kernel⟩
theorem witness_FaultEventsAreCountedAndHandled_5 : ∃ (q : Requester) (v : Word) (s : State), canWrite s q 0x07 = true ∧ flag s
    FLT_INJ_CTL_ARM = false := ⟨.core, 77, wServe, by decide +kernel⟩
def wPowerRisesAndFallsInOrder1 : State := { wServe with rst := { ResetSt.reset with ao := false } }
theorem witness_PowerRisesAndFallsInOrder_1 : ∃ (s : State), s.rst.ao = false := ⟨wPowerRisesAndFallsInOrder1, by decide +kernel⟩
def wRising : State := { State.reset with vault := .off, pins := { Pins.boot with enCore := false, enDram := false, enFlash := false, pgMr := false, pgPcie := true, pgCore := false, pgDram := false, pgFlash := false } }
theorem witness_PowerRisesAndFallsInOrder_2 : ∃ (g : PgPin) (s : State), poweringUp s = true ∧ pgEnabled s.pins g = true ∧ pgHigh
    s.pins g = false := ⟨.mr, wRising, by decide +kernel⟩
theorem witness_PowerRisesAndFallsInOrder_3 : ∃ (g : PgPin) (s : State), poweringUp s = true ∧ pgEnabled s.pins g = true ∧ pgHigh
    s.pins g = false := ⟨.mr, wRising, by decide +kernel⟩
def wPowerRisesAndFallsInOrder4 : State := { State.reset with rst := { ResetSt.reset with retry := true } }
theorem witness_PowerRisesAndFallsInOrder_4 : ∃ (s : State), s.rst.retry = true := ⟨wPowerRisesAndFallsInOrder4, by decide +kernel⟩
/-- The code flash of this vault holds a header in half A. -/
def headFlash : Sparse Word := [(0, 0x46574D31), (1, 0)]
def wLastPg : State := { State.reset with vault := .off, pins := { Pins.boot with pgFlash := false }, mgt := { MgtSt.reset with flash := headFlash } }
theorem witness_PowerRisesAndFallsInOrder_5 : ∃ (s : State), (s.vault = .off ∨ s.vault = .ship) ∧ lastPgDue s = true ∧ quietStart s
    := ⟨wLastPg, by unfold quietStart; decide +kernel⟩
def wPowerRisesAndFallsInOrder5b : State := { wLastPg with vault := .ship }
theorem witness_PowerRisesAndFallsInOrder_5b : ∃ (s : State), (s.vault = .off ∨ s.vault = .ship) ∧ lastPgDue s = true ∧ quietStart s
    := ⟨wPowerRisesAndFallsInOrder5b, by unfold quietStart; decide +kernel⟩
def wFenced : State := { wServe with vault := .fenced, pins := { Pins.boot with kerbHold := false }, mgt := { MgtSt.reset with flash := headFlash }, rst := { ResetSt.reset with fencedReq := true } }
theorem witness_PowerRisesAndFallsInOrder_6 : ∃ (s : State), s.vault = .fenced ∧ s.rst.fencedReq = true ∧ logicFailed s = false ∧
    quietStart s := ⟨wFenced, by unfold quietStart; decide +kernel⟩
theorem witness_PowerRisesAndFallsInOrder_7 : ∃ (g : PgPin) (s : State), (s.vault = .fenced ∨ s.vault = .sealed) ∧ aoUp s = true ∧
    pgEnabled s.pins g = true ∧ pgHigh s.pins g = true := ⟨.mr, wFenced, by decide +kernel⟩
def wPowerRisesAndFallsInOrder7b : State := { wFenced with vault := .sealed }
theorem witness_PowerRisesAndFallsInOrder_7b : ∃ (g : PgPin) (s : State), (s.vault = .fenced ∨ s.vault = .sealed) ∧ aoUp s = true ∧
    pgEnabled s.pins g = true ∧ pgHigh s.pins g = true := ⟨.pcie, wPowerRisesAndFallsInOrder7b, by decide +kernel⟩
theorem witness_PowerRisesAndFallsInOrder_8 : ∃ (g : PgPin) (s : State), s.vault ≠ .fenced ∧ s.vault ≠ .sealed ∧ aoUp s = true ∧
    pgEnabled s.pins g = true ∧ pgHigh s.pins g = true := ⟨.core, wServe, by decide +kernel⟩
theorem witness_CrystalAndPllLossesAreNoted_1 : ∃ (s : State), s.rst.ao = true := ⟨wServe, by decide +kernel⟩
theorem witness_CrystalAndPllLossesAreNoted_3 : ∃ (s : State), s.rst.ao = true := ⟨wServe, by decide +kernel⟩
theorem witness_CrystalAndPllLossesAreNoted_4 : ∃ (s : State), s.rst.ao = true ∧ mgtUp s = true := ⟨wServe, by decide +kernel⟩
def wCrystalAndPllLossesAreNoted5 : State := { wServe with vault := .alley }
theorem witness_CrystalAndPllLossesAreNoted_5 : ∃ (s : State), s.rst.ao = true ∧ mgtUp s = false := ⟨wCrystalAndPllLossesAreNoted5,
    by decide +kernel⟩
theorem witness_CrystalAndPllLossesAreNoted_6 : ∃ (q : Fin 4) (s : State), dataUp s = true := ⟨3, wServe, by decide +kernel⟩
theorem witness_CrystalAndPllLossesAreNoted_7 : ∃ (p : Pll) (f : Fld) (n : Nat) (s : State), pllUp s p = true ∧ (p, f, n) ∈
    [(Pll.core, CLK_STAT_CORE, 0), (.serdes, CLK_STAT_SERDES_TX, 1), (.mgt, CLK_STAT_MGT, 2), (.pcie, CLK_STAT_PCIE, 4)] := ⟨.pcie,
    CLK_STAT_PCIE, 4, wServe, by decide +kernel⟩
theorem witness_CrystalAndPllLossesAreNoted_7a : ∃ (p : Pll) (f : Fld) (n : Nat) (s : State), pllUp s p = true ∧ (p, f, n) ∈
    [(Pll.core, CLK_STAT_CORE, 0), (.serdes, CLK_STAT_SERDES_TX, 1), (.mgt, CLK_STAT_MGT, 2), (.pcie, CLK_STAT_PCIE, 4)] := ⟨.core,
    CLK_STAT_CORE, 0, wServe, by decide +kernel⟩
theorem witness_CrystalAndPllLossesAreNoted_7b : ∃ (p : Pll) (f : Fld) (n : Nat) (s : State), pllUp s p = true ∧ (p, f, n) ∈
    [(Pll.core, CLK_STAT_CORE, 0), (.serdes, CLK_STAT_SERDES_TX, 1), (.mgt, CLK_STAT_MGT, 2), (.pcie, CLK_STAT_PCIE, 4)] :=
    ⟨.serdes, CLK_STAT_SERDES_TX, 1, wServe, by decide +kernel⟩
theorem witness_CrystalAndPllLossesAreNoted_7c : ∃ (p : Pll) (f : Fld) (n : Nat) (s : State), pllUp s p = true ∧ (p, f, n) ∈
    [(Pll.core, CLK_STAT_CORE, 0), (.serdes, CLK_STAT_SERDES_TX, 1), (.mgt, CLK_STAT_MGT, 2), (.pcie, CLK_STAT_PCIE, 4)] := ⟨.mgt,
    CLK_STAT_MGT, 2, wServe, by decide +kernel⟩
theorem witness_CrystalAndPllLossesAreNoted_8 : ∃ (s : State), ringUp s = true := ⟨wServe, by decide +kernel⟩
def wCrystalAndPllLossesAreNoted2 : State := withFlds wServe [(FLT_CLASS_SRC 0x01 5, 1)]
theorem witness_CrystalAndPllLossesAreNoted_2 : ∃ (s : State), s.rst.ao = true ∧ LogsOnly s (srcClk 5) :=
    ⟨wCrystalAndPllLossesAreNoted2, by unfold LogsOnly; decide +kernel⟩
theorem witness_WarmResetIsTakenAndTakesEffect_1 : ∃ (q : Requester) (s : State), canWrite s q 0x02 = true ∧ s.rst.drain = none ∧
    (s.vault = .serve ∨ s.vault = .restore ∨ s.vault = .culdesac ∨ s.vault = .join) := ⟨.core, wServe, by decide +kernel⟩
def wWarmResetIsTakenAndTakesEffect1b : State := { wServe with vault := .join }
theorem witness_WarmResetIsTakenAndTakesEffect_1b : ∃ (q : Requester) (s : State), canWrite s q 0x02 = true ∧ s.rst.drain = none ∧
    (s.vault = .serve ∨ s.vault = .restore ∨ s.vault = .culdesac ∨ s.vault = .join) := ⟨.core, wWarmResetIsTakenAndTakesEffect1b,
    by decide +kernel⟩
theorem witness_WarmResetIsTakenAndTakesEffect_2 : ∃ (s : State), aoUp s = true ∧ logicFailed s = false ∧ s.rst.drain = none ∧
    (s.vault = .serve ∨ s.vault = .restore ∨ s.vault = .culdesac ∨ s.vault = .join) := ⟨wServe, by decide +kernel⟩
def wWarmResetIsTakenAndTakesEffect3 : State := { wServe with vault := .ride }
theorem witness_WarmResetIsTakenAndTakesEffect_3 : ∃ (s : State), aoUp s = true ∧ logicFailed s = false ∧ s.rst.drain = none ∧
    (s.vault = .ride ∨ s.vault = .dump) := ⟨wWarmResetIsTakenAndTakesEffect3, by decide +kernel⟩
def wWarmResetIsTakenAndTakesEffect3b : State := { wServe with vault := .dump }
theorem witness_WarmResetIsTakenAndTakesEffect_3b : ∃ (s : State), aoUp s = true ∧ logicFailed s = false ∧ s.rst.drain = none ∧
    (s.vault = .ride ∨ s.vault = .dump) := ⟨wWarmResetIsTakenAndTakesEffect3b, by decide +kernel⟩
def wWarmResetIsTakenAndTakesEffect4 : State := { wServe with vault := .alley }
theorem witness_WarmResetIsTakenAndTakesEffect_4 : ∃ (s : State), aoUp s = true ∧ logicFailed s = false ∧ s.rst.drain = none ∧
    s.vault = .alley := ⟨wWarmResetIsTakenAndTakesEffect4, by decide +kernel⟩
def wWarmResetIsTakenAndTakesEffect5 : State := { wServe with vault := .fenced }
theorem witness_WarmResetIsTakenAndTakesEffect_5 : ∃ (s : State), aoUp s = true ∧ logicFailed s = false ∧ s.rst.drain = none ∧
    s.vault = .fenced := ⟨wWarmResetIsTakenAndTakesEffect5, by decide +kernel⟩
def wWarmResetIsTakenAndTakesEffect6 : State := { wServe with vault := .sealed }
theorem witness_WarmResetIsTakenAndTakesEffect_6 : ∃ (s : State), aoUp s = true ∧ s.vault = .sealed :=
    ⟨wWarmResetIsTakenAndTakesEffect6, by decide +kernel⟩
def wWarmResetIsTakenAndTakesEffect7 : State := withFlds wServe [(BOOT_STAT_RESET_HELD, 1)]
theorem witness_WarmResetIsTakenAndTakesEffect_7 : ∃ (s : State), (s.vault = .serve ∨ s.vault = .restore) ∧ flag s
    BOOT_STAT_RESET_HELD = true ∧ logicFailed s = false ∧ s.rst.drain = none := ⟨wWarmResetIsTakenAndTakesEffect7,
    by decide +kernel⟩
def wDrain : State := { wServe with mgt := { MgtSt.reset with flash := headFlash }, rst := { ResetSt.reset with drain := some ⟨.serve, true⟩ } }
theorem witness_WarmResetIsTakenAndTakesEffect_8 : ∃ (ns : Nat) (d : Drain) (s : State), s.rst.drain = some d ∧ logicFailed s =
    false ∧ quietStart (drainItems s) ∧ (drainItems s).vault ≠ .boot := ⟨10, ⟨.serve, true⟩, wDrain,
    by unfold quietStart; decide +kernel⟩
/-- A vault in SERVE on a formed ring of three, both ports up. -/
def wRing : State := withFlds { wServe with ring := { RingSt.reset with formed := true, firstSync := false } }
  [(RNG_CTL_ENABLE, 1), (RNE_CTL_ENABLE, 1), (RNE_CTL_ENABLE.inst 1, 1), (RNE_STAT_LINK, 1), (RNE_STAT_LINK.inst 1, 1), (RNG_STAT_MEMBERS, 3)]
/-- A frame of vault 9 for all, as it comes in at a port. -/
def wFrame : FrameHdr := { ownHdr wRing 0 with origin := 9, seq := 7 }
def wOwnFrame : FrameHdr := ownHdr wRing 0
def wPhase (n : Nat) : State := { wRing with ring := { RingSt.reset with phase := n, lapAt := 0 }, now := 4800 }
def wFormationFindsMasterAndNumbers1 : State := { wRing with ring := RingSt.reset }
theorem witness_FormationFindsMasterAndNumbers_1 : ∃ (s : State), ringOn s = true ∧ s.vault ≠ .alley ∧ portSettled s .east = true ∧
    portSettled s .west = true := ⟨wFormationFindsMasterAndNumbers1, by decide +kernel⟩
theorem witness_FormationFindsMasterAndNumbers_3 : ∃ (p : RingPort) (f : FrameHdr) (lo : Word) (n : BitVec 16) (s : State),
    FreshFrame s p f ∧ f.dest = 0 ∧ lo.toNat < (vaultId s).toNat ∧ s.ring.fwdLowest = none ∧ PortOpen s (otherPort p) := ⟨.west,
    wFrame, 4, 2, wRing, by unfold FreshFrame GoodFrame PortOpen Transmits; decide +kernel⟩
theorem witness_FormationFindsMasterAndNumbers_4 : ∃ (p : RingPort) (f : FrameHdr) (lo : Word) (n : BitVec 16) (s : State),
    FreshFrame s p f ∧ (vaultId s).toNat ≤ lo.toNat := ⟨.east, wFrame, 5, 2, wRing, by unfold FreshFrame GoodFrame; decide +kernel⟩
def wFormationFindsMasterAndNumbers5 : State := wPhase 1
theorem witness_FormationFindsMasterAndNumbers_5 : ∃ (p : RingPort) (f : FrameHdr) (n : BitVec 16) (s : State), OwnFrameBack s p f ∧
    s.ring.phase = 1 ∧ n ≠ 1 ∧ PortOpen s .east := ⟨.west, wOwnFrame, 3, wFormationFindsMasterAndNumbers5,
    by unfold OwnFrameBack GoodFrame PortOpen Transmits; decide +kernel⟩
def wFormationFindsMasterAndNumbers6 : State := wPhase 1
theorem witness_FormationFindsMasterAndNumbers_6 : ∃ (p : RingPort) (f : FrameHdr) (s : State), OwnFrameBack s p f ∧ s.ring.phase =
    1 := ⟨.west, wOwnFrame, wFormationFindsMasterAndNumbers6, by unfold OwnFrameBack GoodFrame; decide +kernel⟩
def wFormationFindsMasterAndNumbers7 : State := wPhase 3
theorem witness_FormationFindsMasterAndNumbers_7 : ∃ (s : State), s.ring.phase ≠ 0 := ⟨wFormationFindsMasterAndNumbers7,
    by decide +kernel⟩
theorem witness_FormationFindsMasterAndNumbers_8 : ∃ (q : Requester) (s : State), canWrite s q 0x90 = true := ⟨.core, wRing,
    by decide +kernel⟩
theorem witness_FormationFindsMasterAndNumbers_10 : ∃ (p : RingPort) (f : FrameHdr) (m : Word) (n hop : BitVec 16) (s : State),
    FreshFrame s p f ∧ n.toNat < 2 ^ 13 ∧ hop.toNat + 1 < 2 ^ 12 := ⟨.west, wFrame, 4, 8191, 4094, wRing,
    by unfold FreshFrame GoodFrame; decide +kernel⟩
def wFormationFindsMasterAndNumbers11 : State := wPhase 2
theorem witness_FormationFindsMasterAndNumbers_11 : ∃ (p : RingPort) (f : FrameHdr) (m : Word) (n hop : BitVec 16) (s : State),
    OwnFrameBack s p f ∧ s.ring.phase = 2 ∧ n.toNat < 2 ^ 13 ∧ PortOpen s .east := ⟨.west, wOwnFrame, 5, 8191, 2,
    wFormationFindsMasterAndNumbers11, by unfold OwnFrameBack GoodFrame PortOpen Transmits; decide +kernel⟩
theorem witness_FormationFindsMasterAndNumbers_12 : ∃ (p : RingPort) (f : FrameHdr) (m : Word) (s : State), FreshFrame s p f :=
    ⟨.west, wFrame, 4, wRing, by unfold FreshFrame GoodFrame; decide +kernel⟩
def wFormationFindsMasterAndNumbers13 : State := wPhase 3
theorem witness_FormationFindsMasterAndNumbers_13 : ∃ (p : RingPort) (f : FrameHdr) (m : Word) (s : State), OwnFrameBack s p f ∧
    s.ring.phase = 3 := ⟨.west, wOwnFrame, 5, wFormationFindsMasterAndNumbers13, by unfold OwnFrameBack GoodFrame; decide +kernel⟩
def wFormationFindsMasterAndNumbers2 : State := withFlds wRing [(RNE_STAT_LINK.inst 1, 0), (RNE_STAT_WRAPPED.inst 1, 1)]
theorem witness_FormationFindsMasterAndNumbers_2 : ∃ (s : State), ringOn s = true ∧ s.vault ≠ .alley ∧ portSettled s .east = true ∧
    portSettled s .west = true ∧ s.ring.formed = true := ⟨wFormationFindsMasterAndNumbers2, by decide +kernel⟩
def wFormationFindsMasterAndNumbers9 : State := wPhase 2
theorem witness_FormationFindsMasterAndNumbers_9 : ∃ (s : State), ringOn s = true ∧ s.vault ≠ .alley ∧ PortOpen s .east :=
    ⟨wFormationFindsMasterAndNumbers9, by unfold PortOpen Transmits; decide +kernel⟩
def wHello : HelloBody := { state := 4, master := 4, wrappedPort := false, fwdOk := true, neighParked := false }
theorem witness_HellosBeaconsAndPortEventsWrap_1 : ∃ (p : RingPort) (f : FrameHdr) (b : HelloBody) (s : State), s.vault ≠ .alley ∧
    FreshFrame s p f ∧ b.state ≠ 7 ∧ ((portSt s p).former = 0 ∨ (portSt s p).former = f.origin) := ⟨.east, wFrame, { wHello with
    state := 15, fwdOk := false }, wRing, by unfold FreshFrame GoodFrame; decide +kernel⟩
def wSeen : State := setPortSt wRing .east { PortSt.reset with helloSeen := true, former := 9 }
theorem witness_HellosBeaconsAndPortEventsWrap_2 : ∃ (p : RingPort) (f : FrameHdr) (b : HelloBody) (s : State), s.vault ≠ .alley ∧
    FreshFrame s p f ∧ b.state ≠ 7 ∧ ((portSt s p).former = 0 ∨ (portSt s p).former = f.origin) ∧ b.fwdOk = true ∧ b.wrappedPort =
    false ∧ s.ring.formed = true ∧ solitary s = false ∧ (portSt s p).helloSeen = true := ⟨.east, wFrame, wHello, wSeen,
    by unfold FreshFrame GoodFrame; decide +kernel⟩
theorem witness_HellosBeaconsAndPortEventsWrap_3 : ∃ (p : RingPort) (s : State), ringOn s = true ∧ s.vault ≠ .alley ∧ flag s
    (portFld p RNE_CTL_ENABLE) = true ∧ portLink s p = true := ⟨.west, wRing, by decide +kernel⟩
theorem witness_HellosBeaconsAndPortEventsWrap_4 : ∃ (p : RingPort) (s : State), ringOn s = true ∧ s.vault ≠ .alley ∧ flag s
    (portFld p RNE_CTL_ENABLE) = true := ⟨.east, wSeen, by decide +kernel⟩
theorem witness_HellosBeaconsAndPortEventsWrap_6 : ∃ (p : RingPort) (s : State), aoUp s = true ∧ flag s (portFld p RNE_CTL_ENABLE) =
    true := ⟨.east, wSeen, by decide +kernel⟩
def wWrapped : State := withFlds (setPortSt wRing .east { PortSt.reset with helloSeen := true, former := 9, neighFwdOk := true }) [(RNE_STAT_WRAPPED, 1)]
theorem witness_HellosBeaconsAndPortEventsWrap_8 : ∃ (p : RingPort) (s : State), ringOn s = true ∧ portWrapped s p = true ∧ (portSt
    s p).helloSeen = true ∧ (portSt s p).neighFwdOk = true ∧ (portSt s p).neighWrap = false ∧ portLink s p = true ∧ flag s (portFld
    p RNE_CTL_WRAP_FORCE) = false ∧ flag s (portFld p RNE_STAT_NEIGH_PARKED) = false ∧ flag s (portFld p RNE_STAT_LOS) = false ∧
    solitary s = false := ⟨.east, wWrapped, by decide +kernel⟩
theorem witness_HellosBeaconsAndPortEventsWrap_10 : ∃ (q : Requester) (p : RingPort) (v : Word) (s : State), canWrite s q (portFld p
    RNE_CTL_ENABLE).page = true ∧ flag s (portFld p RNE_CTL_ENABLE) = true ∧ bitAt v.toNat 0 = true ∧ bitAt v.toNat 1 = true ∧ flag
    s (portFld p RNE_CTL_WRAP_FORCE) = false := ⟨.core, .west, 3, wRing, by decide +kernel⟩
def wHellosBeaconsAndPortEventsWrap12 : State := withFlds wRing [(RNE_STAT_LINK, 0)]
theorem witness_HellosBeaconsAndPortEventsWrap_12 : ∃ (p : RingPort) (rate : BitVec 2) (s : State), aoUp s = true ∧ flag s (portFld
    p RNE_CTL_ENABLE) = true ∧ (rate = 1 ∨ rate = 2) ∧ s.vault ≠ .alley ∧ solitary s = false := ⟨.east, 2,
    wHellosBeaconsAndPortEventsWrap12, by decide +kernel⟩
theorem witness_HellosBeaconsAndPortEventsWrap_12b : ∃ (p : RingPort) (rate : BitVec 2) (s : State), aoUp s = true ∧ flag s (portFld
    p RNE_CTL_ENABLE) = true ∧ (rate = 1 ∨ rate = 2) ∧ s.vault ≠ .alley ∧ solitary s = false := ⟨.west, 1, wRing, by decide +kernel⟩
theorem witness_HellosBeaconsAndPortEventsWrap_13 : ∃ (p : RingPort) (s : State) (x : PortSt), x = portSt s p ∧ portWrapped s p =
    true := ⟨.east, wWrapped, portSt wWrapped .east, by decide +kernel⟩
def wSolitary : State := withFlds wRing [(RNG_STAT_TOPO, 5)]
theorem witness_HellosBeaconsAndPortEventsWrap_14 : ∃ (s : State), s.vault ≠ .alley ∧ solitary s = true ∧ ringOn s = true ∧ flag s
    RNE_CTL_ENABLE = true ∧ flag s (portFld .west RNE_CTL_ENABLE) = true ∧ portLink s .east = true ∧ portLink s .west = true :=
    ⟨wSolitary, by decide +kernel⟩
theorem witness_HellosBeaconsAndPortEventsWrap_15 : ∃ (p : RingPort) (f : FrameHdr) (id pt : Word) (s : State), s.vault ≠ .alley ∧
    FreshFrame s p f ∧ solitary s = true ∧ id ≠ vaultId s ∧ (flag s RNE_STAT_STABLE && flag s (portFld .west RNE_STAT_STABLE)) =
    false := ⟨.west, wFrame, 9, 0, wSolitary, by unfold FreshFrame GoodFrame; decide +kernel⟩
def wAlley : State := { wRing with vault := .alley, pins := { Pins.boot with kerbHold := true }, ring := { RingSt.reset with awake := true } }
theorem witness_HellosBeaconsAndPortEventsWrap_16 : ∃ (p : RingPort) (f : FrameHdr) (id pt : Word) (s : State), s.vault = .alley ∧
    FreshFrame s p f := ⟨.east, wFrame, 9, 0, wAlley, by unfold FreshFrame GoodFrame; decide +kernel⟩
def wHellosBeaconsAndPortEventsWrap5 : State := withFlds wSeen [(RNE_STAT_WRAPPED, 1), (FLT_CLASS_SRC 0x91 1, 1)]
theorem witness_HellosBeaconsAndPortEventsWrap_5 : ∃ (p : RingPort) (s : State), ringOn s = true ∧ s.vault ≠ .alley ∧ flag s
    (portFld p RNE_CTL_ENABLE) = true ∧ portWrapped s p = true ∧ LogsOnly s (srcPort p 1) := ⟨.east,
    wHellosBeaconsAndPortEventsWrap5, by unfold LogsOnly; decide +kernel⟩
def wHellosBeaconsAndPortEventsWrap7 : State := withFlds wSeen [(RNE_STAT_WRAPPED.inst 1, 1), (FLT_CLASS_SRC 0x92 0, 1)]
theorem witness_HellosBeaconsAndPortEventsWrap_7 : ∃ (p : RingPort) (s : State), flag s (portFld p RNE_CTL_ENABLE) = true ∧
    portWrapped s p = true ∧ LogsOnly s (srcPort p 0) := ⟨.west, wHellosBeaconsAndPortEventsWrap7,
    by unfold LogsOnly; decide +kernel⟩
def wHellosBeaconsAndPortEventsWrap9 : State := withFlds wRing [(RNE_CTL_ENABLE.inst 1, 0)]
theorem witness_HellosBeaconsAndPortEventsWrap_9 : ∃ (q : Requester) (p : RingPort) (v : Word) (s : State), canWrite s q (portFld p
    RNE_CTL_ENABLE).page = true ∧ bitAt v.toNat 0 = true ∧ flag s (portFld p RNE_CTL_ENABLE) = false ∧ bitAt v.toNat 1 = flag s
    (portFld p RNE_CTL_WRAP_FORCE) := ⟨.core, .west, 1, wHellosBeaconsAndPortEventsWrap9, by decide +kernel⟩
theorem witness_HellosBeaconsAndPortEventsWrap_11 : ∃ (q : Requester) (p : RingPort) (v : Word) (s : State), canWrite s q (portFld p
    RNE_CTL_ENABLE).page = true ∧ flag s (portFld p RNE_CTL_ENABLE) = true ∧ bitAt v.toNat 1 = flag s (portFld p RNE_CTL_WRAP_FORCE)
    := ⟨.core, .east, 0, wRing, by decide +kernel⟩
def wHellosBeaconsAndPortEventsWrap11b : State := withFlds wRing [(RNE_CTL_WRAP_FORCE.inst 1, 1)]
theorem witness_HellosBeaconsAndPortEventsWrap_11b : ∃ (q : Requester) (p : RingPort) (v : Word) (s : State), canWrite s q (portFld
    p RNE_CTL_ENABLE).page = true ∧ flag s (portFld p RNE_CTL_ENABLE) = true ∧ bitAt v.toNat 1 = flag s (portFld p
    RNE_CTL_WRAP_FORCE) := ⟨.pcie, .west, 3, wHellosBeaconsAndPortEventsWrap11b, by decide +kernel⟩
theorem witness_RingFramesAreDeliveredOnceAndMerged_1 : ∃ (p : RingPort) (f : FrameHdr) (x : Word) (e : Bool) (s : State), (ringOn s
    = false ∨ portLink s p = false) := ⟨.east, wFrame, 3, true, wServe, by decide +kernel⟩
def wRingFramesAreDeliveredOnceAndMerged1b : State := withFlds wRing [(RNE_STAT_LINK.inst 1, 0)]
theorem witness_RingFramesAreDeliveredOnceAndMerged_1b : ∃ (p : RingPort) (f : FrameHdr) (x : Word) (e : Bool) (s : State), (ringOn
    s = false ∨ portLink s p = false) := ⟨.west, wFrame, 3, true, wRingFramesAreDeliveredOnceAndMerged1b, by decide +kernel⟩
theorem witness_RingFramesAreDeliveredOnceAndMerged_2 : ∃ (p : RingPort) (f : FrameHdr) (x : Word) (e : Bool) (s : State), GoodFrame
    s p { f with fcsOk := true } ∧ f.fcsOk = false := ⟨.east, { wFrame with fcsOk := false }, 3, true, wRing,
    by unfold GoodFrame; decide +kernel⟩
theorem witness_RingFramesAreDeliveredOnceAndMerged_3 : ∃ (p : RingPort) (f : FrameHdr) (x : Word) (e : Bool) (pod : BitVec 32) (s :
    State), GoodFrame s p { f with podId := pod } ∧ f.podId ≠ pod := ⟨.east, { wFrame with podId := 6 }, 3, true, 0, wRing,
    by unfold GoodFrame; decide +kernel⟩
theorem witness_RingFramesAreDeliveredOnceAndMerged_4 : ∃ (p : RingPort) (f : FrameHdr) (x : Word) (e : Bool) (s : State), GoodFrame
    s p { f with hops := 0 } ∧ 8192 ≤ f.hops.toNat := ⟨.west, { wFrame with hops := 8192 }, 3, true, wRing,
    by unfold GoodFrame; decide +kernel⟩
def wDup : State := { wRing with ring := { RingSt.reset with dups := [⟨9, 0, 71, [71]⟩] } }
theorem witness_RingFramesAreDeliveredOnceAndMerged_5 : ∃ (p : RingPort) (f : FrameHdr) (x : Word) (e : Bool) (s : State), GoodFrame
    s p f ∧ f.origin ≠ vaultId s ∧ isDup s f = true ∧ f.dest = vaultId s ∧ f.dest ≠ 0 := ⟨.west, { wFrame with dest := 5 }, 3, true,
    wDup, by unfold GoodFrame; decide +kernel⟩
theorem witness_RingFramesAreDeliveredOnceAndMerged_6 : ∃ (p : RingPort) (f : FrameHdr) (x : Word) (e : Bool) (s : State),
    OwnFrameBack s p f := ⟨.west, wOwnFrame, 3, true, wRing, by unfold OwnFrameBack GoodFrame; decide +kernel⟩
theorem witness_RingFramesAreDeliveredOnceAndMerged_7 : ∃ (p : RingPort) (f : FrameHdr) (x : Word) (e : Bool) (s : State),
    FreshFrame s p f ∧ f.dest = 0 ∧ PortOpen s (otherPort p) ∧ s.ring.losts.contains (x, !e) = false ∧ (x, e) ∉ s.ring.losts ∧
    ((dupWin s f).seen = [] → (dupWin s f).high = 0) := ⟨.east, { wFrame with seq := 8 }, 3, false, wDup,
    by unfold FreshFrame GoodFrame PortOpen Transmits; decide +kernel⟩
theorem witness_RingFramesAreDeliveredOnceAndMerged_7b : ∃ (p : RingPort) (f : FrameHdr) (x : Word) (e : Bool) (s : State),
    FreshFrame s p f ∧ f.dest = 0 ∧ PortOpen s (otherPort p) ∧ s.ring.losts.contains (x, !e) = false ∧ (x, e) ∉ s.ring.losts ∧
    ((dupWin s f).seen = [] → (dupWin s f).high = 0) := ⟨.west, { wFrame with hops := 8191 }, 3, true, wRing,
    by unfold FreshFrame GoodFrame PortOpen Transmits; decide +kernel⟩
def wEntry : RegEntry := { vaultId := 9, partnerId := 8, g := 7, t := 6, state := 4, flags := 0, hop := 1 }
theorem witness_RingFramesAreDeliveredOnceAndMerged_8 : ∃ (p : RingPort) (f : FrameHdr) (e : RegEntry) (s : State), FreshFrame s p f
    := ⟨.west, wFrame, wEntry, wRing, by unfold FreshFrame GoodFrame; decide +kernel⟩
def wReg : State := { wRing with ring := { RingSt.reset with registry := [wEntry] } }
theorem witness_RingFramesAreDeliveredOnceAndMerged_10 : ∃ (e old : RegEntry) (s : State), registryFind s e.vaultId = some old := ⟨{
    wEntry with g := 9, t := 5 }, wEntry, wReg, by decide +kernel⟩
theorem witness_RingFramesAreDeliveredOnceAndMerged_10b : ∃ (e old : RegEntry) (s : State), registryFind s e.vaultId = some old :=
    ⟨{ wEntry with g := 5, t := 5, flags := 4, hop := 3 }, wEntry, wReg, by decide +kernel⟩
theorem witness_RingFramesAreDeliveredOnceAndMerged_10c : ∃ (e old : RegEntry) (s : State), registryFind s e.vaultId = some old :=
    ⟨{ wEntry with g := 5, t := 9, flags := 12, hop := 3 }, wEntry, wReg, by decide +kernel⟩
theorem witness_RingFramesAreDeliveredOnceAndMerged_11 : ∃ (s : State), ringOn s = true ∧ s.vault ≠ .fenced ∧ s.vault ≠ .sealed ∧
    PortOpen s .east := ⟨wRing, by unfold PortOpen Transmits; decide +kernel⟩
def wRingFramesAreDeliveredOnceAndMerged12 : State :=
  withFlds { wRing with vault := .join, psg := { PsgSt.reset with genSeen := true } } [(PSG_STAT_STATE, 2)]
theorem witness_RingFramesAreDeliveredOnceAndMerged_12 : ∃ (s : State), s.vault = .join ∧ dataUp s = true ∧ psgUp s = true ∧
    s.psg.genSeen = true ∧ s.ring.formed = true ∧ registryFind s Config.partnerId = none := ⟨wRingFramesAreDeliveredOnceAndMerged12,
    by decide +kernel⟩
def wOtherId (c : Word) : Word := if c = 9 then 10 else 9
theorem wOtherId_ne (c : Word) : wOtherId c ≠ 5 ∧ wOtherId c ≠ c := by
  unfold wOtherId
  split
  · rename_i h; subst h; decide
  · rename_i h; exact ⟨by decide, fun e => h e.symm⟩
def wUnformed : State := { wRing with ring := RingSt.reset }
theorem wUnformed_id : vaultId wUnformed = 5 := by decide +kernel
theorem witness_RingFramesAreDeliveredOnceAndMerged_9 : ∃ (p : RingPort) (f : FrameHdr) (e : RegEntry) (s : State), FreshFrame s p f
    ∧ s.ring.formed = false ∧ e.vaultId ≠ vaultId s ∧ e.vaultId ≠ Config.partnerId ∧ e.state ≠ 10 ∧ e.state ≠ 11 := ⟨.west, wFrame,
    { wEntry with vaultId := wOtherId Config.partnerId }, wUnformed,
    by refine ⟨?_, by decide +kernel, ?_, (wOtherId_ne Config.partnerId).2, by decide, by decide⟩; (unfold FreshFrame GoodFrame; decide +kernel); (intro h; exact (wOtherId_ne Config.partnerId).1 (h.trans wUnformed_id))⟩
theorem witness_RingTimeIsMeasuredAndSteered_1 : ∃ (p : RingPort) (f : FrameHdr) (t1 t2 t3 : Nat) (s : State), FreshFrame s p f ∧
    Transmits s p := ⟨.east, wFrame, 1, 2, 3, wRing, by unfold FreshFrame GoodFrame Transmits; decide +kernel⟩
def wRingTimeIsMeasuredAndSteered2 : State := setPortSt wRing .east { PortSt.reset with delays := [1, 2, 3, 4] }
theorem witness_RingTimeIsMeasuredAndSteered_2 : ∃ (p : RingPort) (f : FrameHdr) (t1 t2 t3 t4 : Int) (s : State), FreshFrame s p f
    := ⟨.east, wFrame, 1000, 5000, 6000, 8000, wRingTimeIsMeasuredAndSteered2, by unfold FreshFrame GoodFrame; decide +kernel⟩
def wMaster : State := withFlds wRing [(RNG_STAT_MASTER, 1)]
theorem witness_RingTimeIsMeasuredAndSteered_3 : ∃ (s : State), ringOn s = true ∧ s.ring.formed = true ∧ flag s RNG_STAT_MASTER =
    true ∧ solitary s = false ∧ PortOpen s .east := ⟨wMaster, by unfold PortOpen Transmits; decide +kernel⟩
def wSync : SyncBody := { t0 := 50000, corr := 70, closure := 900, n := 3, census := 0, residence := 20 }
def wRingTimeIsMeasuredAndSteered4 : State := { wRing with pod := 48 * 50000 }
theorem witness_RingTimeIsMeasuredAndSteered_4 : ∃ (p : RingPort) (f : FrameHdr) (b : SyncBody) (s : State), FreshFrame s p f ∧ flag
    s RNG_STAT_MASTER = false ∧ b.n ≠ 0 ∧ (let e := (b.t0.toNat : Int) * 1000 + b.corr + toSigned 32 (fld s (portFld p
    RNE_DELAY_MEAN)) - (fld s RNG_STAT_HOP : Int) * b.closure / b.n.toNat - podPs s; e.natAbs ≤ fld s TIME_CFG_STEP_NS * 1000 ∨
    s.ring.firstSync = true) := ⟨.west, wFrame, wSync, wRingTimeIsMeasuredAndSteered4,
    by unfold FreshFrame GoodFrame; decide +kernel⟩
def wRingTimeIsMeasuredAndSteered4b : State := { wRing with ring := RingSt.reset }
theorem witness_RingTimeIsMeasuredAndSteered_4b : ∃ (p : RingPort) (f : FrameHdr) (b : SyncBody) (s : State), FreshFrame s p f ∧
    flag s RNG_STAT_MASTER = false ∧ b.n ≠ 0 ∧ (let e := (b.t0.toNat : Int) * 1000 + b.corr + toSigned 32 (fld s (portFld p
    RNE_DELAY_MEAN)) - (fld s RNG_STAT_HOP : Int) * b.closure / b.n.toNat - podPs s; e.natAbs ≤ fld s TIME_CFG_STEP_NS * 1000 ∨
    s.ring.firstSync = true) := ⟨.west, wFrame, wSync, wRingTimeIsMeasuredAndSteered4b,
    by unfold FreshFrame GoodFrame; decide +kernel⟩
theorem witness_RingTimeIsMeasuredAndSteered_5 : ∃ (s : State), ringOn s = true ∧ flag s RNG_STAT_MASTER = false ∧ flag s
    TIME_STAT_HOLDOVER = false := ⟨wRing, by decide +kernel⟩
theorem witness_RingTimeIsMeasuredAndSteered_6 : ∃ (q : Requester) (v : Word) (s : State), canWrite s q 0x94 = true ∧ flag s
    RNG_STAT_MASTER = true ∧ censusBusy s = false := ⟨.core, 77, wMaster, by decide +kernel⟩
theorem witness_RingTimeIsMeasuredAndSteered_7 : ∃ (q : Requester) (v : Word) (s : State), canWrite s q 0x94 = true ∧ (flag s
    RNG_STAT_MASTER = false ∨ censusBusy s = true) := ⟨.core, 77, wRing, by decide +kernel⟩
def wRingTimeIsMeasuredAndSteered7b : State := withFlds wMaster [(CEN_STAT_STATE, 3)]
theorem witness_RingTimeIsMeasuredAndSteered_7b : ∃ (q : Requester) (v : Word) (s : State), canWrite s q 0x94 = true ∧ (flag s
    RNG_STAT_MASTER = false ∨ censusBusy s = true) := ⟨.core, 77, wRingTimeIsMeasuredAndSteered7b, by decide +kernel⟩
def wAsleep : State := { wAlley with ring := RingSt.reset, pins := { Pins.boot with kerbHold := true, enMr := false, pgMr := false } }
theorem witness_RendezvousWakesExchangesAndEnds_1 : ∃ (s : State), s.vault = .alley ∧ aoUp s = true ∧ logicFailed s = false ∧
    s.ring.awake = false := ⟨wAsleep, by decide +kernel⟩
def wRendezvousWakesExchangesAndEnds2 : State :=
  { wAsleep with pins := { Pins.boot with pgMr := false }, flt := { FltSt.reset with held := [(srcNo 8 0, false)] } }
theorem witness_RendezvousWakesExchangesAndEnds_2 : ∃ (s : State), s.vault = .alley ∧ logicFailed s = false ∧ s.pins.enMr = true ∧
    s.pins.pgMr = false := ⟨wRendezvousWakesExchangesAndEnds2, by decide +kernel⟩
theorem witness_RendezvousWakesExchangesAndEnds_4 : ∃ (p : RingPort) (s : State), inRendezvous s = true ∧ flag s (portFld p
    RNE_CTL_ENABLE) = true ∧ portLink s p = true ∧ (portSt s p).rdvDone = false ∧ Transmits s p := ⟨.west, wAlley,
    by unfold Transmits; decide +kernel⟩
def wRdv : RdvBody := { sender := 9, podTime := 100, age := 0, entries := [wEntry], missed := [] }
theorem witness_RendezvousWakesExchangesAndEnds_5 : ∃ (p : RingPort) (f : FrameHdr) (b : RdvBody) (s : State), s.vault = .alley ∧
    FreshFrame s p f := ⟨.east, wFrame, wRdv, wAlley, by unfold FreshFrame GoodFrame; decide +kernel⟩
theorem witness_RendezvousWakesExchangesAndEnds_7 : ∃ (p : RingPort) (f : FrameHdr) (b : RdvBody) (s : State), s.vault ≠ .alley ∧
    FreshFrame s p f := ⟨.east, wFrame, wRdv, wRing, by unfold FreshFrame GoodFrame; decide +kernel⟩
def wRendezvousWakesExchangesAndEnds8 : State := withFlds wRing [(RNE_STAT_NEIGH_PARKED.inst 1, 1)]
theorem witness_RendezvousWakesExchangesAndEnds_8 : ∃ (p : RingPort) (b : RdvBody) (s : State), ringOn s = true ∧ s.vault ≠ .alley ∧
    flag s (portFld p RNE_CTL_ENABLE) = true ∧ flag s (portFld p RNE_STAT_NEIGH_PARKED) = true ∧ b.entries = [] ∧ b.missed = [] :=
    ⟨.west, { wRdv with entries := [] }, wRendezvousWakesExchangesAndEnds8, by decide +kernel⟩
def wBothDone : State := { wAlley with ring := { RingSt.reset with awake := true, east := { PortSt.reset with rdvDone := true }, west := { PortSt.reset with rdvDone := true } } }
theorem witness_RendezvousWakesExchangesAndEnds_9 : ∃ (s : State), inRendezvous s = true ∧ (portSt s .east).rdvDone = true ∧ (portSt
    s .west).rdvDone = true ∧ flag s MEAS_STAT_SHIP_PENDING = false ∧ (∀ p, fld s (portFld p RNE_RDV_MODE) ≠ 1) := ⟨wBothDone,
    by refine ⟨?_, ?_, ?_, ?_, ?_⟩ <;> first | decide +kernel | (intro p; cases p <;> decide +kernel)⟩
def wRendezvousWakesExchangesAndEnds10 : State := withFlds wAlley [(RNE_RDV_MISSES.inst 1, 255)]
theorem witness_RendezvousWakesExchangesAndEnds_10 : ∃ (p : RingPort) (s : State), (portSt s p).rdvDone = false ∧ fld s (portFld p
    RNE_RDV_MODE) = 0 ∧ flag s (portFld p RNE_CTL_ENABLE) = true := ⟨.west, wRendezvousWakesExchangesAndEnds10, by decide +kernel⟩
def wRendezvousWakesExchangesAndEnds10b : State := withFlds wAlley [(RNE_RDV_MISSES, 2)]
theorem witness_RendezvousWakesExchangesAndEnds_10b : ∃ (p : RingPort) (s : State), (portSt s p).rdvDone = false ∧ fld s (portFld p
    RNE_RDV_MODE) = 0 ∧ flag s (portFld p RNE_CTL_ENABLE) = true := ⟨.east, wRendezvousWakesExchangesAndEnds10b, by decide +kernel⟩
def wRendezvousWakesExchangesAndEnds11 : State := withFlds wAlley [(RNE_RDV_MODE.inst 1, 1)]
theorem witness_RendezvousWakesExchangesAndEnds_11 : ∃ (p : RingPort) (s : State), inRendezvous s = true ∧ fld s (portFld p
    RNE_RDV_MODE) = 1 ∧ fld s (portFld (otherPort p) RNE_RDV_MODE) ≠ 1 := ⟨.west, wRendezvousWakesExchangesAndEnds11,
    by decide +kernel⟩
def wRendezvousWakesExchangesAndEnds3 : State :=
  { wAlley with ring := { RingSt.reset with awake := true, west := { PortSt.reset with rateErr := true } } }
theorem witness_RendezvousWakesExchangesAndEnds_3 : ∃ (p : RingPort) (s : State), inRendezvous s = true ∧ flag s (portFld p
    RNE_CTL_ENABLE) = true ∧ portLink s p = true ∧ (portSt s p).rdvDone = false ∧ (portSt s p).rateErr = true := ⟨.west,
    wRendezvousWakesExchangesAndEnds3, by decide +kernel⟩
theorem witness_RendezvousWakesExchangesAndEnds_6 : ∃ (p : RingPort) (f : FrameHdr) (b : RdvBody) (s : State), s.vault = .alley ∧
    FreshFrame s p f ∧ b.entries = [] ∧ b.missed = [] ∧ (portSt s (otherPort p)).rdvDone = false := ⟨.east, wFrame, { wRdv with
    entries := [] }, wAlley, by unfold FreshFrame GoodFrame; decide +kernel⟩
def wCensusArmsCutsAndPasses1 : State := setReg wMaster CEN_T_T.reg (BitVec.ofNat 64 (fld wMaster CEN_CFG_LEAD_MS * 1000000))
theorem witness_CensusArmsCutsAndPasses_1 : ∃ (q : Requester) (s : State), canWrite s q 0x93 = true ∧ flag s RNG_STAT_MASTER = true
    ∧ accepts s 0x93 = true ∧ armBusy s = false ∧ podNs s + fld s CEN_CFG_LEAD_MS * 1000000 ≤ (getReg s CEN_T_T.reg).toNat ∧ podNs s
    < (getReg s CEN_T_T.reg).toNat ∧ (s.vault = .serve ∨ s.vault = .restore) ∧ fld s CEN_STAT_STATE = 0 ∧ snapLines s ≤ 2 ^ 29 ∧
    PortOpen s .east ∧ flag s RNG_CTL_ENABLE = true := ⟨.core, wCensusArmsCutsAndPasses1,
    by unfold PortOpen Transmits; decide +kernel⟩
theorem witness_CensusArmsCutsAndPasses_2 : ∃ (q : Requester) (s : State), canWrite s q 0x93 = true ∧ (flag s RNG_STAT_MASTER =
    false ∨ armBusy s = true ∨ (getReg s CEN_T_T.reg).toNat < podNs s + fld s CEN_CFG_LEAD_MS * 1000000) := ⟨.core, wMaster,
    by decide +kernel⟩
def wCensusArmsCutsAndPasses2b : State := setReg wRing CEN_T_T.reg 100000000000
theorem witness_CensusArmsCutsAndPasses_2b : ∃ (q : Requester) (s : State), canWrite s q 0x93 = true ∧ (flag s RNG_STAT_MASTER =
    false ∨ armBusy s = true ∨ (getReg s CEN_T_T.reg).toNat < podNs s + fld s CEN_CFG_LEAD_MS * 1000000) := ⟨.core,
    wCensusArmsCutsAndPasses2b, by decide +kernel⟩
def wArmed : State := { wMaster with cen := { CenSt.reset with armed := some (5, 1000), master := true, snap := true, filled := true } }
theorem witness_CensusArmsCutsAndPasses_2c : ∃ (q : Requester) (s : State), canWrite s q 0x93 = true ∧ (flag s RNG_STAT_MASTER =
    false ∨ armBusy s = true ∨ (getReg s CEN_T_T.reg).toNat < podNs s + fld s CEN_CFG_LEAD_MS * 1000000) := ⟨.core, wArmed,
    by decide +kernel⟩
theorem witness_CensusArmsCutsAndPasses_3 : ∃ (c : BitVec 32) (x : Word) (s : State), s.cen.armed = some (c, x) ∧ s.cen.master =
    true ∧ ringOn s = true ∧ PortOpen s .east := ⟨5, 1000, wArmed, by unfold PortOpen Transmits; decide +kernel⟩
theorem witness_CensusArmsCutsAndPasses_4 : ∃ (p : RingPort) (f : FrameHdr) (c : BitVec 32) (x : Word) (s : State), FreshFrame s p f
    ∧ fld s CEN_STAT_NUMBER ≠ c.toNat ∧ x.toNat ≤ podNs s := ⟨.west, wFrame, 7, 0, wRing,
    by unfold FreshFrame GoodFrame; decide +kernel⟩
def wCensusArmsCutsAndPasses5 : State := { wRing with vault := .join }
theorem witness_CensusArmsCutsAndPasses_5 : ∃ (p : RingPort) (f : FrameHdr) (c : BitVec 32) (x : Word) (s : State), FreshFrame s p f
    ∧ fld s CEN_STAT_NUMBER ≠ c.toNat ∧ podNs s < x.toNat ∧ (s.vault ≠ .serve ∧ s.vault ≠ .restore ∨ fld s CEN_STAT_STATE ≠ 0 ∨ 2 ^
    29 < snapLines s) := ⟨.west, wFrame, 7, 1, wCensusArmsCutsAndPasses5, by unfold FreshFrame GoodFrame; decide +kernel⟩
def wCensusArmsCutsAndPasses5b : State := withFlds wRing [(CEN_STAT_STATE, 4)]
theorem witness_CensusArmsCutsAndPasses_5b : ∃ (p : RingPort) (f : FrameHdr) (c : BitVec 32) (x : Word) (s : State), FreshFrame s p
    f ∧ fld s CEN_STAT_NUMBER ≠ c.toNat ∧ podNs s < x.toNat ∧ (s.vault ≠ .serve ∧ s.vault ≠ .restore ∨ fld s CEN_STAT_STATE ≠ 0 ∨ 2
    ^ 29 < snapLines s) := ⟨.west, wFrame, 7, 1, wCensusArmsCutsAndPasses5b, by unfold FreshFrame GoodFrame; decide +kernel⟩
theorem witness_CensusArmsCutsAndPasses_6 : ∃ (p : RingPort) (f : FrameHdr) (c : BitVec 32) (x : Word) (s : State), FreshFrame s p f
    ∧ fld s CEN_STAT_NUMBER ≠ c.toNat ∧ podNs s < x.toNat ∧ (s.vault = .serve ∨ s.vault = .restore) ∧ fld s CEN_STAT_STATE = 0 ∧
    snapLines s ≤ 2 ^ 29 := ⟨.west, wFrame, 7, 1, wRing, by unfold FreshFrame GoodFrame; decide +kernel⟩
theorem witness_CensusArmsCutsAndPasses_7 : ∃ (c : BitVec 32) (x : Word) (s : State), s.cen.armed = some (c, x) ∧ dataUp s = true ∧
    s.cen.snap = true ∧ s.cen.filled = true := ⟨5, 1000, wArmed, by decide +kernel⟩
def wCensusArmsCutsAndPasses8 : State := { wArmed with cen := { CenSt.reset with armed := some (5, 1000), snap := true } }
theorem witness_CensusArmsCutsAndPasses_8 : ∃ (c : BitVec 32) (x : Word) (s : State), s.cen.armed = some (c, x) ∧ dataUp s = true ∧
    s.cen.snap = true ∧ s.cen.filled = false := ⟨5, 1000, wCensusArmsCutsAndPasses8, by decide +kernel⟩
def wCensusArmsCutsAndPasses9 : State :=
  withFlds { wMaster with cen := { CenSt.reset with snap := true, filled := true } } [(CEN_STAT_STATE, 2)]
theorem witness_CensusArmsCutsAndPasses_9 : ∃ (s : State), dataUp s = true ∧ s.cen.snap = true ∧ s.cen.filled = true ∧ s.cen.armed =
    none ∧ fld s CEN_STAT_STATE = 2 ∧ oldEpochWaits s = false := ⟨wCensusArmsCutsAndPasses9, by decide +kernel⟩
def wCensusArmsCutsAndPasses10 : State := withFlds wRing [(CEN_STAT_STATE, 4)]
theorem witness_CensusArmsCutsAndPasses_10 : ∃ (q : Requester) (s : State), canWrite s q 0x93 = true ∧ fld s CEN_STAT_STATE = 4 :=
    ⟨.core, wCensusArmsCutsAndPasses10, by decide +kernel⟩
theorem witness_CensusArmsCutsAndPasses_11 : ∃ (q : Requester) (s : State), canWrite s q 0x93 = true ∧ fld s CEN_STAT_STATE ≠ 4 :=
    ⟨.core, wRing, by decide +kernel⟩
theorem witness_CensusArmsCutsAndPasses_12 : ∃ (p : RingPort) (f : FrameHdr) (r : BitVec 4) (u : BitVec 32) (s : State), FreshFrame
    s p f ∧ s.cen.master = true ∧ f.origin ∉ s.cen.reports ∧ s.cen.reports.length < 2 ^ 32 - 1 := ⟨.west, wFrame, 2, 0, wArmed,
    by unfold FreshFrame GoodFrame; decide +kernel⟩
theorem witness_CensusArmsCutsAndPasses_13 : ∃ (s : State), s.cen.master = true ∧ ringOn s = true := ⟨wArmed, by decide +kernel⟩
def wSample : PackSample := { v := 15000000, i := 2000000, t := 400, dt := 1000 }
/-- Both packs present, authenticated and counted. -/
def wPack : PackSt := { PackSt.none_ with present := true, counted := true, soc := 1 / 2, ePack := 100000000, lastT := 400, lastV := 15000000 }
def wPacks : State := withFlds { wServe with packA := wPack, packB := wPack } [(PAK_STAT_AUTH, 2), (PAK_STAT_AUTH.inst 1, 2), (PAK_CTL_ENABLE, 1), (PAK_CTL_ENABLE.inst 1, 1), (PAK_CAP_CAP, 10000), (PAK_CAP_CAP.inst 1, 10000), (PAK_STAT_COUNTED, 1), (PAK_STAT_COUNTED.inst 1, 1)]
theorem witness_EstimatorFollowsPackAndBurst_1 : ∃ (a b : PackSample) (s : State), aoUp s = true := ⟨wSample, wSample, wPacks,
    by decide +kernel⟩
theorem witness_EstimatorFollowsPackAndBurst_2 : ∃ (p : PackId) (m : PackSample) (s : State), (getPack s p).present = true ∧ fld s
    (pakF p PAK_CAP_CAP) ≠ 0 ∧ ocvRises s = true ∧ tempWithin s MEAS_TEMP_DIS_LO MEAS_TEMP_DIS_HI m.t = true ∧ fld s (pakF p
    PAK_STAT_LEARN) = 0 := ⟨.b, wSample, wPacks, by decide +kernel⟩
theorem witness_EstimatorFollowsPackAndBurst_2b : ∃ (p : PackId) (m : PackSample) (s : State), (getPack s p).present = true ∧ fld s
    (pakF p PAK_CAP_CAP) ≠ 0 ∧ ocvRises s = true ∧ tempWithin s MEAS_TEMP_DIS_LO MEAS_TEMP_DIS_HI m.t = true ∧ fld s (pakF p
    PAK_STAT_LEARN) = 0 := ⟨.a, { wSample with i := 0, dt := 2000000000 }, wPacks, by decide +kernel⟩
theorem witness_EstimatorFollowsPackAndBurst_4 : ∃ (p : PackId) (v0 i0 v i x : Int) (s : State), aoUp s = true ∧ (getPack s
    p).present = true ∧ i ≠ i0 ∧ tempScale s x ≠ 0 ∧ fld s MEAS_FILT_Z_DIV ≠ 0 := ⟨.a, 15000000, 0, 14000000, 5000000, 400, wPacks,
    by decide +kernel⟩
theorem witness_EstimatorFollowsPackAndBurst_7 : ∃ (p : PackId) (s : State), aoUp s = true := ⟨.b, wPacks, by decide +kernel⟩
theorem witness_EstimatorFollowsPackAndBurst_8 : ∃ (p : PackId) (s : State), aoUp s = true := ⟨.a, wPacks, by decide +kernel⟩
theorem witness_EstimatorFollowsPackAndBurst_3 : ∃ (a b : PackSample) (s : State), aoUp s = true ∧ s.vault ≠ .alley := ⟨wSample,
    wSample, wPacks, by decide +kernel⟩
def wEstimatorFollowsPackAndBurst5 : State := withFlds wPacks [(MEAS_PACK_Z_LIMIT, 65535)]
theorem witness_EstimatorFollowsPackAndBurst_5 : ∃ (p : PackId) (v0 i0 v i x : Int) (s : State), aoUp s = true ∧ (getPack s
    p).present = true ∧ i ≠ i0 ∧ tempScale s x ≠ 0 ∧ fld s MEAS_FILT_Z_DIV ≠ 0 ∧ (let old : Rat := ((fld s (pakF p PAK_IMP_Z25) :
    Nat)); let n := (((v0 - v : Int) : Rat) / ((i - i0 : Int) : Rat) * 10000 / tempScale s x); let z := (min 65535 (Config.roundReg
    (max 0 (old + (n - old) / (fld s MEAS_FILT_Z_DIV : Nat))))); z ≤ fld s MEAS_PACK_Z_LIMIT) := ⟨.b, 15000000, 0, 14000000,
    5000000, 400, wEstimatorFollowsPackAndBurst5,
    ⟨by decide +kernel, by decide +kernel, by decide, by decide +kernel, by decide +kernel, Nat.le_trans (Nat.min_le_left _ _) (by decide +kernel)⟩⟩
theorem witness_EstimatorFollowsPackAndBurst_9 : ∃ (p : PackId) (ok : Bool) (s : State), aoUp s = true := ⟨.b, false, wPacks,
    by decide +kernel⟩
theorem witness_PacksComeGoAndAuthenticate_1 : ∃ (p : PackId) (s : State), aoUp s = true ∧ (getPack s p).present = true ∧ (getPack s
    (otherPack p)).counted = true ∧ countable s (otherPack p) = true := ⟨.a, wPacks, by decide +kernel⟩
def wPacksComeGoAndAuthenticate1b : State := withFlds wPacks [(PAK_STAT_LEARN.inst 1, 3)]
theorem witness_PacksComeGoAndAuthenticate_1b : ∃ (p : PackId) (s : State), aoUp s = true ∧ (getPack s p).present = true ∧ (getPack
    s (otherPack p)).counted = true ∧ countable s (otherPack p) = true := ⟨.b, wPacksComeGoAndAuthenticate1b, by decide +kernel⟩
theorem witness_PacksComeGoAndAuthenticate_3 : ∃ (p : PackId) (v : Int) (s : State), aoUp s = true ∧ (getPack s p).present = false ∧
    (getPack s p).attempt = 0 ∧ s.vault.noAuth = false := ⟨.b, 15000000, wServe, by decide +kernel⟩
theorem witness_PacksComeGoAndAuthenticate_4 : ∃ (q : Requester) (p : PackId) (s : State), canWrite s q (pakPage p) = true ∧
    (getPack s p).present = true ∧ s.vault.noAuth = false ∧ (getPack s p).attempt = 0 := ⟨.core, .a, wPacks, by decide +kernel⟩
theorem witness_PacksComeGoAndAuthenticate_5 : ∃ (p : PackId) (s : State), aoUp s = true ∧ fld s (pakF p PAK_STAT_AUTH) = 2 ∧
    watched s = true ∧ (getPack s p).present = true ∧ (getPack s p).attempt = 0 := ⟨.b, wPacks, by decide +kernel⟩
def wPacksComeGoAndAuthenticate6 : State := { wPacks with vault := .join }
theorem witness_PacksComeGoAndAuthenticate_6 : ∃ (p : PackId) (s : State), aoUp s = true ∧ fld s (pakF p PAK_STAT_AUTH) = 2 ∧
    watched s = false := ⟨.a, wPacksComeGoAndAuthenticate6, by decide +kernel⟩
def wAuth (n : Nat) : State := withFlds { wPacks with packB := { wPack with attempt := n } } [(PAK_STAT_AUTH.inst 1, 1)]
/-- The root key of both slots and a nonce; the answer is the CMAC that R233 asks for, worked out from them. -/
def wAnswer : State := { wAuth 3 with packB := { wPack with attempt := 3, nonce := 12345 }, mgt := { MgtSt.reset with keyArea := [(2032 * 512, 0x0706050403020100), (2032 * 512 + 1, 0x0F0E0D0C0B0A0908)] } }
theorem witness_PacksComeGoAndAuthenticate_7 : ∃ (p : PackId) (id : Word) (r : Slot128) (s : State), aoUp s = true ∧ (getPack s
    p).attempt ≠ 0 ∧ authGood s p (some id) (.answer r) = true := ⟨.b, 77, 125536770893450993578576834220929470882, wAnswer,
    by decide +kernel⟩
def wPacksComeGoAndAuthenticate8 : State := wAuth 2
theorem witness_PacksComeGoAndAuthenticate_8 : ∃ (p : PackId) (id : Option Word) (o : AuthOutcome) (s : State), aoUp s = true ∧
    (getPack s p).attempt ≠ 0 ∧ (getPack s p).attempt < 3 ∧ o ≠ .smbusError ∧ authGood s p id o = false := ⟨.b, some 77, .answer 5,
    wPacksComeGoAndAuthenticate8, by decide +kernel⟩
def wPacksComeGoAndAuthenticate8b : State := wAuth 1
theorem witness_PacksComeGoAndAuthenticate_8b : ∃ (p : PackId) (id : Option Word) (o : AuthOutcome) (s : State), aoUp s = true ∧
    (getPack s p).attempt ≠ 0 ∧ (getPack s p).attempt < 3 ∧ o ≠ .smbusError ∧ authGood s p id o = false := ⟨.b, none, .timeout,
    wPacksComeGoAndAuthenticate8b, by decide +kernel⟩
def wPacksComeGoAndAuthenticate9 : State := wAuth 3
theorem witness_PacksComeGoAndAuthenticate_9 : ∃ (p : PackId) (s : State), aoUp s = true ∧ 3 ≤ (getPack s p).attempt := ⟨.b,
    wPacksComeGoAndAuthenticate9, by decide +kernel⟩
def wPacksComeGoAndAuthenticate10 : State := { wPacks with packA := { wPack with compare := some 15000000 } }
theorem witness_PacksComeGoAndAuthenticate_10 : ∃ (p : PackId) (id : Word) (v : Int) (s : State), (getPack s p).compare = some v ∧
    id ≠ getReg s (pakF p PAK_ID_ID).reg := ⟨.a, 77, 15000000, wPacksComeGoAndAuthenticate10, by decide +kernel⟩
def wPacksComeGoAndAuthenticate2 : State := withFlds wPacks [(PAK_STAT_LEARN.inst 1, 3)]
theorem witness_PacksComeGoAndAuthenticate_2 : ∃ (p : PackId) (s : State), aoUp s = true ∧ (getPack s p).present = true := ⟨.b,
    wPacksComeGoAndAuthenticate2, by decide +kernel⟩
def wLearningStartsAndFollowsItsPhases1 : State := withFlds wPacks [(PWR_STAT_MAIN, 0)]
theorem witness_LearningStartsAndFollowsItsPhases_1 : ∃ (q : Requester) (p : PackId) (r : Nat) (s : State), canWrite s q (pakPage p)
    = true ∧ fld s (pakF p PAK_STAT_LEARN) = 0 ∧ learnRefuse s p = some r := ⟨.core, .a, 3, wLearningStartsAndFollowsItsPhases1,
    by decide +kernel⟩
def wLearningStartsAndFollowsItsPhases1b : State := withFlds wPacks [(PWR_STAT_MAIN, 1), (PAK_STAT_AUTH.inst 1, 3)]
theorem witness_LearningStartsAndFollowsItsPhases_1b : ∃ (q : Requester) (p : PackId) (r : Nat) (s : State), canWrite s q (pakPage
    p) = true ∧ fld s (pakF p PAK_STAT_LEARN) = 0 ∧ learnRefuse s p = some r := ⟨.core, .b, 8, wLearningStartsAndFollowsItsPhases1b,
    by decide +kernel⟩
def wLearningStartsAndFollowsItsPhases1c : State := withFlds wPacks [(PWR_STAT_MAIN, 1), (PAK_STAT_LEARN, 1)]
theorem witness_LearningStartsAndFollowsItsPhases_1c : ∃ (q : Requester) (p : PackId) (r : Nat) (s : State), canWrite s q (pakPage
    p) = true ∧ fld s (pakF p PAK_STAT_LEARN) = 0 ∧ learnRefuse s p = some r := ⟨.core, .b, 4, wLearningStartsAndFollowsItsPhases1c,
    by decide +kernel⟩
def wLearningStartsAndFollowsItsPhases1d : State := withFlds { wPacks with packA := { wPack with counted := false } } [(PWR_STAT_MAIN, 1)]
theorem witness_LearningStartsAndFollowsItsPhases_1d : ∃ (q : Requester) (p : PackId) (r : Nat) (s : State), canWrite s q (pakPage
    p) = true ∧ fld s (pakF p PAK_STAT_LEARN) = 0 ∧ learnRefuse s p = some r := ⟨.core, .b, 1, wLearningStartsAndFollowsItsPhases1d,
    by decide +kernel⟩
def wLearningStartsAndFollowsItsPhases1e : State := withFlds { wPacks with packB := { wPack with lastT := 2000 } } [(PWR_STAT_MAIN, 1)]
theorem witness_LearningStartsAndFollowsItsPhases_1e : ∃ (q : Requester) (p : PackId) (r : Nat) (s : State), canWrite s q (pakPage
    p) = true ∧ fld s (pakF p PAK_STAT_LEARN) = 0 ∧ learnRefuse s p = some r := ⟨.core, .b, 2, wLearningStartsAndFollowsItsPhases1e,
    by decide +kernel⟩
def wLearn : State := withFlds { wPacks with pins := { Pins.boot with kerbHold := true, pakEnA := true, pakEnB := true } } [(PWR_STAT_MAIN, 1)]
theorem witness_LearningStartsAndFollowsItsPhases_3 : ∃ (q : Requester) (p : PackId) (s : State), canWrite s q (pakPage p) = true ∧
    fld s (pakF p PAK_STAT_LEARN) = 0 ∧ learnRefuse s p = none := ⟨.core, .b, wLearn, by decide +kernel⟩
def wPhaseL (n : Nat) : State := withFlds { wLearn with packA := { wPack with qLearn := 9500000, counted := false } } [(PAK_STAT_LEARN, n)]
def wLearningStartsAndFollowsItsPhases5 : State := wPhaseL 3
theorem witness_LearningStartsAndFollowsItsPhases_5 : ∃ (q : Requester) (p : PackId) (s : State), canWrite s q (pakPage p) = true ∧
    fld s (pakF p PAK_STAT_LEARN) ≠ 0 := ⟨.core, .a, wLearningStartsAndFollowsItsPhases5, by decide +kernel⟩
def wLearningStartsAndFollowsItsPhases6 : State := wPhaseL 1
theorem witness_LearningStartsAndFollowsItsPhases_6 : ∃ (p : PackId) (s : State), aoUp s = true ∧ fld s (pakF p PAK_STAT_LEARN) = 1
    := ⟨.a, wLearningStartsAndFollowsItsPhases6, by decide +kernel⟩
def wLearningStartsAndFollowsItsPhases7 : State := wPhaseL 1
theorem witness_LearningStartsAndFollowsItsPhases_7 : ∃ (p : PackId) (s : State), aoUp s = true ∧ fld s (pakF p PAK_STAT_LEARN) = 1
    := ⟨.a, wLearningStartsAndFollowsItsPhases7, by decide +kernel⟩
def wLearningStartsAndFollowsItsPhases8 : State := wPhaseL 2
theorem witness_LearningStartsAndFollowsItsPhases_8 : ∃ (p : PackId) (s : State), aoUp s = true ∧ fld s (pakF p PAK_STAT_LEARN) = 2
    := ⟨.a, wLearningStartsAndFollowsItsPhases8, by decide +kernel⟩
def wLearningStartsAndFollowsItsPhases9 : State := wPhaseL 3
theorem witness_LearningStartsAndFollowsItsPhases_9 : ∃ (p : PackId) (i x : Int) (s : State), aoUp s = true ∧ fld s (pakF p
    PAK_STAT_LEARN) = 3 ∧ (let send := ocvInv s ((fld s MEAS_CFG_V_MIN : Nat) + (i : Rat) * packZ s p x / 10000000); let new :=
    (getPack s p).qLearn / 1000 / (1 - send); let cap : Rat := (fld s (pakF p PAK_CAP_CAP) : Nat); send ≠ 1 ∧ withinLearnLim s new
    cap ∧ (fld s MEAS_PACK_NEW_DERATE : Nat) / 256 * (fld s MEAS_PACK_NOMINAL_MAH : Nat) ≤ new) := ⟨.a, 5000000, 400,
    wLearningStartsAndFollowsItsPhases9, by unfold withinLearnLim; decide +kernel⟩
def wLearningStartsAndFollowsItsPhases10 : State := { wPhaseL 3 with packA := { wPack with qLearn := 100000 } }
theorem witness_LearningStartsAndFollowsItsPhases_10 : ∃ (p : PackId) (i x : Int) (s : State), aoUp s = true ∧ fld s (pakF p
    PAK_STAT_LEARN) = 3 ∧ (let send := ocvInv s ((fld s MEAS_CFG_V_MIN : Nat) + (i : Rat) * packZ s p x / 10000000); let new :=
    (getPack s p).qLearn / 1000 / (1 - send); let cap : Rat := (fld s (pakF p PAK_CAP_CAP) : Nat); send ≠ 1 ∧ ¬ withinLearnLim s new
    cap) := ⟨.a, 5000000, 400, wLearningStartsAndFollowsItsPhases10, by unfold withinLearnLim; decide +kernel⟩
def wLearningStartsAndFollowsItsPhases4 : State := withFlds wPacks [(PAK_STAT_LEARN, 2)]
theorem witness_LearningStartsAndFollowsItsPhases_4 : ∃ (q : Requester) (p : PackId) (s : State), canWrite s q (pakPage p) = true ∧
    fld s (pakF p PAK_STAT_LEARN) ≠ 0 := ⟨.core, .a, wLearningStartsAndFollowsItsPhases4, by decide +kernel⟩
theorem witness_ChargerStagesAndShipRequest_1 : ∃ (p : PackId) (s : State), aoUp s = true ∧ fld s (pakF p PAK_STAT_LEARN) ≠ 4 :=
    ⟨.a, wLearn, by decide +kernel⟩
def wChargerStagesAndShipRequest1b : State := withFlds wLearn [(PAK_STAT_LEARN.inst 1, 1)]
theorem witness_ChargerStagesAndShipRequest_1b : ∃ (p : PackId) (s : State), aoUp s = true ∧ fld s (pakF p PAK_STAT_LEARN) ≠ 4 :=
    ⟨.b, wChargerStagesAndShipRequest1b, by decide +kernel⟩
def wChargerStagesAndShipRequest2 : State := withFlds wPacks [(PWR_STAT_MAIN, 0)]
theorem witness_ChargerStagesAndShipRequest_2 : ∃ (p : PackId) (s : State), mainPresent s = false := ⟨.a,
    wChargerStagesAndShipRequest2, by decide +kernel⟩
def wChargerStagesAndShipRequest3 : State := { wLearn with packA := { wPack with chgFails := 1 } }
theorem witness_ChargerStagesAndShipRequest_3 : ∃ (p : PackId) (s : State), aoUp s = true ∧ (getPack s p).chgFails + 1 < 3 := ⟨.a,
    wChargerStagesAndShipRequest3, by decide +kernel⟩
def wChargerStagesAndShipRequest4 : State := { wLearn with packB := { wPack with chgFails := 2 } }
theorem witness_ChargerStagesAndShipRequest_4 : ∃ (p : PackId) (s : State), aoUp s = true ∧ 2 ≤ (getPack s p).chgFails := ⟨.b,
    wChargerStagesAndShipRequest4, by decide +kernel⟩
theorem witness_ChargerStagesAndShipRequest_5 : ∃ (p : PackId) (s : State), aoUp s = true ∧ (getPack s p).present = true := ⟨.b,
    wLearn, by decide +kernel⟩
def wChargerStagesAndShipRequest7 : State := { wServe with vault := .alley, ring := { RingSt.reset with awake := true } }
theorem witness_ChargerStagesAndShipRequest_7 : ∃ (q : Requester) (s : State), canWrite s q 0x0B = true ∧ s.vault = .alley :=
    ⟨.core, wChargerStagesAndShipRequest7, by decide +kernel⟩
theorem witness_ChargerStagesAndShipRequest_8 : ∃ (q : Requester) (s : State), canWrite s q 0x0B = true ∧ s.vault ≠ .alley :=
    ⟨.core, wServe, by decide +kernel⟩
def wShip : State := withFlds { wServe with vault := .alley, ring := { RingSt.reset with awake := true, east := { PortSt.reset with rdvDone := true }, west := { PortSt.reset with rdvDone := true } } } [(RNG_CTL_ENABLE, 1), (MEAS_STAT_SHIP_PENDING, 1)]
theorem witness_ChargerStagesAndShipRequest_9 : ∃ (s : State), inRendezvous s = true ∧ flag s MEAS_STAT_SHIP_PENDING = true ∧ (∀ p,
    (portSt s p).rdvDone = true) := ⟨wShip,
    by refine ⟨?_, ?_, ?_⟩ <;> first | decide +kernel | (intro p; cases p <;> decide +kernel)⟩
theorem witness_ChargerStagesAndShipRequest_6 : ∃ (p : PackId) (s : State), aoUp s = true ∧ (getPack s p).present = true := ⟨.a,
    wPacks, by decide +kernel⟩
def wBootDoneEntersJoinAndChoosesSource1 : State := State.reset
theorem witness_BootDoneEntersJoinAndChoosesSource_1 : ∃ (q : Requester) (s : State), canWrite s q 0x02 = true ∧ s.vault = .boot ∧
    doneRefuse s ≠ 0 := ⟨.core, wBootDoneEntersJoinAndChoosesSource1, by decide +kernel⟩
def wJoin : State := { wServe with vault := .join, psg := { PsgSt.reset with genSeen := true, partner := some .serve } }
theorem witness_BootDoneEntersJoinAndChoosesSource_4 : ∃ (s : State), dataUp s = true ∧ ringReady s = false := ⟨wJoin,
    by decide +kernel⟩
def wBootDoneEntersJoinAndChoosesSource6 : State := { wJoin with rst := { ResetSt.reset with fromFenced := true } }
theorem witness_BootDoneEntersJoinAndChoosesSource_6 : ∃ (s : State), s.vault = .join ∧ dataUp s = true ∧ squareSplit s = false ∧
    genOlder s = true ∧ s.psg.genSeen = true := ⟨wBootDoneEntersJoinAndChoosesSource6, by decide +kernel⟩
def wBootDoneEntersJoinAndChoosesSource7 : State := withFlds wJoin [(BOOT_STAT_DRAM_KEPT, 1), (PWR_STAT_PROVEN, 1), (PSG_STAT_STATE, 2)]
theorem witness_BootDoneEntersJoinAndChoosesSource_7 : ∃ (s : State), s.vault = .join ∧ dataUp s = true ∧ squareSplit s = false ∧
    flag s BOOT_STAT_DRAM_KEPT = true ∧ genOlder s = false ∧ s.psg.genSeen = true ∧ partnerGone s = false ∧ s.psg.partner = some
    .serve ∧ flag s PWR_STAT_PROVEN = true ∧ s.adm.flights = [] ∧ psgLive s = true := ⟨wBootDoneEntersJoinAndChoosesSource7,
    by decide +kernel⟩
def wHold : State := withFlds { wServe with vault := .dump, psg := { PsgSt.reset with genSeen := true, partner := some .serve } } [(IMG_RST_STAT_HOLD, 1), (PWR_STAT_PROVEN, 1), (PWR_STAT_MAIN, 1)]
theorem witness_BootDoneEntersJoinAndChoosesSource_8 : ∃ (s : State), dataUp s = true ∧ (s.vault = .dump ∧ flag s IMG_RST_STAT_HOLD
    = true ∨ s.vault = .join ∧ squareSplit s = true) := ⟨wHold, by decide +kernel⟩
def wBootDoneEntersJoinAndChoosesSource8b : State := { wJoin with psg := { PsgSt.reset with otherRing := true } }
theorem witness_BootDoneEntersJoinAndChoosesSource_8b : ∃ (s : State), dataUp s = true ∧ (s.vault = .dump ∧ flag s IMG_RST_STAT_HOLD
    = true ∨ s.vault = .join ∧ squareSplit s = true) := ⟨wBootDoneEntersJoinAndChoosesSource8b,
    ⟨by decide +kernel, .inr ⟨by decide +kernel, by show (true && (registryFind wJoin Config.partnerId).isNone) = true; rfl⟩⟩⟩
def wBootDoneEntersJoinAndChoosesSource5 : State := withFlds wServe [(FLT_CLASS_SRC 0x02 2, 1)]
theorem witness_BootDoneEntersJoinAndChoosesSource_5 : ∃ (s : State), dataUp s = true ∧ ringReady s = false ∧ LogsOnly s (srcBoot 2)
    := ⟨wBootDoneEntersJoinAndChoosesSource5, by unfold LogsOnly; decide +kernel⟩
def wMainLossReturnAndDumpSteps1 : State := withFlds wServe [(PWR_CTL_BKUP_ARM, 0)]
theorem witness_MainLossReturnAndDumpSteps_1 : ∃ (s : State), aoUp s = true ∧ s.vault = .serve ∧ flag s PWR_CTL_BKUP_ARM = false :=
    ⟨wMainLossReturnAndDumpSteps1, by decide +kernel⟩
theorem witness_MainLossReturnAndDumpSteps_2 : ∃ (s : State), (s.vault = .serve ∨ s.vault = .restore) ∧ s.pins.mainIsoN = true ∧
    LogsOnly s srcMainLoss ∧ censusActive s = false := ⟨wServe, by unfold LogsOnly; decide +kernel⟩
def wMainLossReturnAndDumpSteps2b : State := { wServe with vault := .restore }
theorem witness_MainLossReturnAndDumpSteps_2b : ∃ (s : State), (s.vault = .serve ∨ s.vault = .restore) ∧ s.pins.mainIsoN = true ∧
    LogsOnly s srcMainLoss ∧ censusActive s = false := ⟨wMainLossReturnAndDumpSteps2b, by unfold LogsOnly; decide +kernel⟩
theorem witness_MainLossReturnAndDumpSteps_3 : ∃ (s : State), aoUp s = true ∧ s.pins.mainIsoN = true := ⟨wServe, by decide +kernel⟩
def wMainLossReturnAndDumpSteps4 : State :=
  { wServe with vault := .fenced, pins := { Pins.boot with bkupEn := true, pakEnA := true } }
theorem witness_MainLossReturnAndDumpSteps_4 : ∃ (s : State), logicFailed s = false ∧ (s.vault = .fenced ∨ s.vault = .sealed) :=
    ⟨wMainLossReturnAndDumpSteps4, by decide +kernel⟩
def wMainLossReturnAndDumpSteps4b : State := { wServe with vault := .sealed }
theorem witness_MainLossReturnAndDumpSteps_4b : ∃ (s : State), logicFailed s = false ∧ (s.vault = .fenced ∨ s.vault = .sealed) :=
    ⟨wMainLossReturnAndDumpSteps4b, by decide +kernel⟩
def wMainLossReturnAndDumpSteps5 : State := { wServe with vault := .boot, dram := { DramSt.reset with cells := [(3, 4)] } }
theorem witness_MainLossReturnAndDumpSteps_5 : ∃ (s : State), logicFailed s = false ∧ (s.vault = .boot ∨ s.vault = .join ∨ s.vault =
    .culdesac) := ⟨wMainLossReturnAndDumpSteps5, by decide +kernel⟩
def wMainLossReturnAndDumpSteps5b : State := { wServe with vault := .join }
theorem witness_MainLossReturnAndDumpSteps_5b : ∃ (s : State), logicFailed s = false ∧ (s.vault = .boot ∨ s.vault = .join ∨ s.vault
    = .culdesac) := ⟨wMainLossReturnAndDumpSteps5b, by decide +kernel⟩
def wMainLossReturnAndDumpSteps5c : State := { wServe with vault := .culdesac }
theorem witness_MainLossReturnAndDumpSteps_5c : ∃ (s : State), logicFailed s = false ∧ (s.vault = .boot ∨ s.vault = .join ∨ s.vault
    = .culdesac) := ⟨wMainLossReturnAndDumpSteps5c, by decide +kernel⟩
def wMainLossReturnAndDumpSteps6 : State := withFlds wServe [(FLT_CLASS_SRC 0x08 7, 1)]
theorem witness_MainLossReturnAndDumpSteps_6 : ∃ (s : State), aoUp s = true ∧ LogsOnly s srcSenseErr :=
    ⟨wMainLossReturnAndDumpSteps6, by unfold LogsOnly; decide +kernel⟩
theorem witness_MainLossReturnAndDumpSteps_8 : ∃ (q : Requester) (v : Word) (s : State), canWrite s q 0x08 = true ∧ locked s 0x08 =
    false ∧ bitsOf v.toNat 31 16 + 20 ≤ bitsOf v.toNat 47 32 := ⟨.core, 0x0020000C03E8, wServe, by decide +kernel⟩
theorem witness_MainLossReturnAndDumpSteps_8b : ∃ (q : Requester) (v : Word) (s : State), canWrite s q 0x08 = true ∧ locked s 0x08 =
    false ∧ bitsOf v.toNat 31 16 + 20 ≤ bitsOf v.toNat 47 32 := ⟨.core, 0x00000020000C0102, wServe, by decide +kernel⟩
theorem witness_MainLossReturnAndDumpSteps_9 : ∃ (q : Requester) (v : Word) (s : State), canWrite s q 0x08 = true ∧ locked s 0x08 =
    false ∧ bitsOf v.toNat 47 32 < bitsOf v.toNat 31 16 + 20 := ⟨.core, 0x0000001F000C0102, wServe, by decide +kernel⟩
def wRide : State := withFlds { wServe with vault := .ride, pins := { Pins.boot with kerbHold := true, mainIsoN := false } } [(PWR_STAT_MAIN, 0), (PWR_STAT_PROVEN, 1), (PWR_STAT_ISO, 1)]
theorem witness_MainLossReturnAndDumpSteps_10 : ∃ (s : State), aoUp s = true ∧ mainPresent s = false ∧ logicFailed s = false ∧
    s.vault = .ride ∧ s.pwr.rideFrom = .serve ∧ flag s PWR_STAT_PROVEN = true := ⟨wRide, by decide +kernel⟩
def wMainLossReturnAndDumpSteps11 : State := withFlds { wRide with vault := .alley } [(MEAS_STAT_SHIP_PENDING, 1)]
theorem witness_MainLossReturnAndDumpSteps_11 : ∃ (s : State), aoUp s = true ∧ mainPresent s = false ∧ logicFailed s = false ∧
    s.vault = .alley := ⟨wMainLossReturnAndDumpSteps11, by decide +kernel⟩
def wMainLossReturnAndDumpSteps12 : State := { wRide with vault := .join }
theorem witness_MainLossReturnAndDumpSteps_12 : ∃ (s : State), aoUp s = true ∧ mainPresent s = false ∧ s.vault ≠ .ride ∧ s.vault ≠
    .alley ∧ s.vault ≠ .dump := ⟨wMainLossReturnAndDumpSteps12, by decide +kernel⟩
def wMainLossReturnAndDumpSteps13 : State := withFlds wRide [(PWR_CTL_SPEC_EN, 1), (PWR_RIDE_SPEC_DELAY, 10), (PWR_RIDE_WINDOW, 11)]
theorem witness_MainLossReturnAndDumpSteps_13 : ∃ (s : State), s.vault = .ride ∧ dataUp s = true ∧ flag s PWR_CTL_SPEC_EN = true ∧
    fld s PWR_RIDE_SPEC_DELAY < fld s PWR_RIDE_WINDOW ∧ s.pins.pakEnA = s.pins.pakEnB := ⟨wMainLossReturnAndDumpSteps13,
    by decide +kernel⟩
theorem witness_MainLossReturnAndDumpSteps_14 : ∃ (s : State), s.vault = .ride ∧ dataUp s = true ∧ censusActive s = false ∧
    s.adm.flights = [] := ⟨wRide, by decide +kernel⟩
def wDump : State := withFlds { wServe with vault := .dump } [(PWR_DUMP_STAT_PHASE, 3), (PWR_STAT_MAIN, 1)]
theorem witness_MainLossReturnAndDumpSteps_16 : ∃ (s : State), s.vault = .dump ∧ dataUp s = true ∧ s.dram.frozen = false ∧ fld s
    PWR_DUMP_STAT_PHASE = 3 := ⟨wDump, by decide +kernel⟩
theorem witness_MainLossReturnAndDumpSteps_17 : ∃ (q : Requester) (s : State), canWrite s q 0x08 = true ∧ watched s = true ∧ flag s
    PWR_STAT_CKPT = false ∧ ckMinPassed s = true := ⟨.core, wServe, by decide +kernel⟩
def wMainLossReturnAndDumpSteps18 : State := { wServe with pwr := { PowerSt.reset with lastCommit := 1 } }
theorem witness_MainLossReturnAndDumpSteps_18 : ∃ (q : Requester) (s : State), canWrite s q 0x08 = true ∧ watched s = true ∧ flag s
    PWR_STAT_CKPT = false ∧ ckMinPassed s = false := ⟨.core, wMainLossReturnAndDumpSteps18, by decide +kernel⟩
theorem witness_MainLossReturnAndDumpSteps_19 : ∃ (q : Requester) (s : State), canWrite s q 0x08 = true ∧ mainPresent s = false :=
    ⟨.core, wRide, by decide +kernel⟩
theorem witness_MainLossReturnAndDumpSteps_20 : ∃ (q : Requester) (s : State), canWrite s q 0x08 = true ∧ mainPresent s = true ∧
    s.vault = .dump ∧ flag s IMG_RST_STAT_HOLD = false ∧ s.pwr.committed = false := ⟨.core, wDump, by decide +kernel⟩
def wMainLossReturnAndDumpSteps21 : State := { wDump with pwr := { PowerSt.reset with committed := true } }
theorem witness_MainLossReturnAndDumpSteps_21 : ∃ (q : Requester) (s : State), canWrite s q 0x08 = true ∧ mainPresent s = true ∧
    s.vault = .dump ∧ flag s IMG_RST_STAT_HOLD = false ∧ s.pwr.committed = true := ⟨.core, wMainLossReturnAndDumpSteps21,
    by decide +kernel⟩
def wMainLossReturnAndDumpSteps22 : State := { wHold with psg := { PsgSt.reset with genSeen := true, partner := some .dump } }
theorem witness_MainLossReturnAndDumpSteps_22 : ∃ (s : State), s.vault = .dump ∧ flag s IMG_RST_STAT_HOLD = true ∧ dataUp s = true ∧
    s.psg.genSeen = true ∧ partnerGone s = false ∧ s.psg.partner = some .dump ∧ s.pwr.joinWaited = false :=
    ⟨wMainLossReturnAndDumpSteps22, by decide +kernel⟩
theorem witness_MainLossReturnAndDumpSteps_23 : ∃ (s : State), s.vault = .dump ∧ flag s IMG_RST_STAT_HOLD = true ∧ dataUp s = true ∧
    s.psg.genSeen = true ∧ partnerGone s = false ∧ s.psg.partner = some .serve ∧ squareT s ≤ fld s PSG_TAKEOVER_T ∧ s.pwr.rideFrom =
    .serve ∧ flag s PWR_STAT_PROVEN = true ∧ s.adm.flights = [] ∧ (∀ l, l < 9 → laneMap s l = 0) := ⟨wHold, by decide +kernel⟩
def wMainLossReturnAndDumpSteps7 : State := withFlds wServe [(FLT_CLASS_SRC 0x08 7, 1), (FLT_CLASS_SRC 0x08 0, 1)]
theorem witness_MainLossReturnAndDumpSteps_7 : ∃ (s : State), (s.vault = .serve ∨ s.vault = .restore) ∧ s.pins.mainIsoN = true ∧
    LogsOnly s srcSenseErr ∧ LogsOnly s srcMainLoss ∧ censusActive s = false := ⟨wMainLossReturnAndDumpSteps7,
    by unfold LogsOnly; decide +kernel⟩
def wMainLossReturnAndDumpSteps15 : State := withFlds wRide [(FLT_CLASS_SRC 0x08 1, 1)]
theorem witness_MainLossReturnAndDumpSteps_15 : ∃ (s : State), s.vault = .ride ∧ dataUp s = true ∧ censusActive s = false ∧
    s.adm.flights = [] ∧ LogsOnly s srcDump := ⟨wMainLossReturnAndDumpSteps15, by unfold LogsOnly; decide +kernel⟩
/-- Link 2 up with credit, port 260 on it, window 0 over pod lines 0x100 to 0x1FF, tenant 0 valid. -/
def wBoulevard : State :=
  let s1 := withFlds wServe [(BLV_STAT_STATE.inst 2, 2), (BLV_STAT_WIDTH.inst 2, 3), (BLV_CREDIT_TX_CREDIT.inst 2, 64), (DRC_MAP_DENSITY, 1), (ZON_TEN_CFG_VALID, 1)]
  let s2 := setPortFldOf (setPortFldOf (setPortFldOf s1 BLV_PORT_CFG_ENABLE 260 1) BLV_PORT_CFG_LINK 260 2) BLV_PORT_CFG_INFLIGHT_MAX 260 8
  setWindow (setFldAt s2 ADM_PORT_CFG_BOUND 260 4000) 0 (BitVec.ofNat 64 (63 * 2 ^ 53 + 2 ^ 52 + 0x100)) (BitVec.ofNat 64 (2 ^ 63 + 0x1FF)) 0 0
/-- A header with its CRC. -/
def sealHdr (opc : Nat) (h : ReqHdr) : ReqHdr := { h with crc := BitVec.ofNat 16 (headerCrc (reqBits opc h)) }
def wHdr (count : BitVec 6) (sub : BitVec 4) : ReqHdr := { crc := 0, rsvd := 0, sub := sub, epoch := 0, hint := 0, count := count, addr := 0x100, tenant := 0, tag := 7, port := 260 }
def wWin : Window := windowOf wBoulevard 0
theorem accWit (s : State) (l : Fin 8) (opc : Nat) (h : ReqHdr) (data : List Slot128) (w : Window) (h0 : ArrivesWhole s l opc h data)
    (h1 : PassesZone s opc h data w) (h2 : (reasons s (requestIn s l opc h data w)).1 = [])
    (h3 : ownerWaits s (requestIn s l opc h data w) = []) (h4 : ∀ f ∈ s.adm.flights, 0 < f.left) :
    Accepts s l opc h data w (reasons s (requestIn s l opc h data w)).2 := ⟨h0, h1, Prod.ext h2 rfl, h3, h4⟩
theorem notLate_of (s : State) (l : Nat)
    (h1 : ∀ e ∈ (getLink s l).sent, (match e.resp with | some (_, some b) => decide (s.now ≤ b) | _ => true) = true)
    (h2 : ∀ m ∈ (getLink s l).backlog, (match m.bound with | some b => decide (s.now ≤ b) | none => true) = true) : NothingLate s l := by
  refine ⟨fun e he r b hb => ?_, fun m hm b hb => ?_⟩
  · have := h1 e he; rw [hb] at this; exact of_decide_eq_true this
  · have := h2 m hm; rw [hb] at this; exact of_decide_eq_true this
def wWr : ReqHdr := sealHdr opWR (wHdr 2 0)
def wWrData : List Slot128 := List.replicate 8 5
def wWrReq : Req := requestIn wBoulevard 2 opWR wWr wWrData wWin
theorem witness_AcceptedRequestTakesItsPlace_1 : ∃ (l : Fin 8) (h : ReqHdr) (data : List Slot128) (opc : Nat) (c : Instr) (w :
    Window) (k : Walk) (s : State), (opc, c) ∈ requestCmds l h data ∧ ArrivesWhole s l opc h data ∧ PassesZone s opc h data w ∧
    reasons s (requestIn s l opc h data w) = ([], k) ∧ ownerWaits s (requestIn s l opc h data w) = [] := ⟨2, wWr, wWrData, opWR, .wr
    2 wWr wWrData, wWin, (reasons wBoulevard wWrReq).2, wBoulevard,
    by refine ⟨?_, ?_, ?_, ?_, ?_⟩; (simp [requestCmds]); (unfold ArrivesWhole; decide +kernel); (unfold PassesZone; decide +kernel); (exact Prod.ext (by decide +kernel : (reasons wBoulevard wWrReq).1 = []) rfl); decide +kernel⟩
theorem witness_AcceptedRequestTakesItsPlace_2 : ∃ (l : Fin 8) (h : ReqHdr) (s : State), ArrivesWhole s l opFENCE h [] ∧ serving s =
    true ∧ s.rst.drain = none := ⟨2, sealHdr opFENCE (wHdr 1 0), wBoulevard, by unfold ArrivesWhole; decide +kernel⟩
theorem witness_AcceptedRequestTakesItsPlace_3 : ∃ (l : Fin 8) (h : ReqHdr) (w : Window) (k : Walk) (s : State), Accepts s l opRD h
    [] w k := ⟨2, sealHdr opRD (wHdr 64 0), wWin, (reasons wBoulevard (requestIn wBoulevard 2 opRD (sealHdr opRD (wHdr 64 0)) []
    wWin)).2, wBoulevard,
    by exact accWit _ _ _ _ _ _ (by unfold ArrivesWhole; decide +kernel) (by unfold PassesZone; decide +kernel) (by decide +kernel) (by decide +kernel) (by decide +kernel)⟩
theorem witness_AcceptedRequestTakesItsPlace_4 : ∃ (l : Fin 8) (h : ReqHdr) (data : List Slot128) (w : Window) (k : Walk) (s :
    State), Accepts s l opWR h data w k := ⟨2, sealHdr opWR (wHdr 2 0), wWrData, wWin, (reasons wBoulevard (requestIn wBoulevard 2
    opWR (sealHdr opWR (wHdr 2 0)) wWrData wWin)).2, wBoulevard,
    by exact accWit _ _ _ _ _ _ (by unfold ArrivesWhole; decide +kernel) (by unfold PassesZone; decide +kernel) (by decide +kernel) (by decide +kernel) (by decide +kernel)⟩
theorem witness_AcceptedRequestTakesItsPlace_5 : ∃ (l : Fin 8) (h : ReqHdr) (data : List Slot128) (w : Window) (k : Walk) (s :
    State), Accepts s l opWRD h data w k := ⟨2, sealHdr opWRD (wHdr 1 0), [1, 2, 3, 4], wWin, (reasons wBoulevard (requestIn
    wBoulevard 2 opWRD (sealHdr opWRD (wHdr 1 0)) [1, 2, 3, 4] wWin)).2, wBoulevard,
    by exact accWit _ _ _ _ _ _ (by unfold ArrivesWhole; decide +kernel) (by unfold PassesZone; decide +kernel) (by decide +kernel) (by decide +kernel) (by decide +kernel)⟩
theorem witness_AcceptedRequestTakesItsPlace_6 : ∃ (l : Fin 8) (h : ReqHdr) (data : List Slot128) (w : Window) (k : Walk) (s :
    State), Accepts s l opADD64 h data w k := ⟨2, sealHdr opADD64 (wHdr 1 7), [5], wWin, (reasons wBoulevard (requestIn wBoulevard 2
    opADD64 (sealHdr opADD64 (wHdr 1 7)) [5] wWin)).2, wBoulevard,
    by exact accWit _ _ _ _ _ _ (by unfold ArrivesWhole; decide +kernel) (by unfold PassesZone; decide +kernel) (by decide +kernel) (by decide +kernel) (by decide +kernel)⟩
theorem witness_AcceptedRequestTakesItsPlace_7 : ∃ (l : Fin 8) (h : ReqHdr) (data : List Slot128) (w : Window) (k : Walk) (s :
    State), Accepts s l opADDPAIR h data w k := ⟨2, sealHdr opADDPAIR (wHdr 1 3), [5], wWin, (reasons wBoulevard (requestIn
    wBoulevard 2 opADDPAIR (sealHdr opADDPAIR (wHdr 1 3)) [5] wWin)).2, wBoulevard,
    by exact accWit _ _ _ _ _ _ (by unfold ArrivesWhole; decide +kernel) (by unfold PassesZone; decide +kernel) (by decide +kernel) (by decide +kernel) (by decide +kernel)⟩
theorem witness_AcceptedRequestTakesItsPlace_8 : ∃ (l : Fin 8) (h : ReqHdr) (data : List Slot128) (w : Window) (k : Walk) (s :
    State), Accepts s l opCAS64 h data w k := ⟨2, sealHdr opCAS64 (wHdr 1 7), [3], wWin, (reasons wBoulevard (requestIn wBoulevard 2
    opCAS64 (sealHdr opCAS64 (wHdr 1 7)) [3] wWin)).2, wBoulevard,
    by exact accWit _ _ _ _ _ _ (by unfold ArrivesWhole; decide +kernel) (by unfold PassesZone; decide +kernel) (by decide +kernel) (by decide +kernel) (by decide +kernel)⟩
theorem witness_AcceptedRequestTakesItsPlace_9 : ∃ (l : Fin 8) (h : ReqHdr) (data : List Slot128) (w : Window) (k : Walk) (s :
    State), Accepts s l opCAS128 h data w k := ⟨2, sealHdr opCAS128 (wHdr 1 3), [3, 4], wWin, (reasons wBoulevard (requestIn
    wBoulevard 2 opCAS128 (sealHdr opCAS128 (wHdr 1 3)) [3, 4] wWin)).2, wBoulevard,
    by exact accWit _ _ _ _ _ _ (by unfold ArrivesWhole; decide +kernel) (by unfold PassesZone; decide +kernel) (by decide +kernel) (by decide +kernel) (by decide +kernel)⟩
theorem witness_AcceptedRequestTakesItsPlace_10 : ∃ (l : Fin 8) (h : ReqHdr) (data : List Slot128) (w : Window) (k : Walk) (s :
    State), Accepts s l opEXM h data w k := ⟨2, sealHdr opEXM (wHdr 4 0), [2, 0], wWin, (reasons wBoulevard (requestIn wBoulevard 2
    opEXM (sealHdr opEXM (wHdr 4 0)) [2, 0] wWin)).2, wBoulevard,
    by exact accWit _ _ _ _ _ _ (by unfold ArrivesWhole; decide +kernel) (by unfold PassesZone; decide +kernel) (by decide +kernel) (by decide +kernel) (by decide +kernel)⟩
theorem witness_AcceptedRequestTakesItsPlace_11 : ∃ (l : Fin 8) (h : ReqHdr) (data : List Slot128) (w : Window) (k : Walk) (s :
    State), Accepts s l opEXI h data w k := ⟨2, sealHdr opEXI (wHdr 4 0), [1, 0], wWin, (reasons wBoulevard (requestIn wBoulevard 2
    opEXI (sealHdr opEXI (wHdr 4 0)) [1, 0] wWin)).2, wBoulevard,
    by exact accWit _ _ _ _ _ _ (by unfold ArrivesWhole; decide +kernel) (by unfold PassesZone; decide +kernel) (by decide +kernel) (by decide +kernel) (by decide +kernel)⟩
theorem witness_AcceptedRequestTakesItsPlace_12 : ∃ (l : Fin 8) (h : ReqHdr) (data : List Slot128) (w : Window) (k : Walk) (s :
    State), Accepts s l opEXD h data w k := ⟨2, sealHdr opEXD (wHdr 4 0), [0, 0], wWin, (reasons wBoulevard (requestIn wBoulevard 2
    opEXD (sealHdr opEXD (wHdr 4 0)) [0, 0] wWin)).2, wBoulevard,
    by exact accWit _ _ _ _ _ _ (by unfold ArrivesWhole; decide +kernel) (by unfold PassesZone; decide +kernel) (by decide +kernel) (by decide +kernel) (by decide +kernel)⟩
theorem witness_AcceptedRequestTakesItsPlace_13 : ∃ (l : Fin 8) (h : ReqHdr) (s : State), ArrivesWhole s l opFENCE h [] ∧ serving s
    = true ∧ s.rst.drain = none ∧ (∀ f ∈ s.adm.flights, 0 < f.left) := ⟨2, sealHdr opFENCE (wHdr 1 0), wBoulevard,
    by unfold ArrivesWhole; decide +kernel⟩
def wRd : ReqHdr := sealHdr opRD (wHdr 64 0)
theorem witness_RefusedRequestIsAnsweredOnce_1 : ∃ (l : Fin 8) (h : ReqHdr) (data : List Slot128) (opc : Nat) (c : Instr) (s : State),
    (opc, c) ∈ requestCmds l h data ∧ linkDelivers s l.val = true ∧ headerCrc (reqBits opc h) ≠ h.crc.toNat ∧ data = [] :=
  ⟨2, wHdr 1 0, [], opRD, .rd 2 (wHdr 1 0), wBoulevard, by simp [requestCmds], by decide +kernel⟩
def wReqDump : State := { wBoulevard with vault := .dump }
theorem witness_RefusedRequestIsAnsweredOnce_2 : ∃ (l : Fin 8) (h : ReqHdr) (data : List Slot128) (opc : Nat) (c : Instr) (s : State),
    (opc, c) ∈ requestCmds l h data ∧ ArrivesWhole s l opc h data ∧ s.vault = .dump ∧ wellShaped opc h data = true :=
  ⟨2, wWr, wWrData, opWR, .wr 2 wWr wWrData, wReqDump, by simp [requestCmds], by unfold ArrivesWhole; decide +kernel⟩
def wBadRd : ReqHdr := sealHdr opRD { wHdr 2 0 with addr := 0x13F }
theorem witness_RefusedRequestIsAnsweredOnce_3 : ∃ (l : Fin 8) (h : ReqHdr) (data : List Slot128) (opc : Nat) (c : Instr) (s : State),
    (opc, c) ∈ requestCmds l h data ∧ (ArrivesWhole s l opc h data ∧ s.vault ≠ .dump ∧ (wellShaped opc h data = false ∨ s.vault = .join ∨
    s.vault = .culdesac ∨ s.rst.drain ≠ none)) ∧ RefusalLeaves s l.val :=
  ⟨2, wBadRd, [], opRD, .rd 2 wBadRd, wBoulevard, by simp [requestCmds], by unfold ArrivesWhole; decide +kernel, by unfold RefusalLeaves; decide +kernel⟩
/-- The other side owns the window. -/
def wUnowned : State := withFlds wBoulevard [(ZON_CTL_SIDE, 1)]
def wCas : ReqHdr := sealHdr opCAS64 (wHdr 1 7)
theorem witness_RefusedRequestIsAnsweredOnce_4 : ∃ (l : Fin 8) (h : ReqHdr) (data : List Slot128) (opc : Nat) (c : Instr) (s : State) (w : Window),
    (opc, c) ∈ requestCmds l h data ∧ (ArrivesWhole s l opc h data ∧ serving s = true ∧ s.rst.drain = none ∧ wellShaped opc h data = true ∧
    matchingWindows s h.addr.toNat = [w] ∧ zoneReason s opc h w = none ∧ owns s w = false ∧ ownerOnly opc = true) ∧
    RefusalLeaves s l.val :=
  ⟨2, wCas, [3], opCAS64, .cas64 2 wCas [3], wUnowned, wWin, by simp [requestCmds], by unfold ArrivesWhole; decide +kernel,
    by unfold RefusalLeaves; decide +kernel⟩
def wOutside : ReqHdr := sealHdr opRD { wHdr 64 0 with addr := 0x200 }
theorem witness_RefusedRequestIsAnsweredOnce_5 : ∃ (l : Fin 8) (h : ReqHdr) (data : List Slot128) (opc : Nat) (c : Instr) (s : State),
    (opc, c) ∈ requestCmds l h data ∧ ArrivesWhole s l opc h data ∧ serving s = true ∧ s.rst.drain = none ∧ wellShaped opc h data = true ∧
    matchingWindows s h.addr.toNat = [] :=
  ⟨2, wOutside, [], opRD, .rd 2 wOutside, wBoulevard, by simp [requestCmds], by unfold ArrivesWhole; decide +kernel⟩
/-- The port may have nothing in flight. -/
def wFullPort : State := setPortFldOf wBoulevard BLV_PORT_CFG_INFLIGHT_MAX 260 0
theorem witness_RefusedRequestIsAnsweredOnce_6 : ∃ (l : Fin 8) (h : ReqHdr) (data : List Slot128) (opc : Nat) (c : Instr) (s : State) (w : Window)
    (x : Reason) (rs : List Reason) (k : Walk), (opc, c) ∈ requestCmds l h data ∧ (ArrivesWhole s l opc h data ∧ PassesZone s opc h data w) ∧
    reasons s (requestIn s l opc h data w) = (x :: rs, k) ∧ RefusalLeaves s l.val :=
  ⟨2, wRd, [], opRD, .rd 2 wRd, wFullPort, wWin, ⟨1, none, none⟩, [], (reasons wFullPort (requestIn wFullPort 2 opRD wRd [] wWin)).2,
    by simp [requestCmds], by unfold ArrivesWhole PassesZone; decide +kernel,
    Prod.ext (by decide +kernel : (reasons wFullPort (requestIn wFullPort 2 opRD wRd [] wWin)).1 = [⟨1, none, none⟩]) rfl,
    by unfold RefusalLeaves; decide +kernel⟩
theorem witness_NearMemoryOperationsTouchTheirEntry_1 : ∃ (l : Line) (sub : Nat) (d : Slot128), sub < 8 := ⟨BitVec.allOnes 512, 7,
    1, by decide +kernel⟩
theorem witness_NearMemoryOperationsTouchTheirEntry_2 : ∃ (l : Line) (sub : Nat) (d : Slot128), sub < 4 := ⟨BitVec.allOnes 512, 3,
    1, by decide +kernel⟩
theorem witness_NearMemoryOperationsTouchTheirEntry_3 : ∃ (l : Line) (sub : Nat) (d : Slot128), sub < 8 := ⟨0, 7, 0,
    by decide +kernel⟩
theorem witness_NearMemoryOperationsTouchTheirEntry_4 : ∃ (l : Line) (sub : Nat) (d e : Slot128), sub < 4 := ⟨9, 3, 0, 5,
    by decide +kernel⟩
theorem witness_NearMemoryOperationsTouchTheirEntry_5 : ∃ (b : Bucket) (w image k : Nat), bucketHits b w image = [] ∧ (bucketFree
    b).head? = some k ∧ image < 2 ^ 256 := ⟨1, 1, 2 ^ 256 - 1, 1, by decide +kernel⟩
theorem witness_NearMemoryOperationsTouchTheirEntry_6 : ∃ (b : Bucket) (w image k : Nat), (bucketHits b w image).head? = some k :=
    ⟨1, 1, 1, 0, by decide +kernel⟩
def wItem : Item :=
  { id := 3, sub := 4, bank := 1, row := 0, line := 0, dl := 100, cb := 2, ca := 0, ck := 0, acts := 0, hint := false,
    work := .read 0, tag := some 7, stage := .plaza, input := 6, inter := 4, entered := 1860, urgency := 3 }
def wEntryP : PlazaEntry := { client := 1, seq := 2, output := 4, restore := false, lines := [(0, some 0)], stage := .plaza, input := 28, inter := 26, entered := 1860 }
def wPlaza : State := { wServe with adm := { AdmSt.reset with items := [wItem, { wItem with id := 5, stage := .queue }] }, now := 1920 }
theorem witness_PlazaMovesWhatItGrants_2 : ∃ (k j : Fin 32) (it : Item) (s : State), dataUp s = true ∧ it.stage = .plaza ∧ it ∈
    s.adm.items ∧ plazaWinner (grantTime s k j) k.val j.val = some (.item it) ∧ (s.adm.items.map (fun x => x.id)).Nodup ∧ (∀ x ∈
    s.adm.items, x.stage = .plaza → x.sub = k.val → x.input = it.input → it.id ≤ x.id) ∧ TransitInTime s k j ∧ NothingHeld s k :=
    ⟨4, 4, wItem, wPlaza, by unfold TransitInTime NothingHeld; decide +kernel⟩
def wPlazaE : State := { wServe with adm := { AdmSt.reset with plaza := [wEntryP], served := [(4, (2, 2))] }, now := 1920 }
theorem witness_PlazaMovesWhatItGrants_3 : ∃ (k j : Fin 32) (e : PlazaEntry) (s : State), dataUp s = true ∧ plazaWinner (grantTime s
    k j) k.val j.val = some (.entry e) ∧ duplicate s e = false ∧ s.adm.plaza.Nodup ∧ (∀ x ∈ s.adm.plaza.takeWhile (fun x => x ≠ e),
    x.stage = .plaza → x.output = k.val → x.input ≠ e.input) ∧ TransitInTime s k j ∧ NothingHeld s k := ⟨4, 26, wEntryP, wPlazaE,
    by unfold TransitInTime NothingHeld; decide +kernel⟩
def wMirrorP : MirrorLine := { line := 256, data := 5, masked := false, at_ := 0, stage := .plaza, input := 24, inter := 22, entered := 1860 }
def wPlazaM : State := { wServe with psg := { PsgSt.reset with mirrorQ := [wMirrorP, { wMirrorP with line := 288, input := 25 }] }, now := 1920 }
theorem witness_PlazaMovesWhatItGrants_4 : ∃ (k j : Fin 32) (m : MirrorLine) (s : State), dataUp s = true ∧ plazaWinner (grantTime s
    k j) k.val j.val = some (.mirror m) ∧ s.psg.mirrorQ.Nodup ∧ (∀ x ∈ s.psg.mirrorQ.takeWhile (fun x => x ≠ m), x.stage = .plaza →
    subOf s x.line = k.val → x.input ≠ m.input) ∧ TransitInTime s k j ∧ NothingHeld s k := ⟨4, 22, wMirrorP, wPlazaM,
    by unfold TransitInTime NothingHeld; decide +kernel⟩
theorem witness_PlazaMovesWhatItGrants_5 : ∃ (e : PlazaEntry) (s : State), dataUp s = true ∧ s.adm.plaza.find? (fun x => decide
    (x.client = e.client) && decide (x.seq = e.seq)) = some e ∧ e.stage = .plaza := ⟨wEntryP, wPlazaE, by decide +kernel⟩
theorem witness_PlazaMovesWhatItGrants_6 : ∃ (client seq : Nat) (s : State), dataUp s = true ∧ (∀ x ∈ s.adm.plaza, (x.client, x.seq)
    ≠ (client, seq)) ∧ s.adm.served.any (fun e => decide (e.2 = (client, seq))) = true := ⟨2, 2, wPlazaE, by decide +kernel⟩
theorem witness_AdmissionAndWindowTables_1 : ∃ (q : Requester) (v : Word) (s : State), canWrite s q 0x12 = true ∧ 480 ≤ bitsOf
    v.toNat 16 0 ∧ bitsOf v.toNat 16 0 ≤ 65000 := ⟨.core, 480, wServe, by decide +kernel⟩
theorem witness_AdmissionAndWindowTables_1b : ∃ (q : Requester) (v : Word) (s : State), canWrite s q 0x12 = true ∧ 480 ≤ bitsOf
    v.toNat 16 0 ∧ bitsOf v.toNat 16 0 ≤ 65000 := ⟨.core, 65000, wServe, by decide +kernel⟩
theorem witness_AdmissionAndWindowTables_2 : ∃ (q : Requester) (v : Word) (s : State), canWrite s q 0x12 = true ∧ (bitsOf v.toNat 16
    0 < 480 ∨ 65000 < bitsOf v.toNat 16 0) := ⟨.core, 479, wServe, by decide +kernel⟩
theorem witness_AdmissionAndWindowTables_2b : ∃ (q : Requester) (v : Word) (s : State), canWrite s q 0x12 = true ∧ (bitsOf v.toNat
    16 0 < 480 ∨ 65000 < bitsOf v.toNat 16 0) := ⟨.core, 65001, wServe, by decide +kernel⟩
theorem witness_AdmissionAndWindowTables_3 : ∃ (q : Requester) (v : Word) (s : State), canWrite s q 0x12 = true := ⟨.core,
    0x0008000100020001, wServe, by decide +kernel⟩
def wAdmissionAndWindowTables4 : State := withFlds wServe [(ADM_POOL_STAT_OPS_TOKENS, 9), (ADM_POOL_STAT_ACT_TOKENS, 3)]
theorem witness_AdmissionAndWindowTables_4 : ∃ (q : Requester) (v : Word) (s : State), canWrite s q 0x12 = true := ⟨.core,
    0x0000000800000004, wAdmissionAndWindowTables4, by decide +kernel⟩
def wAdmissionAndWindowTables5 : State :=
  withFlds State.reset [(ADM_POOL_CFG_ENABLE, 1), (ADM_POOL_CFG_OPS_RATE, 5), (ADM_POOL_BURST_OPS_BURST, 3)]
theorem witness_AdmissionAndWindowTables_5 : ∃ (s : State), dataUp s = true ∧ Regs.wf s.regs = true := ⟨wAdmissionAndWindowTables5,
    by decide +kernel⟩
def wAdmissionAndWindowTables6 : State := { wServe with adm := { AdmSt.reset with resHist := [(48000, 7)] } }
theorem witness_AdmissionAndWindowTables_6 : ∃ (s : State), dataUp s = true := ⟨wAdmissionAndWindowTables6, by decide +kernel⟩
theorem witness_AdmissionAndWindowTables_6b : ∃ (s : State), dataUp s = true := ⟨wServe, by decide +kernel⟩
def wAdmissionAndWindowTables7 : State := { wServe with adm := { AdmSt.reset with serviceReserve := 999 } }
theorem witness_AdmissionAndWindowTables_7 : ∃ (s : State), reserveInForce s ≠ s.adm.serviceReserve ∧ s.adm.resHist = [] :=
    ⟨wAdmissionAndWindowTables7, by decide +kernel⟩
def wAdmissionAndWindowTables8 : State := withFlds wBoulevard [(FLT_CLASS_SRC 0x30 2, 1)]
theorem witness_AdmissionAndWindowTables_8 : ∃ (q : Requester) (s : State), canWrite s q 0x11 = true ∧ s.mgt.load = none ∧ (let w :=
    (indexOf s q ZON_WIN_IDX_INDEX); let st := (fun off => stagingWord s q off); let k := (checkWindow s (windowOfWords w (st
    0x808).toNat (st 0x810).toNat (st 0x818).toNat (st 0x820).toNat)); (k ≠ 0 ∨ LogsOnly s (srcImg 2))) := ⟨.core,
    wAdmissionAndWindowTables8, by unfold LogsOnly; decide +kernel⟩
def wLoading : State := { wBoulevard with mgt := { MgtSt.reset with load := some ⟨0, 0, 4, some 0, none⟩ } }
theorem witness_AdmissionAndWindowTables_9 : ∃ (q : Requester) (d : TableLoad) (s : State), canWrite s q 0x11 = true ∧ s.mgt.load =
    some d ∧ d.win = indexOf s q ZON_WIN_IDX_INDEX := ⟨.core, ⟨0, 0, 4, some 0, none⟩, wLoading, by decide +kernel⟩
theorem witness_AdmissionAndWindowTables_10 : ∃ (q : Requester) (s : State), canWrite s q 0x11 = true := ⟨.core, wBoulevard,
    by decide +kernel⟩
def wFlit0 : Flit := { fecOk := true, fecCorr := 0, slotMap := 0, linkHdr := 5, slots := List.replicate 16 0, crc := 0 }
def sealFlit (f : Flit) : Flit := { f with crc := BitVec.ofNat 32 (flitCrc f) }
theorem sealFlit_good (f : Flit) (h1 : f.fecOk = true) (h2 : f.slots.length = 16) : flitGood (sealFlit f) = true := by
  have h : flitCrc f < 2 ^ 32 := by
    refine crc32_lt _ (fun b hb => ?_)
    simp only [List.mem_append, List.mem_flatMap] at hb
    rcases hb with (hb | hb) | ⟨d, _, hb⟩ <;> exact bytesOf_lt _ _ b hb
  have e : flitCrc (sealFlit f) = (sealFlit f).crc.toNat := by
    show flitCrc f = (BitVec.ofNat 32 (flitCrc f)).toNat
    rw [BitVec.toNat_ofNat, Nat.mod_eq_of_lt h]
  have h3 : (sealFlit f).fecOk = true := h1
  have h4 : (sealFlit f).slots.length = 16 := h2
  simp only [flitGood, e, h3, h4]; rfl
def wFlit : Flit := sealFlit wFlit0
def wLinkUp : State := withFlds wBoulevard [(PSG_STAT_STATE, 2)]
theorem witness_FlitsAndLinkReplies_1 : ∃ (l : Fin 9) (f : Flit) (s : State), flitLayer s l.val = true ∧ flitGood f = true ∧
    ((getLink s l.val).rxSeq = none ∨ (getLink s l.val).rxSeq = some (f.linkHdr.extractLsb' 0 12 - 1)) ∧ bitAt f.linkHdr.toNat 24 =
    false ∧ bitAt f.linkHdr.toNat 25 = false ∧ f.slotMap = 0 := ⟨2, wFlit, wLinkUp,
    by refine ⟨?_, sealFlit_good _ rfl rfl, ?_⟩ <;> decide +kernel⟩
def wFlitsAndLinkReplies1b : State := setLink wLinkUp 8 { LinkSt.reset with rxSeq := some 4 }
theorem witness_FlitsAndLinkReplies_1b : ∃ (l : Fin 9) (f : Flit) (s : State), flitLayer s l.val = true ∧ flitGood f = true ∧
    ((getLink s l.val).rxSeq = none ∨ (getLink s l.val).rxSeq = some (f.linkHdr.extractLsb' 0 12 - 1)) ∧ bitAt f.linkHdr.toNat 24 =
    false ∧ bitAt f.linkHdr.toNat 25 = false ∧ f.slotMap = 0 := ⟨8, wFlit, wFlitsAndLinkReplies1b,
    by refine ⟨?_, sealFlit_good _ rfl rfl, ?_⟩ <;> decide +kernel⟩
def wFlitRd : Flit := sealFlit { wFlit0 with slotMap := 1, slots := reqWord opRD wRd :: List.replicate 15 0 }
theorem witness_FlitsAndLinkReplies_2 : ∃ (l : Fin 8) (f : Flit) (d : Slot128) (s : State), flitLayer s l.val = true ∧ flitGood f =
    true ∧ (getLink s l.val).rxSeq = none ∧ bitAt f.linkHdr.toNat 24 = false ∧ bitAt f.linkHdr.toNat 25 = false ∧ f.slotMap = 1 ∧
    f.slots.head? = some d ∧ d.toNat % 32 = opRD ∧ (getLink s l.val).hdr = none ∧ (getLink s l.val).owed < fld s
    (BLV_CREDIT_RX_FREE.inst l.val) ∧ s.rst.drain = none := ⟨2, wFlitRd, reqWord opRD wRd, wLinkUp,
    by refine ⟨?_, sealFlit_good _ rfl rfl, ?_⟩ <;> decide +kernel⟩
def wHeard (n : Nat) : State := setLink wLinkUp 2 { LinkSt.reset with rxSeq := some 4, rxBad := [(5, n)] }
def wFlitsAndLinkReplies3 : State := wHeard 1
theorem witness_FlitsAndLinkReplies_3 : ∃ (l : Fin 9) (f : Flit) (a : BitVec 12) (s : State), flitLayer s l.val = true ∧ flitGood f
    = false ∧ (getLink s l.val).rxSeq = some a ∧ nget (getLink s l.val).rxBad (f.linkHdr.toNat % 2 ^ 12) < 2 := ⟨2, { wFlit with
    fecOk := false }, 4, wFlitsAndLinkReplies3, by decide +kernel⟩
def wFlitsAndLinkReplies4 : State := wHeard 2
theorem witness_FlitsAndLinkReplies_4 : ∃ (l : Fin 9) (f : Flit) (s : State), flitLayer s l.val = true ∧ flitGood f = false ∧ 2 ≤
    nget (getLink s l.val).rxBad (f.linkHdr.toNat % 2 ^ 12) := ⟨2, { wFlit with fecOk := false }, wFlitsAndLinkReplies4,
    by decide +kernel⟩
def wFlitsAndLinkReplies5 : State := setLink wLinkUp 2 { LinkSt.reset with rxSeq := some 5 }
theorem witness_FlitsAndLinkReplies_5 : ∃ (l : Fin 9) (f : Flit) (a : BitVec 12) (s : State), flitLayer s l.val = true ∧ flitGood f
    = true ∧ (getLink s l.val).rxSeq = some a ∧ a + 1 ≠ f.linkHdr.extractLsb' 0 12 := ⟨2, wFlit, 5, wFlitsAndLinkReplies5,
    by refine ⟨?_, sealFlit_good _ rfl rfl, ?_⟩ <;> decide +kernel⟩
def wSent (n : BitVec 12) : SentFlit := ⟨n, 1, [0], some (refusal 0 0 0 0, some 9000)⟩
def wFlitsAndLinkReplies6 : State := wHeard 1
theorem witness_FlitsAndLinkReplies_6 : ∃ (l : Nat) (ks : List KindSlot) (nak : Option (BitVec 12)) (s : State), ks.length ≤ 16 :=
    ⟨2, [(2, 7), (1, 8)], some 4, wFlitsAndLinkReplies6, by decide +kernel⟩
def wFlitsAndLinkReplies7 : State :=
  setLink wLinkUp 2 { LinkSt.reset with nakAck := some 5, txFails := 1, sent := [wSent 5, wSent 6] }
theorem witness_FlitsAndLinkReplies_7 : ∃ (l : Fin 9) (ack : BitVec 12) (s : State), dataUp s = true ∧ fld s (linkState l.val) = 2 ∧
    NothingLate s l.val ∧ ((getLink s l.val).nakAck ≠ some ack ∨ (getLink s l.val).txFails < 2) := ⟨2, 5, wFlitsAndLinkReplies7,
    by refine ⟨by decide +kernel, by decide +kernel, notLate_of _ _ (by decide +kernel) (by decide +kernel), by decide +kernel⟩⟩
def wFlitsAndLinkReplies8 : State := setLink wLinkUp 2 { LinkSt.reset with nakAck := some 5, txFails := 2 }
theorem witness_FlitsAndLinkReplies_8 : ∃ (l : Fin 9) (ack : BitVec 12) (s : State), dataUp s = true ∧ fld s (linkState l.val) = 2 ∧
    (getLink s l.val).nakAck = some ack ∧ 2 ≤ (getLink s l.val).txFails := ⟨2, 5, wFlitsAndLinkReplies8, by decide +kernel⟩
theorem witness_FlitsAndLinkReplies_9 : ∃ (l : Fin 8) (n : BitVec 16) (s : State), dataUp s = true ∧ fld s (BLV_STAT_STATE.inst
    l.val) = 2 ∧ 1 ≤ n.toNat ∧ n.toNat ≤ 4096 := ⟨2, 4096, wLinkUp, by decide +kernel⟩
theorem witness_FlitsAndLinkReplies_10 : ∃ (l : Fin 8) (n : BitVec 16) (s : State), dataUp s = true ∧ fld s (BLV_STAT_STATE.inst
    l.val) = 2 ∧ 1 ≤ n.toNat ∧ n.toNat ≤ 4096 ∧ (getLink s l.val).backlog = [] ∧ (getLink s l.val).owed = 0 ∧ NothingReady s := ⟨2,
    4096, wLinkUp, by unfold NothingReady; decide +kernel⟩
def wFlitsAndLinkReplies11 : State := { wLinkUp with psg := { PsgSt.reset with txWait := [⟨0xD, 0, 4, 0, 0, 0, []⟩] } }
theorem witness_FlitsAndLinkReplies_11 : ∃ (n : BitVec 16) (s : State), dataUp s = true ∧ fld s PSG_STAT_STATE = 2 ∧ 1 ≤ n.toNat ∧
    n.toNat ≤ 4096 := ⟨1, wFlitsAndLinkReplies11, by decide +kernel⟩
def wFlight : Flight :=
  { link := 2, opc := opRD, hdr := wRd, data := [], epoch := 0, seq := 0, arrival := 0, deadline := 9000, win := 0, dline := 0, n := 64,
    pool := 0, left := 64, status := 0, slot := 0, swapped := false, full := false, lines := [], result := [], ack := none, keyW := 0, fwd := 0 }
def wFlitsAndLinkReplies12 : State := { wBoulevard with adm := { AdmSt.reset with flights := [wFlight] } }
theorem witness_FlitsAndLinkReplies_12 : ∃ (l : Fin 8) (port : BitVec 10) (tag : BitVec 16) (f : Flight) (s : State), linkDelivers s
    l.val = true ∧ arrivingOn s port tag = none ∧ f ∈ s.adm.flights ∧ f.hdr.port = port ∧ f.hdr.tag = tag ∧ RefusalLeaves s
    (portFldOf s BLV_PORT_CFG_LINK port.toNat) := ⟨2, 260, 7, wFlight, wFlitsAndLinkReplies12,
    by unfold RefusalLeaves; decide +kernel⟩
def wFlitsAndLinkReplies13 : State := { wBoulevard with adm := { AdmSt.reset with flights := [wFlight] } }
theorem witness_FlitsAndLinkReplies_13 : ∃ (l : Fin 8) (port : BitVec 10) (tag : BitVec 16) (s : State), linkDelivers s l.val = true
    ∧ arrivingOn s port tag = none ∧ (∀ f ∈ s.adm.flights, f.hdr.port ≠ port ∨ f.hdr.tag ≠ tag) ∧ RefusalLeaves s (portFldOf s
    BLV_PORT_CFG_LINK port.toNat) := ⟨2, 260, 8, wFlitsAndLinkReplies13, by unfold RefusalLeaves; decide +kernel⟩
def wFlitsAndLinkReplies14 : State :=
  setLink (withFlds wBoulevard [(BLV_STAT_STATE.inst 1, 2)]) 2 { LinkSt.reset with hdr := some (reqWord opWR wWr), need := 8, data := [5, 5] }
theorem witness_FlitsAndLinkReplies_14 : ∃ (l : Fin 8) (k : Nat) (port : BitVec 10) (tag : BitVec 16) (s : State), linkDelivers s
    l.val = true ∧ arrivingOn s port tag = some k ∧ s.rst.drain = none ∧ linkIsUp s (portFldOf s BLV_PORT_CFG_LINK port.toNat) =
    true ∧ (getLink s (portFldOf s BLV_PORT_CFG_LINK port.toNat)).backlog = [] ∧ 2 ≤ fld s (BLV_CREDIT_TX_CREDIT.inst (portFldOf s
    BLV_PORT_CFG_LINK port.toNat)) := ⟨1, 2, 260, 7, wFlitsAndLinkReplies14, by decide +kernel⟩
def wLinksTrainAndPortsAreGuarded1 : State := withFlds wBoulevard [(BLV_CTL_ENABLE.inst 2, 1)]
theorem witness_LinksTrainAndPortsAreGuarded_1 : ∃ (q : Requester) (l : Fin 9) (s : State), canWrite s q (linkPage l.val) = true ∧
    trainState s.vault = true ∧ s.vault ≠ .dump ∧ (l.val < 8 ∨ psgLive s = false) ∧ flag s (linkEnable l.val) = true ∧ accepts s
    (linkPage l.val) = true := ⟨.core, 2, wLinksTrainAndPortsAreGuarded1, by decide +kernel⟩
def wLinksTrainAndPortsAreGuarded1b : State := withFlds wServe [(PSG_CTL_ENABLE, 1)]
theorem witness_LinksTrainAndPortsAreGuarded_1b : ∃ (q : Requester) (l : Fin 9) (s : State), canWrite s q (linkPage l.val) = true ∧
    trainState s.vault = true ∧ s.vault ≠ .dump ∧ (l.val < 8 ∨ psgLive s = false) ∧ flag s (linkEnable l.val) = true ∧ accepts s
    (linkPage l.val) = true := ⟨.core, 8, wLinksTrainAndPortsAreGuarded1b, by decide +kernel⟩
def wLinksTrainAndPortsAreGuarded2 : State := { wServe with vault := .boot }
theorem witness_LinksTrainAndPortsAreGuarded_2 : ∃ (q : Requester) (l : Fin 9) (s : State), canWrite s q (linkPage l.val) = true ∧
    (trainState s.vault = false ∨ s.vault = .dump ∨ flag s (linkEnable l.val) = false) := ⟨.core, 3, wLinksTrainAndPortsAreGuarded2,
    by decide +kernel⟩
def wLinksTrainAndPortsAreGuarded3 : State := withFlds { wLinkUp with vault := .join } [(PSG_CTL_ENABLE, 1)]
theorem witness_LinksTrainAndPortsAreGuarded_3 : ∃ (q : Requester) (s : State), canWrite s q 0x28 = true ∧ (s.vault = .join ∨
    s.vault = .culdesac) ∧ psgUp s = true ∧ flag s PSG_CTL_ENABLE = true ∧ accepts s 0x28 = true := ⟨.core,
    wLinksTrainAndPortsAreGuarded3, by decide +kernel⟩
def wLinksTrainAndPortsAreGuarded4 : State := withFlds wBoulevard [(BLV_STAT_STATE.inst 2, 1)]
theorem witness_LinksTrainAndPortsAreGuarded_4 : ∃ (l : Fin 8) (s : State), dataUp s = true ∧ trainState s.vault = true ∧ fld s
    (BLV_STAT_STATE.inst l.val) = 1 ∧ widthFor s l.val ≠ 0 := ⟨2, wLinksTrainAndPortsAreGuarded4, by decide +kernel⟩
def wLinksTrainAndPortsAreGuarded5 : State := withFlds wBoulevard [(BLV_STAT_STATE.inst 2, 1)]
theorem witness_LinksTrainAndPortsAreGuarded_5 : ∃ (l : Fin 8) (s : State), dataUp s = true ∧ trainState s.vault = true ∧ fld s
    (BLV_STAT_STATE.inst l.val) = 1 ∧ widthFor s l.val ≠ 0 ∧ (getLink s l.val).backlog = [] ∧ NothingReady s := ⟨2,
    wLinksTrainAndPortsAreGuarded5, by unfold NothingReady; decide +kernel⟩
def wLinksTrainAndPortsAreGuarded6 : State := setLink (withFlds wServe [(PSG_STAT_STATE, 1)]) 8 { LinkSt.reset with keep := true }
theorem witness_LinksTrainAndPortsAreGuarded_6 : ∃ (s : State), dataUp s = true ∧ trainState s.vault = true ∧ fld s PSG_STAT_STATE =
    1 ∧ widthFor s 8 ≠ 0 ∧ (getLink s 8).keep = true := ⟨wLinksTrainAndPortsAreGuarded6, by decide +kernel⟩
def wLinksTrainAndPortsAreGuarded7 : State := withFlds wServe [(PSG_STAT_STATE, 1)]
theorem witness_LinksTrainAndPortsAreGuarded_7 : ∃ (s : State), dataUp s = true ∧ trainState s.vault = true ∧ fld s PSG_STAT_STATE =
    1 ∧ widthFor s 8 ≠ 0 ∧ (getLink s 8).keep = false := ⟨wLinksTrainAndPortsAreGuarded7, by decide +kernel⟩
theorem witness_LinksTrainAndPortsAreGuarded_8 : ∃ (l : Fin 9) (s : State), laneMap s l.val = 0 := ⟨8, wServe, by decide +kernel⟩
def wLinksTrainAndPortsAreGuarded9 : State := withFlds wBoulevard [(BLV_CTL_HALF_OK.inst 2, 1)]
theorem witness_LinksTrainAndPortsAreGuarded_9 : ∃ (l : Fin 8) (lane : Fin 16) (s : State), dataUp s = true ∧ lane.val < 8 ∧ fld s
    (BLV_STAT_STATE.inst l.val) = 2 ∧ laneMap s l.val = 0 ∧ flag s (BLV_CTL_HALF_OK.inst l.val) = true := ⟨2, 3,
    wLinksTrainAndPortsAreGuarded9, by decide +kernel⟩
def wLinksTrainAndPortsAreGuarded9b : State := withFlds wBoulevard [(BLV_CTL_HALF_OK.inst 2, 1)]
theorem witness_LinksTrainAndPortsAreGuarded_9b : ∃ (l : Fin 8) (lane : Fin 16) (s : State), dataUp s = true ∧ lane.val < 8 ∧ fld s
    (BLV_STAT_STATE.inst l.val) = 2 ∧ laneMap s l.val = 0 ∧ flag s (BLV_CTL_HALF_OK.inst l.val) = true := ⟨2, 4,
    wLinksTrainAndPortsAreGuarded9b, by decide +kernel⟩
def wLinksTrainAndPortsAreGuarded10 : State := withFlds wBoulevard [(BLV_CTL_HALF_OK.inst 2, 1), (FLT_CLASS_SRC 0x1A 1, 1)]
theorem witness_LinksTrainAndPortsAreGuarded_10 : ∃ (l : Fin 8) (lane : Fin 16) (s : State), dataUp s = true ∧ lane.val < 8 ∧ fld s
    (BLV_STAT_STATE.inst l.val) = 2 ∧ laneMap s l.val = 0 ∧ flag s (BLV_CTL_HALF_OK.inst l.val) = true ∧ LogsOnly s (srcBlv l.val 1)
    := ⟨2, 3, wLinksTrainAndPortsAreGuarded10, by unfold LogsOnly; decide +kernel⟩
def wLinksTrainAndPortsAreGuarded11 : State := withFlds wBoulevard [(BLV_CTL_HALF_OK.inst 2, 0)]
theorem witness_LinksTrainAndPortsAreGuarded_11 : ∃ (l : Fin 8) (lane : Fin 16) (s : State), dataUp s = true ∧ lane.val < 8 ∧ fld s
    (BLV_STAT_STATE.inst l.val) = 2 ∧ flag s (BLV_CTL_HALF_OK.inst l.val) = false := ⟨2, 7, wLinksTrainAndPortsAreGuarded11,
    by decide +kernel⟩
def wLinksTrainAndPortsAreGuarded12 : State := withFlds wLinkUp [(PSG_CTL_HALF_OK, 1)]
theorem witness_LinksTrainAndPortsAreGuarded_12 : ∃ (lane : Fin 16) (s : State), dataUp s = true ∧ fld s PSG_STAT_STATE = 2 ∧
    s.psg.lanes = 0 ∧ flag s PSG_CTL_HALF_OK = true := ⟨15, wLinksTrainAndPortsAreGuarded12, by decide +kernel⟩
def wLinksTrainAndPortsAreGuarded13 : State := withFlds wBoulevard [(BLV_CTL_AUTO_RETRAIN.inst 2, 0)]
theorem witness_LinksTrainAndPortsAreGuarded_13 : ∃ (l : Fin 8) (s : State), dataUp s = true ∧ fld s (BLV_STAT_STATE.inst l.val) = 2
    ∧ s.adm.flights = [] ∧ NothingLate s l.val := ⟨2, wLinksTrainAndPortsAreGuarded13,
    by refine ⟨by decide +kernel, by decide +kernel, by decide +kernel, notLate_of _ _ (by decide +kernel) (by decide +kernel)⟩⟩
def wLinksTrainAndPortsAreGuarded13b : State := withFlds wBoulevard [(BLV_CTL_AUTO_RETRAIN.inst 2, 1)]
theorem witness_LinksTrainAndPortsAreGuarded_13b : ∃ (l : Fin 8) (s : State), dataUp s = true ∧ fld s (BLV_STAT_STATE.inst l.val) =
    2 ∧ s.adm.flights = [] ∧ NothingLate s l.val := ⟨2, wLinksTrainAndPortsAreGuarded13b,
    by refine ⟨by decide +kernel, by decide +kernel, by decide +kernel, notLate_of _ _ (by decide +kernel) (by decide +kernel)⟩⟩
def wLinksTrainAndPortsAreGuarded14 : State := withFlds { wLinkUp with vault := .join } [(FLT_CLASS_SRC 0x28 0, 1)]
theorem witness_LinksTrainAndPortsAreGuarded_14 : ∃ (s : State), dataUp s = true ∧ fld s PSG_STAT_STATE = 2 ∧ (s.vault = .join ∨
    s.vault = .culdesac) ∧ LogsOnly s (srcPsg 0) := ⟨wLinksTrainAndPortsAreGuarded14, by unfold LogsOnly; decide +kernel⟩
def wStandby : State := withFlds (setPortFldOf wBoulevard BLV_PORT_CFG_STANDBY 260 5) [(BLV_STAT_STATE.inst 5, 2)]
theorem witness_LinksTrainAndPortsAreGuarded_15 : ∃ (l m : Nat) (p : Nat) (s : State), l < 8 ∧ m < 8 ∧ enabledPorts s = [p] ∧
    portFldOf s BLV_PORT_CFG_LINK p = l ∧ portFldOf s BLV_PORT_CFG_STANDBY p = m ∧ linkIsUp s m = true ∧ m ≠ l ∧ NothingLate s l :=
    ⟨2, 5, 260, wStandby,
    by refine ⟨by decide +kernel, by decide +kernel, by decide +kernel, by decide +kernel, by decide +kernel, by decide +kernel, by decide +kernel, notLate_of _ _ (by decide +kernel) (by decide +kernel)⟩⟩
def wIdx4 : State := withFlds wBoulevard [(BLV_PORT_IDX_INDEX.inst 2, 4)]
def wLinksTrainAndPortsAreGuarded16 : State := setPortFldOf (setPortFldOf wIdx4 BLV_PORT_CFG_ENABLE 3 1) BLV_PORT_CFG_INFLIGHT_MAX 3 2
theorem witness_LinksTrainAndPortsAreGuarded_16 : ∃ (q : Requester) (l : Fin 8) (v : Word) (s : State), canWrite s q (0x18 + l.val)
    = true ∧ (let p := (128 * l.val + indexOf s q (BLV_PORT_IDX_INDEX.inst l.val)); bitAt v.toNat 0 = true ∧ 65536 < inflightSum s p
    v) := ⟨.core, 2, BitVec.ofNat 64 (65535 * 2 ^ 48 + 1), wLinksTrainAndPortsAreGuarded16, by decide +kernel⟩
def wLinksTrainAndPortsAreGuarded17 : State := setPortFldOf wIdx4 BLV_PORT_CFG_ENABLE 260 0
theorem witness_LinksTrainAndPortsAreGuarded_17 : ∃ (q : Requester) (l : Fin 8) (v : Word) (s : State), canWrite s q (0x18 + l.val)
    = true ∧ (let p := (128 * l.val + indexOf s q (BLV_PORT_IDX_INDEX.inst l.val)); inflightSum s p v ≤ 65536 ∧ bitsOf v.toNat 7 5 =
    portFldOf s BLV_PORT_CFG_LINK p) := ⟨.core, 2, BitVec.ofNat 64 (8 * 2 ^ 48 + 2 * 32 + 5 * 256 + 1),
    wLinksTrainAndPortsAreGuarded17, by decide +kernel⟩
/-- Sixteen-gigabit devices, one request booked on the line. -/
def wMapped : State := withFlds wServe ((DRC_MAP_DENSITY, 2) :: (List.range 4).map (fun n => (DRC_CTL_ENABLE.inst n, 1)))
def wHdrS : ReqHdr := { crc := 0, rsvd := 0, sub := 0, epoch := 0, hint := 0, count := 1, addr := 0x100, tenant := 0, tag := 7, port := 260 }
def wFlightS (opc : Nat) : Flight :=
  { link := 2, opc := opc, hdr := wHdrS, data := [], epoch := 0, seq := 0, arrival := 0, deadline := 9000, win := 0, dline := 0, n := 1,
    pool := 0, left := 1, status := 0, slot := 0, swapped := false, full := false, lines := [], result := [], ack := none, keyW := 0, fwd := 0 }
def wItemS (w : Work) : Item :=
  { id := 3, sub := 0, bank := 0, row := 0, line := 5, dl := 9000, cb := 2, ca := 0, ck := 0, acts := 0, hint := false,
    work := w, tag := some 7, stage := .queue, input := 6, inter := 9, entered := 0, urgency := 3 }
def wQueued (opc : Nat) (w : Work) : State :=
  { wMapped with adm := { AdmSt.reset with flights := [wFlightS opc], items := [wItemS w] }, dram := { DramSt.reset with row := [(0, 1)], cells := [(322, 9)] }, now := 9000 }
def wDramServesRefreshesAndPatrols1 : State := wQueued opRD (.read 0)
theorem witness_DramServesRefreshesAndPatrols_1 : ∃ (sub : Fin 32) (it : Item) (f : Flight) (k : Nat) (s : State), SlotRuns s sub ∧
    pickItem (slotState s sub) sub.val = some it ∧ it.work = .read k ∧ it.tag.bind (flightOf s) = some f ∧ nget (slotState s
    sub).dram.row (bankKey it.sub it.bank) = it.row + 1 ∧ isPoison s it.line = false ∧ s.dram.capture.contains it.line = false ∧
    s.now ≤ it.dl := ⟨0, wItemS (.read 0), wFlightS opRD, 0, wDramServesRefreshesAndPatrols1, by unfold SlotRuns; decide +kernel⟩
def wQueuedTwo : State := { wQueued opRD (.read 0) with adm := { AdmSt.reset with flights := [{ wFlightS opRD with left := 2 }], items := [wItemS (.read 0)] } }
theorem witness_DramServesRefreshesAndPatrols_2 : ∃ (sub : Fin 32) (it : Item) (f : Flight) (k : Nat) (s : State), SlotRuns s sub ∧
    pickItem (slotState s sub) sub.val = some it ∧ it.work = .read k ∧ it.tag.bind (flightOf s) = some f ∧ nget (slotState s
    sub).dram.row (bankKey it.sub it.bank) = it.row + 1 ∧ isPoison s it.line = false ∧ s.dram.capture.contains it.line = false ∧
    s.now ≤ it.dl ∧ NothingReady s ∧ 2 ≤ f.left := ⟨0, wItemS (.read 0), { wFlightS opRD with left := 2 }, 0, wQueuedTwo,
    by unfold NothingReady SlotRuns; decide +kernel⟩
def wDramServesRefreshesAndPatrols3 : State := wQueued opWR (.write 0 77)
theorem witness_DramServesRefreshesAndPatrols_3 : ∃ (sub : Fin 32) (it : Item) (f : Flight) (k : Nat) (d : Line) (s : State),
    SlotRuns s sub ∧ pickItem (slotState s sub) sub.val = some it ∧ it.work = .write k d ∧ it.tag.bind (flightOf s) = some f ∧ f.opc
    = opWR ∧ nget (slotState s sub).dram.row (bankKey it.sub it.bank) = it.row + 1 ∧ s.cen.snap = false ∧ f.fwd = 0 ∧ s.now ≤ it.dl
    := ⟨0, wItemS (.write 0 77), wFlightS opWR, 0, 77, wDramServesRefreshesAndPatrols3, by unfold SlotRuns; decide +kernel⟩
def wMir : MirrorLine := { line := 64, data := 99, masked := false, at_ := 0, stage := .queue, input := 24, inter := 0, entered := 0 }
def wMirrored : State := { wMapped with psg := { PsgSt.reset with mirrorQ := [{ wMir with line := 5, masked := true }, wMir] }, dram := { DramSt.reset with row := [(16, 1)] } }
theorem witness_DramServesRefreshesAndPatrols_4 : ∃ (sub : Fin 32) (m : MirrorLine) (s : State), SlotRuns s sub ∧ pickItem
    (slotState s sub) sub.val = none ∧ (∀ e ∈ s.adm.plaza, e.output ≠ sub.val ∨ e.stage ≠ .queue) ∧ nextMirror (slotState s sub)
    sub.val = some m ∧ m.masked = false ∧ nget (slotState s sub).dram.row (bankKey sub.val (bankOf s m.line)) = rowOf s m.line + 1 ∧
    reserveRoom (slotState s sub) sub.val (internalCost (slotState s sub) m.line true) = true ∧ flag s PSG_STAT_FWD_ALL = false :=
    ⟨1, wMir, wMirrored, by unfold SlotRuns; decide +kernel⟩
def wDramServesRefreshesAndPatrols5 : State := { wMirrored with adm := { AdmSt.reset with serviceReserve := 0 } }
theorem witness_DramServesRefreshesAndPatrols_5 : ∃ (sub : Fin 32) (m : MirrorLine) (s : State), SlotRuns s sub ∧ pickItem
    (slotState s sub) sub.val = none ∧ (∀ e ∈ s.adm.plaza, e.output ≠ sub.val ∨ e.stage ≠ .queue) ∧ nextMirror (slotState s sub)
    sub.val = some m ∧ reserveRoom (slotState s sub) sub.val (internalCost (slotState s sub) m.line true) = false := ⟨1, wMir,
    wDramServesRefreshesAndPatrols5, by unfold SlotRuns; decide +kernel⟩
def wDramServesRefreshesAndPatrols6 : State := { wMapped with dram := { DramSt.reset with refDue := [(31, 101)] } }
theorem witness_DramServesRefreshesAndPatrols_6 : ∃ (sub : Fin 32) (due : Nat) (s : State), dataUp s = true ∧ nget s.dram.refDue
    sub.val = due + 1 ∧ flag s (subOffline sub.val) = false := ⟨31, 100, wDramServesRefreshesAndPatrols6, by decide +kernel⟩
def wDramServesRefreshesAndPatrols7 : State :=
  withFlds { wMapped with dram := { DramSt.reset with refDue := [(31, 101)] } } [(subOffline 31, 1)]
theorem witness_DramServesRefreshesAndPatrols_7 : ∃ (sub : Fin 32) (due : Nat) (s : State), dataUp s = true ∧ nget s.dram.refDue
    sub.val = due + 1 ∧ flag s (subOffline sub.val) = true := ⟨31, 100, wDramServesRefreshesAndPatrols7, by decide +kernel⟩
def wDramServesRefreshesAndPatrols8 : State := wQueued opRD .refresh
theorem witness_DramServesRefreshesAndPatrols_8 : ∃ (sub : Fin 32) (it : Item) (s : State), dataUp s = true ∧ leastBy Item.dl
    (s.adm.items.filter (fun x => decide (x.sub = sub.val) && decide (x.work = .refresh))) = some it := ⟨0, wItemS .refresh,
    wDramServesRefreshesAndPatrols8, by decide +kernel⟩
def wDramServesRefreshesAndPatrols9 : State := withFlds (wQueued opRD .refresh) [(FLT_CLASS_SRC 0x20 3, 1)]
theorem witness_DramServesRefreshesAndPatrols_9 : ∃ (sub : Fin 32) (it : Item) (s : State), dataUp s = true ∧ leastBy Item.dl
    (s.adm.items.filter (fun x => decide (x.sub = sub.val) && decide (x.work = .refresh))) = some it ∧ it.dl ≤ s.now ∧
    s.ring.slewLeft = 0 ∧ LogsOnly s (srcDrc (sub.val / 8) 3) := ⟨0, wItemS .refresh, wDramServesRefreshesAndPatrols9,
    by unfold LogsOnly; decide +kernel⟩
def wPatrolLine : Nat := lineOfSub wMapped 9 16777215
def wPatrol : State := withFlds { wMapped with dram := { DramSt.reset with patrol := [(9, 16777215)], row := [(bankKey 9 (bankOf wMapped wPatrolLine), rowOf wMapped wPatrolLine + 1)] } } [(DRC_SCRUB_ENABLE.inst 1, 1)]
theorem witness_DramServesRefreshesAndPatrols_10 : ∃ (sub : Fin 32) (s : State), dataUp s = true ∧ serving s = true ∧ flag s
    (DRC_SCRUB_ENABLE.inst (sub.val / 8)) = true ∧ flag s (subOffline sub.val) = false ∧ subServes s sub.val = true ∧ 0 < subLines s
    ∧ (let l := lineOfSub s sub.val (nget s.dram.patrol sub.val); unitReady s (unitOf l) = true ∧ s.dram.capture.contains l = false
    ∧ isPoison s l = false ∧ nget s.dram.row (bankKey (subOf s l) (bankOf s l)) = rowOf s l + 1 ∧ hkRoom (rollWindow s) sub.val
    (internalCost (rollWindow s) l false) = true) := ⟨9, wPatrol, by decide +kernel⟩
theorem witness_DramServesRefreshesAndPatrols_11 : ∃ (e : Ecc) (k : Nat) (d : Line), k ≤ 10 ∧ (e = .corrected k ∨ e = .uncorrectable
    k ∨ e = .miscorrected k d ∨ e = .undetected k d) := ⟨.miscorrected 8 5, 8, 5, by decide +kernel⟩
theorem witness_DramServesRefreshesAndPatrols_11b : ∃ (e : Ecc) (k : Nat) (d : Line), k ≤ 10 ∧ (e = .corrected k ∨ e =
    .uncorrectable k ∨ e = .miscorrected k d ∨ e = .undetected k d) := ⟨.undetected 5 6, 5, 6, by decide +kernel⟩
def wFrequencyStepFollowsItsStates1 : State := State.reset
theorem witness_FrequencyStepFollowsItsStates_1 : ∃ (q : Requester) (v : Word) (s : State), canWrite s q 0x20 = true ∧ s.vault =
    .boot := ⟨.core, 0x23, wFrequencyStepFollowsItsStates1, by decide +kernel⟩
theorem witness_FrequencyStepFollowsItsStates_2 : ∃ (q : Requester) (v : Word) (s : State), canWrite s q 0x20 = true ∧ s.vault ≠
    .boot := ⟨.core, 0x23, wServe, by decide +kernel⟩
theorem witness_FrequencyStepFollowsItsStates_3 : ∃ (q : Requester) (k : Fin 4) (v : Word) (s : State), k ≠ 0 := ⟨.core, 3, 0x23,
    wServe, by decide +kernel⟩
def wTemps (x : Int) : List Int := List.replicate 23 20 ++ [x]
def wFrequencyStepFollowsItsStates5 : State :=
  withFlds wServe [(DRC_THERM_RATE_HI.inst 3, 85), (DRC_THERM_STEP_EN.inst 3, 0), (DRC_THERM_STEP_HI.inst 3, 90)]
theorem witness_FrequencyStepFollowsItsStates_5 : ∃ (k : Fin 4) (l : List Int) (x : Int) (s : State), dataUp s = true ∧ quadTemp l =
    some x ∧ flag s (DRC_STAT_RATE_PEND.inst k.val) = false ∧ flag s (DRC_STAT_RATE2X.inst k.val) = false ∧ (fld s
    (DRC_THERM_RATE_HI.inst k.val) : Int) ≤ x ∧ flag s (DRC_THERM_STEP_EN.inst k.val) = false := ⟨3, wTemps 85, 85,
    wFrequencyStepFollowsItsStates5, by decide +kernel⟩
def wTrained : State := withFlds wMapped ((List.range 8).flatMap (fun n => [(DRP_STAT_TRAINED_A.inst n, 1), (DRP_STAT_TRAINED_B.inst n, 1)]))
def wFrequencyStepFollowsItsStates6 : State :=
  withFlds wTrained [(DRC_STAT_RATE_PEND, 1), (DRC_THERM_STEP_EN, 1), (DRC_THERM_STEP_HI, 90)]
theorem witness_FrequencyStepFollowsItsStates_6 : ∃ (k : Fin 4) (l : List Int) (x : Int) (s : State), dataUp s = true ∧ quadTemp l =
    some x ∧ flag s (DRC_STAT_RATE_PEND.inst k.val) = true ∧ flag s (DRC_THERM_STEP_EN.inst k.val) = true ∧ (fld s
    (DRC_THERM_STEP_HI.inst k.val) : Int) ≤ x ∧ fld s (DRC_STAT_STEP_STATE.inst k.val) = 0 ∧ activeSet s k.val = 0 ∧ quadTrained s
    k.val 1 = true := ⟨0, wTemps 90, 90, wFrequencyStepFollowsItsStates6, by decide +kernel⟩
def wFrequencyStepFollowsItsStates7 : State :=
  { withFlds wServe [(DRC_STAT_RATE_PEND.inst 2, 1)] with dram := { DramSt.reset with rateTo := [(2, 1)] } }
theorem witness_FrequencyStepFollowsItsStates_7 : ∃ (k : Fin 4) (s : State), dataUp s = true ∧ flag s (DRC_STAT_RATE_PEND.inst
    k.val) = true := ⟨2, wFrequencyStepFollowsItsStates7, by decide +kernel⟩
def wFrequencyStepFollowsItsStates9 : State := withFlds wMapped [(DRC_STAT_STEP_STATE.inst 1, 2), (DRC_STEPS_IGNORED.inst 1, 2 ^ 32 - 1)]
theorem witness_FrequencyStepFollowsItsStates_9 : ∃ (q : Requester) (k : Fin 4) (s : State), canWrite s q (0x20 + k.val) = true ∧
    flag s (DRC_CTL_ENABLE.inst k.val) = true ∧ fld s (DRC_STAT_STEP_STATE.inst k.val) ≠ 0 := ⟨.core, 1,
    wFrequencyStepFollowsItsStates9, by decide +kernel⟩
def wFrequencyStepFollowsItsStates11 : State := withFlds wTrained [(DRC_CTL_TARGET, 1)]
theorem witness_FrequencyStepFollowsItsStates_11 : ∃ (q : Requester) (k : Fin 4) (s : State), canWrite s q (0x20 + k.val) = true ∧
    flag s (DRC_CTL_ENABLE.inst k.val) = true ∧ fld s (DRC_STAT_STEP_STATE.inst k.val) = 0 ∧ quadTrained s k.val (fld s
    (DRC_CTL_TARGET.inst k.val)) = true := ⟨.core, 0, wFrequencyStepFollowsItsStates11, by decide +kernel⟩
theorem witness_FrequencyStepFollowsItsStates_12 : ∃ (q : Requester) (k : Fin 4) (s : State), canWrite s q (0x20 + k.val) = true ∧
    flag s (DRC_CTL_ENABLE.inst k.val) = true ∧ fld s (DRC_STAT_STEP_STATE.inst k.val) = 0 ∧ quadTrained s k.val (fld s
    (DRC_CTL_TARGET.inst k.val)) = false := ⟨.core, 2, wTrained, by decide +kernel⟩
def wFrequencyStepFollowsItsStates13 : State :=
  { withFlds wServe [(DRC_STAT_STEP_STATE.inst 1, 1)] with dram := { DramSt.reset with row := [(128, 5), (130, 2)] }, adm := { AdmSt.reset with items := [{ wItemS .refresh with sub := 8 }] } }
theorem witness_FrequencyStepFollowsItsStates_13 : ∃ (k : Fin 4) (s : State), dataUp s = true ∧ fld s (DRC_STAT_STEP_STATE.inst
    k.val) = 1 := ⟨1, wFrequencyStepFollowsItsStates13, by decide +kernel⟩
def wFrequencyStepFollowsItsStates14 : State :=
  { withFlds wServe [(DRC_STAT_STEP_STATE.inst 1, 2), (ADM_FSTEP_PENDING, 2)] with dram := { DramSt.reset with stepTo := [(1, 2)], stepAt := [(1, 1)] } }
theorem witness_FrequencyStepFollowsItsStates_14 : ∃ (k : Fin 4) (s : State), dataUp s = true ∧ fld s (DRC_STAT_STEP_STATE.inst
    k.val) = 2 ∧ stepTarget s k.val < 2 := ⟨1, wFrequencyStepFollowsItsStates14, by decide +kernel⟩
def wFrequencyStepFollowsItsStates15 : State := withFlds wServe [(DRC_STAT_STEP_STATE.inst 3, 2)]
theorem witness_FrequencyStepFollowsItsStates_15 : ∃ (k : Fin 4) (s : State), dataUp s = true ∧ fld s (DRC_STAT_STEP_STATE.inst
    k.val) = 2 := ⟨3, wFrequencyStepFollowsItsStates15, by decide +kernel⟩
def wTempsUp : List Int := (List.range 24).map (fun (n : Nat) => (n : Int) - 30)
theorem witness_FrequencyStepFollowsItsStates_4 : ∃ (l : List Int), l.length = 24 := ⟨wTempsUp, by decide +kernel⟩
def wFrequencyStepFollowsItsStates10 : State := withFlds wServe [(DRC_CTL_ENABLE.inst 1, 0)]
theorem witness_FrequencyStepFollowsItsStates_10 : ∃ (q : Requester) (k : Fin 4) (s : State), canWrite s q (0x20 + k.val) = true ∧
    flag s (DRC_CTL_ENABLE.inst k.val) = false := ⟨.core, 1, wFrequencyStepFollowsItsStates10, by decide +kernel⟩
def wFrequencyStepFollowsItsStates16 : State := withFlds wServe [(DRC_STAT_STEP_STATE.inst 3, 2), (FLT_CLASS_SRC 0x23 6, 1)]
theorem witness_FrequencyStepFollowsItsStates_16 : ∃ (k : Fin 4) (s : State), dataUp s = true ∧ fld s (DRC_STAT_STEP_STATE.inst
    k.val) = 2 ∧ LogsOnly s (srcDrc k.val 6) := ⟨3, wFrequencyStepFollowsItsStates16, by unfold LogsOnly; decide +kernel⟩
def wPhysTrainAndSubchannelsLeave1 : State := withFlds wServe [(DRP_CTL_ENABLE.inst 31, 1)]
theorem witness_PhysTrainAndSubchannelsLeave_1 : ∃ (sub : Fin 32) (s : State), dataUp s = true ∧ flag s (DRP_CTL_ENABLE.inst
    sub.val) = true := ⟨31, wPhysTrainAndSubchannelsLeave1, by decide +kernel⟩
theorem witness_PhysTrainAndSubchannelsLeave_2 : ∃ (sub : Fin 32) (s : State), dataUp s = true := ⟨31, wTrained, by decide +kernel⟩
theorem witness_PhysTrainAndSubchannelsLeave_4 : ∃ (sub : Fin 32) (d : Int) (s : State), dataUp s = true ∧ -128 ≤ d ∧ d ≤ 127 := ⟨0,
    -128, wServe, by decide +kernel⟩
def wPhysTrainAndSubchannelsLeave14 : State := withFlds wServe [(DRP_TRAIN_CTL_BUSY.inst 7, 1), (DRP_TRAIN_CTL_MODE.inst 7, 3)]
theorem witness_PhysTrainAndSubchannelsLeave_14 : ∃ (sub : Fin 32) (pass : BitVec 45) (fin : Bool) (s : State), dataUp s = true ∧
    flag s (DRP_TRAIN_CTL_BUSY.inst sub.val) = true ∧ fld s (DRP_TRAIN_CTL_MODE.inst sub.val) ≠ 6 ∧ fld s (DRP_TRAIN_CTL_MODE.inst
    sub.val) ≠ 8 := ⟨7, BitVec.allOnes 45, false, wPhysTrainAndSubchannelsLeave14, by decide +kernel⟩
def wPhysTrainAndSubchannelsLeave14b : State := withFlds wServe [(DRP_TRAIN_CTL_BUSY.inst 7, 1), (DRP_TRAIN_CTL_MODE.inst 7, 5)]
theorem witness_PhysTrainAndSubchannelsLeave_14b : ∃ (sub : Fin 32) (pass : BitVec 45) (fin : Bool) (s : State), dataUp s = true ∧
    flag s (DRP_TRAIN_CTL_BUSY.inst sub.val) = true ∧ fld s (DRP_TRAIN_CTL_MODE.inst sub.val) ≠ 6 ∧ fld s (DRP_TRAIN_CTL_MODE.inst
    sub.val) ≠ 8 := ⟨7, 0, true, wPhysTrainAndSubchannelsLeave14b, by decide +kernel⟩
theorem witness_PhysTrainAndSubchannelsLeave_16 : ∃ (q : Requester) (sub : Fin 32) (x : BitVec 2) (s : State), canWrite s q (0x40 +
    sub.val) = true := ⟨.core, 3, 2, wServe, by decide +kernel⟩
theorem witness_PhysTrainAndSubchannelsLeave_17 : ∃ (q : Requester) (sub : Fin 32) (s : State), canWrite s q (0x40 + sub.val) = true
    := ⟨.core, 3, wServe, by decide +kernel⟩
def wPhysTrainAndSubchannelsLeave17b : State := State.reset
theorem witness_PhysTrainAndSubchannelsLeave_17b : ∃ (q : Requester) (sub : Fin 32) (s : State), canWrite s q (0x40 + sub.val) =
    true := ⟨.core, 3, wPhysTrainAndSubchannelsLeave17b, by decide +kernel⟩
def wDly (e : Nat) : State := withFlds { State.reset with vault := .boot } [(DRP_DLY_IDX_PIN.inst 9, 44), (DRP_CTL_SET_EDIT.inst 9, e)]
def wPhysTrainAndSubchannelsLeave18 : State := wDly 0
theorem witness_PhysTrainAndSubchannelsLeave_18 : ∃ (q : Requester) (sub : Fin 32) (v : Word) (s : State), canWrite s q (0x40 +
    sub.val) = true ∧ (let pin := (indexOf s q (DRP_DLY_IDX_PIN.inst sub.val)); let e := (fld s (DRP_CTL_SET_EDIT.inst sub.val));
    pin ≤ 59 ∧ (activeSet s (sub.val / 8) ≠ e ∨ s.vault = .boot ∨ flag s (subOffline sub.val) = true)) := ⟨.core, 9, BitVec.allOnes
    64, wPhysTrainAndSubchannelsLeave18, by decide +kernel⟩
def wPhysTrainAndSubchannelsLeave18b : State := withFlds { wDly 1 with vault := .serve } [(DRP_DLY_IDX_PIN.inst 9, 59)]
theorem witness_PhysTrainAndSubchannelsLeave_18b : ∃ (q : Requester) (sub : Fin 32) (v : Word) (s : State), canWrite s q (0x40 +
    sub.val) = true ∧ (let pin := (indexOf s q (DRP_DLY_IDX_PIN.inst sub.val)); let e := (fld s (DRP_CTL_SET_EDIT.inst sub.val));
    pin ≤ 59 ∧ (activeSet s (sub.val / 8) ≠ e ∨ s.vault = .boot ∨ flag s (subOffline sub.val) = true)) := ⟨.core, 9, BitVec.allOnes
    64, wPhysTrainAndSubchannelsLeave18b, by decide +kernel⟩
def wPhysTrainAndSubchannelsLeave19 : State := { wDly 0 with vault := .serve }
theorem witness_PhysTrainAndSubchannelsLeave_19 : ∃ (q : Requester) (sub : Fin 32) (v : Word) (s : State), canWrite s q (0x40 +
    sub.val) = true ∧ indexOf s q (DRP_DLY_IDX_PIN.inst sub.val) ≤ 59 ∧ activeSet s (sub.val / 8) = fld s (DRP_CTL_SET_EDIT.inst
    sub.val) ∧ s.vault ≠ .boot ∧ flag s (subOffline sub.val) = false := ⟨.core, 9, 5, wPhysTrainAndSubchannelsLeave19,
    by decide +kernel⟩
def wOff (n : Nat) : State := withFlds wTrained [(subOffline n, 1)]
theorem witness_PhysTrainAndSubchannelsLeave_20 : ∃ (q : Requester) (sub : Fin 32) (est : BitVec 16) (s : State), canWrite s q (0x20
    + sub.val / 8) = true ∧ (∀ n, n < 32 → flag s (subOffline n) = false) := ⟨.core, 5, 900, wTrained, by decide +kernel⟩
def wPhysTrainAndSubchannelsLeave21 : State := wOff 6
theorem witness_PhysTrainAndSubchannelsLeave_21 : ∃ (q : Requester) (sub n : Fin 32) (est : BitVec 16) (s : State), canWrite s q
    (0x20 + sub.val / 8) = true ∧ n ≠ sub ∧ flag s (subOffline n.val) = true := ⟨.core, 5, 6, 900, wPhysTrainAndSubchannelsLeave21,
    by decide +kernel⟩
def wPhysTrainAndSubchannelsLeave22 : State := wOff 6
theorem witness_PhysTrainAndSubchannelsLeave_22 : ∃ (sub : Fin 32) (s : State), dataUp s = true ∧ flag s (subOffline sub.val) = true
    ∧ (∀ it ∈ s.adm.items, it.sub ≠ sub.val) := ⟨6, wPhysTrainAndSubchannelsLeave22, by decide +kernel⟩
def wPhysTrainAndSubchannelsLeave23 : State := { wOff 6 with dram := { DramSt.reset with resynced := [(6, 2)] } }
theorem witness_PhysTrainAndSubchannelsLeave_23 : ∃ (q : Requester) (sub : Fin 32) (est : BitVec 16) (s : State), canWrite s q (0x20
    + sub.val / 8) = true ∧ flag s (subOffline sub.val) = true ∧ resyncDone s sub.val = true ∧ flag s (DRP_STAT_TRAINED_A.inst
    sub.val) = true ∧ flag s (DRP_STAT_TRAINED_B.inst sub.val) = true := ⟨.core, 6, 900, wPhysTrainAndSubchannelsLeave23,
    by decide +kernel⟩
def wPhysTrainAndSubchannelsLeave24 : State := wOff 6
theorem witness_PhysTrainAndSubchannelsLeave_24 : ∃ (q : Requester) (sub : Fin 32) (est : BitVec 16) (s : State), canWrite s q (0x20
    + sub.val / 8) = true ∧ flag s (subOffline sub.val) = true ∧ (resyncDone s sub.val = false ∨ flag s (DRP_STAT_TRAINED_A.inst
    sub.val) = false ∨ flag s (DRP_STAT_TRAINED_B.inst sub.val) = false) := ⟨.core, 6, 900, wPhysTrainAndSubchannelsLeave24,
    by decide +kernel⟩
def wPhysTrainAndSubchannelsLeave3b : State := withFlds wServe [(FLT_CLASS_SRC 0x5F 2, 1)]
theorem witness_PhysTrainAndSubchannelsLeave_3b : ∃ (sub : Fin 32) (s : State), dataUp s = true ∧ (serving s = false ∨ LogsOnly s
    (srcDrp sub.val 2)) := ⟨31, wPhysTrainAndSubchannelsLeave3b, by unfold LogsOnly; decide +kernel⟩
def wPhysTrainAndSubchannelsLeave3c : State := { State.reset with vault := .boot }
theorem witness_PhysTrainAndSubchannelsLeave_3c : ∃ (sub : Fin 32) (s : State), dataUp s = true ∧ (serving s = false ∨ LogsOnly s
    (srcDrp sub.val 2)) := ⟨31, wPhysTrainAndSubchannelsLeave3c, by unfold LogsOnly; decide +kernel⟩
theorem witness_PhysTrainAndSubchannelsLeave_5 : ∃ (sub : Fin 32) (d : Int) (s : State), dataUp s = true ∧ d.natAbs ≤ 8 := ⟨0, -8,
    wServe, by decide +kernel⟩
theorem witness_PhysTrainAndSubchannelsLeave_6 : ∃ (q : Requester) (sub : Fin 32) (s : State), canWrite s q (0x40 + sub.val) = true
    ∧ accepts s (0x40 + sub.val) = true ∧ flag s (DRP_TRAIN_CTL_BUSY.inst sub.val) = false := ⟨.core, 31, wServe, by decide +kernel⟩
theorem witness_PhysTrainAndSubchannelsLeave_7 : ∃ (q : Requester) (sub : Fin 32) (s : State), canWrite s q (0x40 + sub.val) = true
    ∧ accepts s (0x40 + sub.val) = true ∧ flag s (DRP_TRAIN_CTL_BUSY.inst sub.val) = false := ⟨.core, 31, wServe, by decide +kernel⟩
theorem witness_PhysTrainAndSubchannelsLeave_8 : ∃ (q : Requester) (sub : Fin 32) (s : State), canWrite s q (0x40 + sub.val) = true
    ∧ accepts s (0x40 + sub.val) = true ∧ flag s (DRP_TRAIN_CTL_BUSY.inst sub.val) = false := ⟨.core, 31, wServe, by decide +kernel⟩
theorem witness_PhysTrainAndSubchannelsLeave_9 : ∃ (q : Requester) (sub : Fin 32) (s : State), canWrite s q (0x40 + sub.val) = true
    ∧ accepts s (0x40 + sub.val) = true ∧ flag s (DRP_TRAIN_CTL_BUSY.inst sub.val) = false := ⟨.core, 31, wServe, by decide +kernel⟩
theorem witness_PhysTrainAndSubchannelsLeave_10 : ∃ (q : Requester) (sub : Fin 32) (s : State), canWrite s q (0x40 + sub.val) = true
    ∧ accepts s (0x40 + sub.val) = true ∧ flag s (DRP_TRAIN_CTL_BUSY.inst sub.val) = false := ⟨.core, 31, wServe, by decide +kernel⟩
theorem witness_PhysTrainAndSubchannelsLeave_11 : ∃ (q : Requester) (sub : Fin 32) (s : State), canWrite s q (0x40 + sub.val) = true
    ∧ accepts s (0x40 + sub.val) = true ∧ flag s (DRP_TRAIN_CTL_BUSY.inst sub.val) = false := ⟨.core, 31, wServe, by decide +kernel⟩
theorem witness_PhysTrainAndSubchannelsLeave_12 : ∃ (q : Requester) (sub : Fin 32) (s : State), canWrite s q (0x40 + sub.val) = true
    ∧ accepts s (0x40 + sub.val) = true ∧ flag s (DRP_TRAIN_CTL_BUSY.inst sub.val) = false := ⟨.core, 31, wServe, by decide +kernel⟩
theorem witness_PhysTrainAndSubchannelsLeave_13 : ∃ (q : Requester) (sub : Fin 32) (s : State), canWrite s q (0x40 + sub.val) = true
    ∧ accepts s (0x40 + sub.val) = true ∧ flag s (DRP_TRAIN_CTL_BUSY.inst sub.val) = false := ⟨.core, 31, wServe, by decide +kernel⟩
def wPhysTrainAndSubchannelsLeave15 : State := withFlds wServe [(DRP_TRAIN_CTL_BUSY.inst 7, 1), (DRP_TRAIN_CTL_MODE.inst 7, 3)]
theorem witness_PhysTrainAndSubchannelsLeave_15 : ∃ (sub : Fin 32) (pass : BitVec 45) (fin : Bool) (s : State), dataUp s = true ∧
    flag s (DRP_TRAIN_CTL_BUSY.inst sub.val) = true ∧ (fin = true → passMask (fld s (DRP_TRAIN_CTL_MODE.inst sub.val)) pass.toNat ≠
    0) := ⟨7, BitVec.allOnes 45, true, wPhysTrainAndSubchannelsLeave15, by decide +kernel⟩
def wPhysTrainAndSubchannelsLeave15b : State := withFlds wServe [(DRP_TRAIN_CTL_BUSY.inst 7, 1), (DRP_TRAIN_CTL_MODE.inst 7, 6)]
theorem witness_PhysTrainAndSubchannelsLeave_15b : ∃ (sub : Fin 32) (pass : BitVec 45) (fin : Bool) (s : State), dataUp s = true ∧
    flag s (DRP_TRAIN_CTL_BUSY.inst sub.val) = true ∧ (fin = true → passMask (fld s (DRP_TRAIN_CTL_MODE.inst sub.val)) pass.toNat ≠
    0) := ⟨7, 0, false, wPhysTrainAndSubchannelsLeave15b, by decide +kernel⟩
/-- A vault in SERVE whose Passage is up with 64 slots of credit. -/
def wPsg : State := withFlds { wServe with psg := { PsgSt.reset with credit := 64, partner := some .serve } } [(DRC_MAP_DENSITY, 2), (PSG_STAT_STATE, 2)]
/-- A message header with its CRC. -/
def wMsg (typ : Nat) (mseq line arg count win : Nat) : PsgHdr :=
  let h : PsgHdr := ⟨0, 0, BitVec.ofNat 32 mseq, BitVec.ofNat 4 arg, BitVec.ofNat 32 line, BitVec.ofNat 6 count, BitVec.ofNat 12 win, 0⟩
  { h with crc := BitVec.ofNat 16 (headerCrc (psgBits typ h)) }
theorem wPsg_ready : ∀ u, unitReady wPsg u = true := by intro u; simp [unitReady, show rstMode wPsg = false by decide +kernel]
theorem witness_MirroredLinesWaitAndAreAcknowledged_1 : ∃ (h : PsgHdr) (data : List Slot128) (s : State), PsgArrives s 1 h ∧ 4 *
    lineCount h.count ≤ data.length ∧ h.line.toNat + lineCount h.count ≤ installedLines s ∧ (∀ u, unitReady s u = true) ∧ PsgFree s
    1 := ⟨wMsg 1 9 5 0 1 3, [1, 2, 3, 4], wPsg,
    by unfold PsgArrives PsgFree; exact ⟨by decide +kernel, by decide +kernel, by decide +kernel, wPsg_ready, by decide +kernel⟩⟩
theorem witness_MirroredLinesWaitAndAreAcknowledged_2 : ∃ (h : PsgHdr) (data : List Slot128) (s : State), PsgArrives s 3 h ∧ 4 *
    lineCount h.count ≤ data.length ∧ h.line.toNat + lineCount h.count ≤ installedLines s ∧ (∀ u, unitReady s u = true) := ⟨wMsg 3 9
    5 0 1 3, [1, 2, 3, 4], wPsg, by unfold PsgArrives; exact ⟨by decide +kernel, by decide +kernel, by decide +kernel, wPsg_ready⟩⟩
theorem witness_MirroredLinesWaitAndAreAcknowledged_3 : ∃ (h : PsgHdr) (data : List Slot128) (s : State), PsgArrives s 0xA h ∧ 4 *
    lineCount h.count ≤ data.length ∧ h.line.toNat + lineCount h.count ≤ installedLines s ∧ (∀ u, unitReady s u = true) := ⟨wMsg 0xA
    9 5 0 1 3, [1, 2, 3, 4], wPsg,
    by unfold PsgArrives; exact ⟨by decide +kernel, by decide +kernel, by decide +kernel, wPsg_ready⟩⟩
def wFwdS : State := { wPsg with psg := { wPsg.psg with fwd := [(8, 1), (9, 1), (10, 2)] } }
theorem witness_MirroredLinesWaitAndAreAcknowledged_4 : ∃ (h : PsgHdr) (s : State), PsgArrives s 2 h := ⟨wMsg 2 9 0 0 1 0, wFwdS,
    by unfold PsgArrives; decide +kernel⟩
theorem witness_MirroredLinesWaitAndAreAcknowledged_5 : ∃ (h : PsgHdr) (s : State), PsgArrives s 2 h ∧ NothingReady s := ⟨wMsg 2 9 0
    0 1 0, wFwdS, by unfold PsgArrives NothingReady; decide +kernel⟩
def wMirroredLinesWaitAndAreAcknowledged7 : State :=
  { wPsg with psg := { wPsg.psg with mirrorQ := List.replicate 16384 ⟨5, 0, false, 0, .queue, 24, 0, 0⟩ } }
theorem witness_MirroredLinesWaitAndAreAcknowledged_7 : ∃ (h : PsgHdr) (data : List Slot128) (s : State), psgDelivers s = true ∧
    headerCrc (psgBits 1 h) = h.crc.toNat ∧ 4 * lineCount h.count ≤ data.length ∧ h.line.toNat + lineCount h.count ≤ installedLines
    s ∧ queueFull s 1 h = true := ⟨wMsg 1 9 5 0 64 3, List.replicate 256 0, wMirroredLinesWaitAndAreAcknowledged7,
    by decide +kernel⟩
theorem witness_MirroredLinesWaitAndAreAcknowledged_6 : ∃ (h : PsgHdr) (s : State), psgDelivers s = true ∧ headerCrc (psgBits 2 h) ≠
    h.crc.toNat := ⟨{ wMsg 2 9 0 0 1 0 with crc := 0 }, wPsg, by decide +kernel⟩
theorem witness_ResyncAndGenerationsAreExchanged_1 : ∃ (h : PsgHdr) (s : State), PsgArrives s 0xD h ∧ h.arg = 3 ∧ s.vault = .serve
    := ⟨wMsg 0xD 0 0 3 0 0, wPsg, by unfold PsgArrives; decide +kernel⟩
def wResyncAndGenerationsAreExchanged2 : State := withFlds wPsg [(PSG_STAT_FWD_ALL, 1)]
theorem witness_ResyncAndGenerationsAreExchanged_2 : ∃ (h : PsgHdr) (s : State), PsgArrives s 0xD h ∧ h.arg = 4 ∧ s.psg.partner =
    some .serve ∧ s.vault ≠ .join := ⟨wMsg 0xD 0 0 4 0 0, wResyncAndGenerationsAreExchanged2, by unfold PsgArrives; decide +kernel⟩
def wResyncAndGenerationsAreExchanged3 : State := { wPsg with vault := .dump }
theorem witness_ResyncAndGenerationsAreExchanged_3 : ∃ (h : PsgHdr) (s : State), PsgArrives s 0xD h ∧ h.arg = 1 ∧ s.vault = .dump ∧
    s.psg.partner ≠ some .fenced := ⟨wMsg 0xD 0 0 1 0 0, wResyncAndGenerationsAreExchanged3, by unfold PsgArrives; decide +kernel⟩
theorem witness_ResyncAndGenerationsAreExchanged_4 : ∃ (h : PsgHdr) (s : State), PsgArrives s 0xD h ∧ h.arg = 1 ∧ s.vault = .serve ∧
    s.psg.partner = some .serve ∧ s.psg.partnerDeparted = false := ⟨wMsg 0xD 0 0 1 0 0, wPsg, by unfold PsgArrives; decide +kernel⟩
def wResyncAndGenerationsAreExchanged5 : State := withFlds { wPsg with psg := { wPsg.psg with source := true } } [(PSG_STAT_FWD_ALL, 1)]
theorem witness_ResyncAndGenerationsAreExchanged_5 : ∃ (s : State), dataUp s = true ∧ flag s PSG_STAT_FWD_ALL = true ∧ s.psg.source
    = true := ⟨wResyncAndGenerationsAreExchanged5, by decide +kernel⟩
def wResyncAndGenerationsAreExchanged6 : State :=
  withFlds { wPsg with psg := { wPsg.psg with holdAll := true, holdUnowned := true } } [(PSG_STAT_RESYNC_DST, 1), (subOffline 3, 1)]
theorem witness_ResyncAndGenerationsAreExchanged_6 : ∃ (h : PsgHdr) (s : State), PsgArrives s 4 h ∧ s.vault ≠ .culdesac := ⟨wMsg 4 0
    0 0 0 0, wResyncAndGenerationsAreExchanged6, by unfold PsgArrives; decide +kernel⟩
def wResyncAndGenerationsAreExchanged7 : State := { wPsg with psg := { wPsg.psg with genSent := true } }
theorem witness_ResyncAndGenerationsAreExchanged_7 : ∃ (h : PsgHdr) (data : List Slot128) (d : Slot128) (s : State), PsgArrives s
    0xE h ∧ data.head? = some d ∧ s.vault ≠ .join ∧ s.psg.genSent = true ∧ s.psg.genDue = false := ⟨wMsg 0xE 0 0 0 0 0,
    [0x123456789], 0x123456789, wResyncAndGenerationsAreExchanged7, by unfold PsgArrives; decide +kernel⟩
theorem witness_ResyncAndGenerationsAreExchanged_8 : ∃ (h : PsgHdr) (data : List Slot128) (d : Slot128) (s : State), PsgArrives s
    0xE h ∧ data.head? = some d ∧ s.vault ≠ .join ∧ s.psg.genSent = false ∧ PsgFree s 2 := ⟨wMsg 0xE 0 0 0 0 0, [0x123456789],
    0x123456789, wPsg, by unfold PsgArrives PsgFree; decide +kernel⟩
def wResyncAndGenerationsAreExchanged9 : State := withFlds { wPsg with psg := { wPsg.psg with source := true } } [(PSG_STAT_FWD_ALL, 1)]
theorem witness_ResyncAndGenerationsAreExchanged_9 : ∃ (q : Requester) (s : State), canWrite s q 0x28 = true := ⟨.core,
    wResyncAndGenerationsAreExchanged9, by decide +kernel⟩
def wOwnershipMovesByHandshake1 : State := withFlds wPsg [(PSG_OWN_CMD_FIRST, 2), (PSG_OWN_CMD_LAST, 5)]
theorem witness_OwnershipMovesByHandshake_1 : ∃ (q : Requester) (s : State), canWrite s q 0x28 = true ∧ (let st := (if
    s.psg.handshake.isSome then 3 else if psgUp s = false then 4 else if fld s PSG_OWN_CMD_LAST < fld s PSG_OWN_CMD_FIRST then 5
    else 1); PsgFree s 1) := ⟨.core, wOwnershipMovesByHandshake1, by unfold PsgFree; decide +kernel⟩
def wOwnershipMovesByHandshake1b : State := withFlds wPsg [(PSG_OWN_CMD_FIRST, 2), (PSG_OWN_CMD_LAST, 5), (PSG_OWN_CMD_TARGET, 1)]
theorem witness_OwnershipMovesByHandshake_1b : ∃ (q : Requester) (s : State), canWrite s q 0x28 = true ∧ (let st := (if
    s.psg.handshake.isSome then 3 else if psgUp s = false then 4 else if fld s PSG_OWN_CMD_LAST < fld s PSG_OWN_CMD_FIRST then 5
    else 1); PsgFree s 1) := ⟨.core, wOwnershipMovesByHandshake1b, by unfold PsgFree; decide +kernel⟩
def wOwnershipMovesByHandshake1c : State := withFlds wPsg [(PSG_OWN_CMD_FIRST, 6), (PSG_OWN_CMD_LAST, 5)]
theorem witness_OwnershipMovesByHandshake_1c : ∃ (q : Requester) (s : State), canWrite s q 0x28 = true ∧ (let st := (if
    s.psg.handshake.isSome then 3 else if psgUp s = false then 4 else if fld s PSG_OWN_CMD_LAST < fld s PSG_OWN_CMD_FIRST then 5
    else 1); PsgFree s 1) := ⟨.core, wOwnershipMovesByHandshake1c, by unfold PsgFree; decide +kernel⟩
theorem witness_OwnershipMovesByHandshake_2 : ∃ (h : PsgHdr) (s : State), PsgArrives s 5 h ∧ s.psg.handshake = none := ⟨wMsg 5 0 5 0
    0 2, wPsg, by unfold PsgArrives; decide +kernel⟩
theorem witness_OwnershipMovesByHandshake_2b : ∃ (h : PsgHdr) (s : State), PsgArrives s 5 h ∧ s.psg.handshake = none := ⟨wMsg 5 0 5
    0 0 6, wPsg, by unfold PsgArrives; decide +kernel⟩
theorem witness_OwnershipMovesByHandshake_2c : ∃ (h : PsgHdr) (s : State), PsgArrives s 5 h ∧ s.psg.handshake = none := ⟨wMsg 5 0 6
    0 0 6, wPsg, by unfold PsgArrives; decide +kernel⟩
def wOwnershipMovesByHandshake4 : State :=
  { wPsg with psg := { wPsg.psg with handshake := some ⟨2, 5, true, true, 0⟩, moving := true } }
theorem witness_OwnershipMovesByHandshake_4 : ∃ (hs : Handshake) (s : State), psgDelivers s = true ∧ s.psg.handshake = some hs ∧
    hs.giver = true ∧ s.psg.moving = true ∧ rangeBusy s hs.first hs.last = false ∧ PsgFree s 1 := ⟨⟨2, 5, true, true, 0⟩,
    wOwnershipMovesByHandshake4, by unfold PsgFree; decide +kernel⟩
theorem witness_OwnershipMovesByHandshake_5 : ∃ (h : PsgHdr) (s : State), PsgArrives s 6 h ∧ s.vault ≠ .culdesac ∧ PsgFree s 1 :=
    ⟨wMsg 6 9 5 1 0 2, wPsg, by unfold PsgArrives PsgFree; decide +kernel⟩
def wOwnershipMovesByHandshake6 : State :=
  { wPsg with psg := { wPsg.psg with handshake := some ⟨2, 5, true, true, 0⟩, moving := true } }
theorem witness_OwnershipMovesByHandshake_6 : ∃ (h : PsgHdr) (hs : Handshake) (s : State), PsgArrives s 7 h ∧ s.psg.handshake = some
    hs ∧ hs.giver = true ∧ hs.first = h.win.toNat ∧ hs.last = h.line.toNat % 4096 := ⟨wMsg 7 9 5 1 0 2, ⟨2, 5, true, true, 0⟩,
    wOwnershipMovesByHandshake6, by unfold PsgArrives; decide +kernel⟩
theorem witness_OwnershipMovesByHandshake_7 : ∃ (q : Requester) (s : State), canWrite s q 0x28 = true := ⟨.core, wPsg,
    by decide +kernel⟩
theorem witness_OwnershipMovesByHandshake_9 : ∃ (h : PsgHdr) (data : List Slot128) (d : Slot128) (s : State), PsgArrives s 0xF h ∧
    data.head? = some d := ⟨wMsg 0xF 0 0 0 0 0, [0], 0, wPsg, by unfold PsgArrives; decide +kernel⟩
theorem witness_OwnershipMovesByHandshake_11 : ∃ (s : State), dataUp s = true ∧ psgUp s = true ∧ PsgFree s 2 := ⟨wPsg,
    by unfold PsgFree; decide +kernel⟩
def wOwnershipMovesByHandshake3 : State := { wPsg with psg := { wPsg.psg with handshake := some ⟨2, 5, true, false, 0⟩ } }
theorem witness_OwnershipMovesByHandshake_3 : ∃ (h : PsgHdr) (hs : Handshake) (s : State), PsgArrives s 5 h ∧ s.psg.handshake = some
    hs ∧ hs.giver = false ∧ (h.line.toNat % 4096 < hs.first ∨ hs.last < h.win.toNat) := ⟨wMsg 5 0 9 0 0 6, ⟨2, 5, true, false, 0⟩,
    wOwnershipMovesByHandshake3, by unfold PsgArrives; decide +kernel⟩
def wOwnershipMovesByHandshake8 : State := withFlds wPsg [(FLT_CLASS_SRC 0x28 4, 1)]
theorem witness_OwnershipMovesByHandshake_8 : ∃ (q : Requester) (s : State), canWrite s q 0x28 = true ∧ LogsOnly s (srcPsg 4) ∧
    NothingReady s := ⟨.core, wOwnershipMovesByHandshake8, by unfold NothingReady LogsOnly; decide +kernel⟩
def wOwnershipMovesByHandshake10 : State := withFlds wPsg [(FLT_CLASS_SRC 0x28 5, 1)]
theorem witness_OwnershipMovesByHandshake_10 : ∃ (h : PsgHdr) (data : List Slot128) (d : Slot128) (s : State), PsgArrives s 0xF h ∧
    data.head? = some d ∧ LogsOnly s (srcPsg 5) := ⟨wMsg 0xF 0 0 0 0 0, [0], 0, wOwnershipMovesByHandshake10,
    by unfold PsgArrives LogsOnly; decide +kernel⟩
def wOwnershipMovesByHandshake10b : State := withFlds wPsg [(FLT_CLASS_SRC 0x28 5, 1)]
theorem witness_OwnershipMovesByHandshake_10b : ∃ (h : PsgHdr) (data : List Slot128) (d : Slot128) (s : State), PsgArrives s 0xF h ∧
    data.head? = some d ∧ LogsOnly s (srcPsg 5) := ⟨wMsg 0xF 0 0 0 0 0, [1], 1, wOwnershipMovesByHandshake10b,
    by unfold PsgArrives LogsOnly; decide +kernel⟩
def wScrubComparesAndFetchMends1 : State := withFlds wPsg [(PSG_CTL_SCRUB_EN, 1)]
theorem witness_ScrubComparesAndFetchMends_1 : ∃ (s : State), dataUp s = true ∧ flag s PSG_CTL_SCRUB_EN = true ∧ serving s = true ∧
    s.vault ≠ .restore ∧ s.psg.partner ≠ some .restore := ⟨wScrubComparesAndFetchMends1, by decide +kernel⟩
theorem witness_ScrubComparesAndFetchMends_2 : ∃ (h : PsgHdr) (data : List Slot128) (d : Slot128) (s : State), PsgArrives s 8 h ∧
    data.head? = some d ∧ h.line.toNat < installedLines s ∧ unitPoison s (unitOf h.line.toNat) = [] ∧ NoRfm s ∧ PsgFree s 1 := ⟨wMsg
    8 0 5 0 0 0, [0], 0, wPsg, by unfold PsgArrives PsgFree NoRfm; decide +kernel⟩
theorem witness_ScrubComparesAndFetchMends_3 : ∃ (h : PsgHdr) (s : State), PsgArrives s 9 h ∧ h.line.toNat < installedLines s ∧
    h.arg = 1 ∧ s.psg.recheck.contains (unitOf h.line.toNat) = false := ⟨wMsg 9 0 5 1 0 0, wPsg,
    by unfold PsgArrives; decide +kernel⟩
def wScrubComparesAndFetchMends4 : State := { wPsg with psg := { wPsg.psg with recheck := [0] } }
theorem witness_ScrubComparesAndFetchMends_4 : ∃ (h : PsgHdr) (s : State), PsgArrives s 9 h ∧ h.line.toNat < installedLines s ∧
    h.arg = 0 ∧ s.psg.recheck.contains (unitOf h.line.toNat) = true := ⟨wMsg 9 0 5 0 0 0, wScrubComparesAndFetchMends4,
    by unfold PsgArrives; decide +kernel⟩
def wScrubComparesAndFetchMends5 : State := { wPsg with psg := { wPsg.psg with recheck := [1] } }
theorem witness_ScrubComparesAndFetchMends_5 : ∃ (h : PsgHdr) (s : State), PsgArrives s 9 h ∧ h.line.toNat < installedLines s ∧
    h.arg = 1 ∧ s.psg.recheck.contains (unitOf h.line.toNat) = true := ⟨wMsg 9 0 300 1 0 0, wScrubComparesAndFetchMends5,
    by unfold PsgArrives; decide +kernel⟩
def wScrubComparesAndFetchMends6 : State := { wPsg with psg := { wPsg.psg with recheck := [7] } }
theorem witness_ScrubComparesAndFetchMends_6 : ∃ (u : Nat) (s : State), dataUp s = true ∧ psgUp s = true ∧ s.psg.recheck.contains u
    = true ∧ unitPoison s u = [] ∧ NoRfm s ∧ PsgFree s 2 := ⟨7, wScrubComparesAndFetchMends6,
    by unfold PsgFree NoRfm; decide +kernel⟩
theorem witness_ScrubComparesAndFetchMends_7 : ∃ (h : PsgHdr) (s : State), PsgArrives s 0xB h ∧ h.line.toNat + lineCount h.count ≤
    installedLines s ∧ (∀ k, k < lineCount h.count → fetchReady s (h.line.toNat + k) = true ∧ (isPoison s (h.line.toNat + k) = true
    → abandoned s (h.line.toNat + k) = true)) ∧ NoRfm s ∧ PsgFree s (5 * lineCount h.count) := ⟨wMsg 0xB 0 5 0 2 0, wPsg,
    by unfold PsgArrives PsgFree NoRfm; decide +kernel⟩
def wScrubComparesAndFetchMends8 : State := { wPsg with dram := { DramSt.reset with poison := [5] } }
theorem witness_ScrubComparesAndFetchMends_8 : ∃ (h : PsgHdr) (s : State), PsgArrives s 0xB h ∧ lineCount h.count = 1 ∧ h.line.toNat
    < installedLines s ∧ fetchReady s h.line.toNat = true ∧ isPoison s h.line.toNat = true ∧ abandoned s h.line.toNat = false :=
    ⟨wMsg 0xB 0 5 0 1 0, wScrubComparesAndFetchMends8, by unfold PsgArrives; decide +kernel⟩
def wFetch : State := { wPsg with psg := { wPsg.psg with fetches := [(4, true), (5, false)] }, dram := { DramSt.reset with poison := [5] } }
theorem witness_ScrubComparesAndFetchMends_9 : ∃ (h : PsgHdr) (data : List Slot128) (s : State), PsgArrives s 0xC h ∧ h.arg = 0 ∧
    h.count = 1 ∧ data.length = 4 ∧ h.line.toNat < installedLines s ∧ s.psg.reconFetch = none ∧ unitReady s (unitOf h.line.toNat) =
    true ∧ flag s PSG_STAT_FWD_ALL = false ∧ s.psg.fetches.find? (fun e => e.1 = h.line.toNat) = some (h.line.toNat, false) := ⟨wMsg
    0xC 0 5 0 1 0, [1, 2, 3, 4], wFetch, by unfold PsgArrives; decide +kernel⟩
theorem witness_ScrubComparesAndFetchMends_10 : ∃ (h : PsgHdr) (data : List Slot128) (s : State), PsgArrives s 0xC h ∧ h.arg = 1 ∧
    h.count = 1 ∧ h.line.toNat < installedLines s ∧ s.psg.reconFetch = none ∧ unitReady s (unitOf h.line.toNat) = true ∧
    s.psg.fetches.find? (fun e => e.1 = h.line.toNat) = some (h.line.toNat, false) := ⟨wMsg 0xC 0 5 1 1 0, [], wFetch,
    by unfold PsgArrives; decide +kernel⟩
/-- The Passage is up and window 0 holds pod lines 0x100 to 0x1FF at DRAM line 0. -/
def wImg : State := setWindow wPsg 0 (BitVec.ofNat 64 (63 * 2 ^ 53 + 2 ^ 52 + 0x100)) (BitVec.ofNat 64 (2 ^ 63 + 0x1FF)) 0 0
def wRec (kind gen : Nat) : Record := { blankRecord State.reset kind gen with podTime := 0 }
def wAnch (n kind gen : Nat) : AnchorPage := ⟨0, n, n + 1, wRec kind gen, false⟩
/-- The page of unit u at member m of stripe 409600. -/
def wPage (m : Fin 8) (u lay : Nat) : FlashPage :=
  { stripe := 409600, member := m, body := .page ⟨1, lay, false, false, 9 + u, 9 + u, 4, u, 0⟩ [], bad := false }
/-- A whole stripe: units 1 to 7 on members 0 to 6, parity on member 7. -/
def wStripe : List FlashPage :=
  (List.finRange 7).map (fun m => wPage m.castSucc (m.val + 1) 0) ++ [{ stripe := 409600, member := 7, body := .parity ⟨0, []⟩, bad := false }]
def wLed (m : Fin 8) : LedgerEntry := { LedgerEntry.zero with written := true, stripeA := 409600, memberA := m, genLo := 4 }
def wBoot : State := { State.reset with img := { State.reset.img with scanning := true, anchors := [wAnch 0 0x11 3, wAnch 1 0x11 4], pages := wStripe } }
def wBootScanAndFormat1 : State := State.reset
theorem witness_BootScanAndFormat_1 : ∃ (q : Requester) (s : State), canWrite s q 0x30 = true ∧ s.vault = .boot ∧ flag s
    IMG_CTL_ENABLE = false ∧ accepts s 0x30 = true := ⟨.core, wBootScanAndFormat1, by decide +kernel⟩
def wBootScanAndFormat2 : State := withFlds wBoot [(FLT_CLASS_SRC 0x30 2, 1)]
theorem witness_BootScanAndFormat_2 : ∃ (unread : List (Fin 32)) (s : State), s.vault = .boot ∧ dataUp s = true ∧ s.img.scanning =
    true ∧ (∀ c : Fin 32, chFailed s c.val = false → c ∈ unread) ∧ LogsOnly s (srcImg 2) := ⟨List.finRange 32, wBootScanAndFormat2,
    by unfold LogsOnly; decide +kernel⟩
def wBootScanAndFormat3 : State := withFlds wBoot [(FLT_CLASS_SRC 0x30 2, 1)]
theorem witness_BootScanAndFormat_3 : ∃ (s : State), s.vault = .boot ∧ dataUp s = true ∧ s.img.scanning = true ∧ (∃ c : Fin 32,
    chFailed s c.val = false) ∧ openFound s = 0 ∧ newestGen s < 2 ^ 64 ∧ previousGen s < 2 ^ 64 ∧ LogsOnly s (srcImg 2) ∧ fldAt s
    FLT_ESC_A_N (srcImg 2) = 0 := ⟨wBootScanAndFormat3, by unfold LogsOnly; decide +kernel⟩
def wBootScanAndFormat3b : State :=
  withFlds { State.reset with img := { State.reset.img with scanning := true } } [(FLT_CLASS_SRC 0x30 2, 1)]
theorem witness_BootScanAndFormat_3b : ∃ (s : State), s.vault = .boot ∧ dataUp s = true ∧ s.img.scanning = true ∧ (∃ c : Fin 32,
    chFailed s c.val = false) ∧ openFound s = 0 ∧ newestGen s < 2 ^ 64 ∧ previousGen s < 2 ^ 64 ∧ LogsOnly s (srcImg 2) ∧ fldAt s
    FLT_ESC_A_N (srcImg 2) = 0 := ⟨wBootScanAndFormat3b, by unfold LogsOnly; decide +kernel⟩
def wBootOpen : State := { wBoot with img := { wBoot.img with anchors := [wAnch 0 0x11 3, wAnch 1 0x11 4, wAnch 2 0x10 5] } }
def wBootScanAndFormat4 : State :=
  withFlds wBootOpen [(JCT_STAT_KEY_VALID, 1), (FLT_CLASS_SRC 0x30 2, 1), (FLT_CLASS_SRC 0x30 4, 1)]
theorem witness_BootScanAndFormat_4 : ∃ (s : State), s.vault = .boot ∧ dataUp s = true ∧ s.img.scanning = true ∧ (∃ c : Fin 32,
    chFailed s c.val = false) ∧ openFound s ≠ 0 ∧ keyMismatch s = false ∧ s.img.intent = false ∧ newestGen s < 2 ^ 64 ∧ LogsOnly s
    srcOpenAbandoned ∧ LogsOnly s (srcImg 2) ∧ fldAt s FLT_ESC_A_N (srcImg 2) = 0 := ⟨wBootScanAndFormat4,
    by unfold LogsOnly; decide +kernel⟩
theorem witness_BootScanAndFormat_5 : ∃ (unread : List (Fin 32)) (s : State), s.vault = .boot ∧ dataUp s = true ∧ s.img.scanning =
    true ∧ anchorsRead s unread = true ∧ openFound (markUnread s unread) ≠ 0 := ⟨[3], wBootOpen, by decide +kernel⟩
theorem witness_BootScanAndFormat_6 : ∃ (q : Requester) (s : State), canWrite s q 0x30 = true ∧ s.vault = .boot ∧ flag s
    JCT_CTL_ENABLE = false := ⟨.core, wBoot, by decide +kernel⟩
def wBootScanAndFormat7 : State := withFlds wBoot [(JCT_CTL_ENABLE, 1)]
theorem witness_BootScanAndFormat_7 : ∃ (q : Requester) (s : State), canWrite s q 0x30 = true ∧ s.vault = .boot ∧ flag s
    JCT_CTL_ENABLE = true := ⟨.core, wBootScanAndFormat7, by decide +kernel⟩
def wBootScanAndFormat8 : State := { State.reset with mgt := { MgtSt.reset with imageSlot := [[1, 2, 3, 4, 5, 6, 7, 8]] } }
theorem witness_BootScanAndFormat_8 : ∃ (s : State), s.mgt.imageSlot ≠ [] := ⟨wBootScanAndFormat8, by decide +kernel⟩
theorem witness_BootScanAndFormat_9 : ∃ (q : Requester) (s : State), canWrite s q 0x30 = true ∧ s.vault ≠ .boot := ⟨.core, wServe,
    by decide +kernel⟩
def wColl : State := withFlds { wServe with img := { State.reset.img with pages := wStripe, committed := [(2, wLed 1), (3, wLed 2)], held := [2, 100] } } [(DRC_MAP_DENSITY, 2), (IMG_STAT_READY, 1), (IMG_CTL_GC_EN, 1)]
theorem witness_ReshapeReclaimAndWearMarkUnits_1 : ∃ (q : Requester) (s : State), canWrite s q 0x30 = true ∧ (collects s = true ∨
    s.vault = .ride ∧ flag s IMG_STAT_READY = true) ∧ (∀ u ∈ writtenUnits s, needsReshape s u = false) := ⟨.core, wColl,
    by decide +kernel⟩
def wReshapeReclaimAndWearMarkUnits1b : State := { wColl with vault := .ride }
theorem witness_ReshapeReclaimAndWearMarkUnits_1b : ∃ (q : Requester) (s : State), canWrite s q 0x30 = true ∧ (collects s = true ∨
    s.vault = .ride ∧ flag s IMG_STAT_READY = true) ∧ (∀ u ∈ writtenUnits s, needsReshape s u = false) := ⟨.core,
    wReshapeReclaimAndWearMarkUnits1b, by decide +kernel⟩
def wReshapeReclaimAndWearMarkUnits2 : State := { wColl with img := { wColl.img with pages := [wPage 1 2 0, wPage 2 3 0] } }
theorem witness_ReshapeReclaimAndWearMarkUnits_2 : ∃ (q : Requester) (s : State), canWrite s q 0x30 = true ∧ collects s = true ∧
    s.vault = .serve ∧ (∃ u ∈ writtenUnits s, needsReshape s u = true) := ⟨.core, wReshapeReclaimAndWearMarkUnits2,
    by decide +kernel⟩
def wReshapeReclaimAndWearMarkUnits3 : State := withFlds wColl [(FLT_CLASS_SRC 0x30 2, 1)]
theorem witness_ReshapeReclaimAndWearMarkUnits_3 : ∃ (block : Nat) (s : State), collects s = true ∧ flag s IMG_CTL_GC_EN = true ∧
    agedUnits s = [] ∧ block ∈ s.img.held ∧ block ∉ s.img.retired ∧ blockOpen s block = false ∧ livePages s block = [] ∧ LogsOnly s
    (srcImg 2) := ⟨2, wReshapeReclaimAndWearMarkUnits3, by unfold LogsOnly; decide +kernel⟩
theorem witness_ReshapeReclaimAndWearMarkUnits_4 : ∃ (block : Nat) (s : State), collects s = true ∧ flag s IMG_CTL_GC_EN = true ∧
    agedUnits s = [] ∧ block ∈ s.img.held ∧ blockOpen s block = false ∧ livePages s block ≠ [] ∧ s.vault = .serve := ⟨100, wColl,
    by decide +kernel⟩
def wReshapeReclaimAndWearMarkUnits5 : State :=
  withFlds { wColl with img := { wColl.img with anchors := [wAnch 1 0x11 4] }, pod := 4800 } [(IMG_GC_RETAIN_DAYS, 0)]
theorem witness_ReshapeReclaimAndWearMarkUnits_5 : ∃ (block : Nat) (s : State), collects s = true ∧ flag s IMG_CTL_GC_EN = true ∧
    agedUnits s ≠ [] ∧ block ∉ s.img.held ∧ s.vault = .serve := ⟨9, wReshapeReclaimAndWearMarkUnits5, by decide +kernel⟩
theorem witness_ReshapeReclaimAndWearMarkUnits_6 : ∃ (s : State), fld s IMG_WEAR_MAX ≤ fld s IMG_WEAR_MIN + fld s IMG_WEAR_SPREAD :=
    ⟨wColl, by decide +kernel⟩
def wReshapeReclaimAndWearMarkUnits7 : State :=
  withFlds wColl [(IMG_WEAR_MAX, 900), (IMG_WEAR_MIN, 10), (IMG_WEAR_SPREAD, 20), (FLT_CLASS_SRC 0x30 5, 1)]
theorem witness_ReshapeReclaimAndWearMarkUnits_7 : ∃ (b : Nat) (s : State), collects s = true ∧ s.vault = .serve ∧ fld s
    IMG_WEAR_MIN + fld s IMG_WEAR_SPREAD < fld s IMG_WEAR_MAX ∧ leastWorn s = some b ∧ LogsOnly s (srcImg 5) := ⟨100,
    wReshapeReclaimAndWearMarkUnits7, by unfold LogsOnly; decide +kernel⟩
def wFch (c : Nat) : State := withFlds wColl [(FLT_CLASS_SRC (0x60 + c) 0, 1), (FLT_CLASS_SRC (0x60 + c) 1, 1), (FLT_CLASS_SRC (0x60 + c) 2, 1), (FLT_CLASS_SRC (0x60 + c) 3, 1), (FLT_CLASS_SRC (0x60 + c) 4, 1), (FLT_CLASS_SRC (0x60 + c) 5, 1), (FLT_CLASS_SRC (0x60 + c) 6, 1), (FLT_CLASS_SRC 0x30 2, 1)]
theorem witness_FlashOperationsAndChannels_1 : ∃ (ch : Fin 32) (stripe : BitVec 32) (s : State), dataUp s = true ∧ (inAnchors stripe
    = false ∧ ((placeOn ch stripe).bind (pageAt s)).isSome = true ∨ inAnchors stripe = true ∧ (anchorAt s ch.val stripe).isSome =
    true) := ⟨4, 409600, wColl, by decide +kernel⟩
def wFlashOperationsAndChannels1b : State := { wColl with img := { wColl.img with anchors := [wAnch 1 0x11 4] } }
theorem witness_FlashOperationsAndChannels_1b : ∃ (ch : Fin 32) (stripe : BitVec 32) (s : State), dataUp s = true ∧ (inAnchors
    stripe = false ∧ ((placeOn ch stripe).bind (pageAt s)).isSome = true ∨ inAnchors stripe = true ∧ (anchorAt s ch.val
    stripe).isSome = true) := ⟨0, 1, wFlashOperationsAndChannels1b, by decide +kernel⟩
def wFlashOperationsAndChannels2 : State := wFch 4
theorem witness_FlashOperationsAndChannels_2 : ∃ (ch : Fin 32) (stripe : BitVec 32) (d : DirEntry) (p : FlashPage) (h : PageHeader)
    (ls : List Line) (s : State), dataUp s = true ∧ inAnchors stripe = false ∧ placeOn ch stripe = some d ∧ pageAt s d = some p ∧
    p.body = .page h ls ∧ (h.typ = 1 ∨ h.typ = 2) ∧ LogsOnly s (srcFch ch.val 0) ∧ LogsOnly s (srcFch ch.val 6) ∧ LogsOnly s (srcImg
    2) := ⟨4, 409600, ⟨409600, 1, true⟩, wPage 1 2 0, ⟨1, 0, false, false, 11, 11, 4, 2, 0⟩, [], wFlashOperationsAndChannels2,
    by unfold LogsOnly; decide +kernel⟩
def wFlashOperationsAndChannels3 : State := { wFch 0 with img := { wColl.img with anchors := [wAnch 1 0x11 4] } }
theorem witness_FlashOperationsAndChannels_3 : ∃ (ch : Fin 32) (stripe : BitVec 32) (a : AnchorPage) (s : State), dataUp s = true ∧
    inAnchors stripe = true ∧ anchorAt s ch.val stripe = some a ∧ LogsOnly s (srcFch ch.val 0) ∧ LogsOnly s (srcFch ch.val 6) ∧
    LogsOnly s (srcImg 2) := ⟨0, 1, wAnch 1 0x11 4, wFlashOperationsAndChannels3, by unfold LogsOnly; decide +kernel⟩
theorem witness_FlashOperationsAndChannels_4 : ∃ (ch : Fin 32) (block : Nat) (s : State), dataUp s = true ∧ block / 2 ^ 18 = ch.val
    % 4 := ⟨5, 2 ^ 18 + 7, wServe, by decide +kernel⟩
theorem witness_FlashOperationsAndChannels_5 : ∃ (ch : Fin 32) (stripe : BitVec 32) (o : FlashRead) (n : Nat) (s : State), dataUp s
    = true ∧ o.hard = some n ∧ headerFails s ch stripe o = false := ⟨4, 409600, ⟨some 3, [], none, none⟩, 3, wColl,
    by decide +kernel⟩
def wFlashOperationsAndChannels6 : State := withFlds (wFch 4) [(FCH_TIME_RETRY_MAX.inst 4, 2)]
theorem witness_FlashOperationsAndChannels_6 : ∃ (ch : Fin 32) (stripe : BitVec 32) (o : FlashRead) (n : Nat) (s : State), dataUp s
    = true ∧ o.hard = none ∧ readDecode o (fld s (FCH_TIME_RETRY_MAX.inst ch.val)) = some n ∧ headerFails s ch stripe o = false ∧
    LogsOnly s (srcFch ch.val 3) := ⟨4, 409600, ⟨none, [none, some 7], some 9, none⟩, 7, wFlashOperationsAndChannels6,
    by unfold LogsOnly; decide +kernel⟩
def wFlashOperationsAndChannels6b : State := withFlds (wFch 4) [(FCH_TIME_RETRY_MAX.inst 4, 1)]
theorem witness_FlashOperationsAndChannels_6b : ∃ (ch : Fin 32) (stripe : BitVec 32) (o : FlashRead) (n : Nat) (s : State), dataUp s
    = true ∧ o.hard = none ∧ readDecode o (fld s (FCH_TIME_RETRY_MAX.inst ch.val)) = some n ∧ headerFails s ch stripe o = false ∧
    LogsOnly s (srcFch ch.val 3) := ⟨4, 409600, ⟨none, [none, some 7], some 9, none⟩, 9, wFlashOperationsAndChannels6b,
    by unfold LogsOnly; decide +kernel⟩
def wFlashOperationsAndChannels7 : State := wFch 4
theorem witness_FlashOperationsAndChannels_7 : ∃ (ch : Fin 32) (stripe : BitVec 32) (o : FlashRead) (s : State), dataUp s = true ∧
    LogsOnly s (srcFch ch.val 3) ∧ (readDecode o (fld s (FCH_TIME_RETRY_MAX.inst ch.val)) = none ∨ headerFails s ch stripe o = true)
    := ⟨4, 409600, ⟨none, [none], none, none⟩, wFlashOperationsAndChannels7, by unfold LogsOnly; decide +kernel⟩
def wFlashOperationsAndChannels7b : State := wFch 4
theorem witness_FlashOperationsAndChannels_7b : ∃ (ch : Fin 32) (stripe : BitVec 32) (o : FlashRead) (s : State), dataUp s = true ∧
    LogsOnly s (srcFch ch.val 3) ∧ (readDecode o (fld s (FCH_TIME_RETRY_MAX.inst ch.val)) = none ∨ headerFails s ch stripe o = true)
    := ⟨4, 409600, ⟨some 3, [], none, some 0⟩, wFlashOperationsAndChannels7b, by unfold LogsOnly; decide +kernel⟩
theorem witness_FlashOperationsAndChannels_8 : ∃ (p : FlashPage) (h : PageHeader) (r : FlashPage × Bool) (s : State), p.header =
    some h ∧ h.typ = 1 ∧ liveState s = true ∧ s.vault ≠ .restore ∧ isNewest s h.unit p = true ∧ copyOf s (newestEntry s h.unit) =
    some r := ⟨wPage 1 2 0, ⟨1, 0, false, false, 11, 11, 4, 2, 0⟩, (wPage 1 2 0, false), wColl, by decide +kernel⟩
def wFlashOperationsAndChannels9 : State := { wColl with img := { wColl.img with pages := [{ wPage 1 2 0 with bad := true }] } }
theorem witness_FlashOperationsAndChannels_9 : ∃ (p : FlashPage) (h : PageHeader) (s : State), p.header = some h ∧ h.typ = 1 ∧
    liveState s = true ∧ isNewest s h.unit p = true ∧ copyOf s (newestEntry s h.unit) = none := ⟨wPage 1 2 0, ⟨1, 0, false, false,
    11, 11, 4, 2, 0⟩, wFlashOperationsAndChannels9, by decide +kernel⟩
theorem witness_FlashOperationsAndChannels_10 : ∃ (ch : Fin 32) (s : State), dataUp s = true ∧ nget s.img.timeouts ch.val < 2 := ⟨5,
    wColl, by decide +kernel⟩
def wFlashOperationsAndChannels11 : State := wFch 5
theorem witness_FlashOperationsAndChannels_11 : ∃ (ch : Fin 32) (s : State), dataUp s = true ∧ nget s.img.timeouts ch.val < 2 ∧
    LogsOnly s (srcFch ch.val 4) := ⟨5, wFlashOperationsAndChannels11, by unfold LogsOnly; decide +kernel⟩
def wFlashOperationsAndChannels12 : State := { wColl with img := { wColl.img with timeouts := [(5, 2)] } }
theorem witness_FlashOperationsAndChannels_12 : ∃ (ch : Fin 32) (s : State), dataUp s = true ∧ nget s.img.timeouts ch.val = 2 := ⟨5,
    wFlashOperationsAndChannels12, by decide +kernel⟩
def wFlashOperationsAndChannels13 : State :=
  withFlds wColl [(FLT_CLASS_SRC 0x65 5, 1), (FLT_CLASS_SRC 0x30 0, 1), (FLT_CLASS_SRC 0x30 1, 1), (IMG_ANCHOR_CH1, 0), (IMG_ANCHOR_CH2, 2)]
theorem witness_FlashOperationsAndChannels_13 : ∃ (q : Requester) (ch : Fin 32) (s : State), canWrite s q (0x60 + ch.val) = true ∧
    chFailed s ch.val = false ∧ fld s IMG_ANCHOR_CH1 ≠ ch.val ∧ fld s IMG_ANCHOR_CH2 ≠ ch.val ∧ LogsOnly s (srcFch ch.val 5) ∧
    LogsOnly s srcDegraded ∧ LogsOnly s srcLost ∧ fldAt s FLT_ESC_A_N srcLost = 0 := ⟨.core, 5, wFlashOperationsAndChannels13,
    by unfold LogsOnly; decide +kernel⟩
def wFlashOperationsAndChannels14 : State := withFlds (wFch 5) [(IMG_STAT_FAILED, 32)]
theorem witness_FlashOperationsAndChannels_14 : ∃ (q : Requester) (ch : Fin 32) (s : State), canWrite s q (0x60 + ch.val) = true ∧
    chFailed s ch.val = true ∧ LogsOnly s (srcFch ch.val 5) := ⟨.core, 5, wFlashOperationsAndChannels14,
    by unfold LogsOnly; decide +kernel⟩
def wFlashOperationsAndChannels15 : State := withFlds wColl [(FCH_CTL_ENABLE.inst 5, 1)]
theorem witness_FlashOperationsAndChannels_15 : ∃ (q : Requester) (ch : Fin 32) (s : State), canWrite s q (0x60 + ch.val) = true ∧
    flag s (FCH_CTL_ENABLE.inst ch.val) = true ∧ geometryOk s ch.val = true ∧ chFailed s ch.val = false := ⟨.core, 5,
    wFlashOperationsAndChannels15, by decide +kernel⟩
def wFlashOperationsAndChannels16 : State := withFlds wColl [(FCH_CTL_ENABLE.inst 5, 1)]
theorem witness_FlashOperationsAndChannels_16 : ∃ (q : Requester) (ch : Fin 32) (s : State), canWrite s q (0x60 + ch.val) = true ∧
    flag s (FCH_CTL_ENABLE.inst ch.val) = true := ⟨.core, 5, wFlashOperationsAndChannels16, by decide +kernel⟩
def wFlashOperationsAndChannels17 : State := withFlds wColl [(FCH_CTL_ENABLE.inst 5, 0)]
theorem witness_FlashOperationsAndChannels_17 : ∃ (q : Requester) (ch : Fin 32) (ok : Bool) (s : State), canWrite s q (0x60 +
    ch.val) = true ∧ flag s (FCH_CTL_ENABLE.inst ch.val) = false := ⟨.core, 5, true, wFlashOperationsAndChannels17,
    by decide +kernel⟩
def wFlashOperationsAndChannels18 : State := withFlds wColl [(IMG_STAT_FAILED, 33)]
theorem witness_FlashOperationsAndChannels_18 : ∃ (q : Requester) (ch : Fin 32) (s : State), canWrite s q (0x60 + ch.val) = true ∧
    flag s (FCH_CTL_ENABLE.inst ch.val) = false ∧ chFailed s ch.val = true ∧ geometryOk (channelEnable s ch.val) ch.val = true :=
    ⟨.core, 5, wFlashOperationsAndChannels18, by decide +kernel⟩
def wFlashOperationsAndChannels19 : State := withFlds (wFch 5) [(IMG_STAT_FAILED, 33)]
theorem witness_FlashOperationsAndChannels_19 : ∃ (q : Requester) (ch : Fin 32) (s : State), canWrite s q (0x60 + ch.val) = true ∧
    flag s (FCH_CTL_ENABLE.inst ch.val) = false ∧ chFailed s ch.val = true ∧ LogsOnly s (srcFch ch.val 5) := ⟨.core, 5,
    wFlashOperationsAndChannels19, by unfold LogsOnly; decide +kernel⟩
theorem witness_FlashOperationsAndChannels_20 : ∃ (a : Fin 4) (s : State), dataUp s = true := ⟨2, wColl, by decide +kernel⟩
def wArcDown : State := withFlds wColl ((FLT_CLASS_SRC 0x3A 0, 1) :: (IMG_STAT_FAILED, 255 * 65536) :: (List.range 8).map (fun i => (FLT_CLASS_SRC (0x70 + i) 5, 1)))
theorem witness_FlashOperationsAndChannels_21 : ∃ (a : Fin 4) (s : State), dataUp s = true ∧ LogsOnly s (srcArc a.val 0) ∧ (∀ i, i <
    8 → chFailed s (8 * a.val + i) = true ∧ LogsOnly s (srcFch (8 * a.val + i) 5)) := ⟨2, wArcDown,
    by unfold LogsOnly; decide +kernel⟩
theorem witness_FlashOperationsAndChannels_22 : ∃ (q : Requester) (s : State), canWrite s q 0x31 = true := ⟨.core, wServe,
    by decide +kernel⟩
theorem witness_FlashOperationsAndChannels_23 : ∃ (q : Requester) (s : State), canWrite s q 0x31 = true := ⟨.core, wServe,
    by decide +kernel⟩
theorem witness_CommitsStandOnTwoCopies_1 : ∃ (first count : Nat) (s : State), dataUp s = true := ⟨300, 4096, wColl,
    by decide +kernel⟩
def wCommitsStandOnTwoCopies2 : State := withFlds wColl [(FLT_CLASS_SRC 0x30 7, 1)]
theorem witness_CommitsStandOnTwoCopies_2 : ∃ (first count : Nat) (s : State), dataUp s = true ∧ LogsOnly s (srcImg 7) := ⟨300,
    4096, wCommitsStandOnTwoCopies2, by unfold LogsOnly; decide +kernel⟩
theorem witness_CommitsStandOnTwoCopies_3 : ∃ (n : Nat) (s : State), dataUp s = true := ⟨0, wColl, by decide +kernel⟩
def wCommitsStandOnTwoCopies4 : State := { wColl with img := { wColl.img with anchors := [wAnch 1 0x11 4] } }
theorem witness_CommitsStandOnTwoCopies_4 : ∃ (n : Nat) (r : Record) (s : State), dataUp s = true ∧ commitOf s (newestGen s) = some
    r := ⟨0, wRec 0x11 4, wCommitsStandOnTwoCopies4, by decide +kernel⟩
def wClosing (dump : Bool) : Closing := ⟨5, dump, [(2, wLed 3)], GenDir.none_, [], 0, 0, 1⟩
def wClose (dump : Bool) (anch : List AnchorPage) : State :=
  { wColl with img := { wColl.img with closing := some (wClosing dump), anchors := anch, opened := [(2, wLed 4)] } }
def wCommitsStandOnTwoCopies5 : State := wClose true [wAnch 0 0x11 4]
theorem witness_CommitsStandOnTwoCopies_5 : ∃ (c : Closing) (verified : Bool) (s : State), dataUp s = true ∧ s.img.closing = some c
    ∧ commitStands s c.gen = none ∧ chFailed s (fld s IMG_ANCHOR_CH1) = false := ⟨wClosing true, true, wCommitsStandOnTwoCopies5,
    by decide +kernel⟩
def wCommitsStandOnTwoCopies5b : State := wClose false [wAnch 0 0x11 4]
theorem witness_CommitsStandOnTwoCopies_5b : ∃ (c : Closing) (verified : Bool) (s : State), dataUp s = true ∧ s.img.closing = some c
    ∧ commitStands s c.gen = none ∧ chFailed s (fld s IMG_ANCHOR_CH1) = false := ⟨wClosing false, false, wCommitsStandOnTwoCopies5b,
    by decide +kernel⟩
theorem witness_CommitsStandOnTwoCopies_6 : ∃ (verified : Bool) (s : State), s.img.closing = none := ⟨true, wColl,
    by decide +kernel⟩
def wCommitsStandOnTwoCopies7 : State := wClose false [wAnch 0 0x11 4, wAnch 1 0x11 5]
theorem witness_CommitsStandOnTwoCopies_7 : ∃ (c : Closing) (r : Record) (s : State), dataUp s = true ∧ s.img.closing = some c ∧
    c.dump = false ∧ commitStands s c.gen = some r ∧ chFailed s (fld s IMG_ANCHOR_CH2) = false ∧ c.gen < 2 ^ 64 ∧ s.img.rebuildLeft
    = 0 ∧ s.img.reshapeAt = none := ⟨wClosing false, wRec 0x11 5, wCommitsStandOnTwoCopies7, by decide +kernel⟩
def wCommitsStandOnTwoCopies8 : State :=
  withFlds { wClose true [wAnch 0 0x11 4, wAnch 1 0x11 5] with vault := .dump } [(PWR_STAT_MAIN, 0)]
theorem witness_CommitsStandOnTwoCopies_8 : ∃ (c : Closing) (r : Record) (s : State), dataUp s = true ∧ s.vault = .dump ∧
    s.img.closing = some c ∧ c.dump = true ∧ commitStands s c.gen = some r ∧ mainPresent s = false := ⟨wClosing true, wRec 0x11 5,
    wCommitsStandOnTwoCopies8, by decide +kernel⟩
def wCommitsStandOnTwoCopies9 : State :=
  withFlds { wClose true [wAnch 0 0x11 4, wAnch 1 0x11 5] with vault := .dump } [(PWR_STAT_MAIN, 1)]
theorem witness_CommitsStandOnTwoCopies_9 : ∃ (c : Closing) (r : Record) (s : State), dataUp s = true ∧ s.vault = .dump ∧
    s.img.closing = some c ∧ c.dump = true ∧ commitStands s c.gen = some r ∧ mainPresent s = true := ⟨wClosing true, wRec 0x11 5,
    wCommitsStandOnTwoCopies9, by decide +kernel⟩
def wRst : State := { wColl with vault := .restore, img := { wColl.img with restoring := [(2, 2 ^ 256 - 1)], dirtyOnRestore := [2] } }
theorem witness_RestoreAndReconciliation_1 : ∃ (u : Nat) (s : State), rstMode s = true ∧ dataUp s = true ∧ u < installedUnits s ∧
    isRestored s u = false ∧ restoreDone s u = true ∧ allRestored (setRestored s u true) = false ∧ s.psg.fetchWait = [] := ⟨2, wRst,
    by decide +kernel⟩
def wRestoreAndReconciliation2 : State :=
  { wRst with img := { wRst.img with restoring := [], committed := [(2, { wLed 1 with lost := true })] } }
theorem witness_RestoreAndReconciliation_2 : ∃ (s : State), s.vault = .restore ∧ dataUp s = true ∧ (psgUp s = false ∨ partnerServes
    s = false) ∧ (∃ u ∈ lostUnits s, u < installedUnits s ∧ isRestored s u = false ∧ restoreDone s u = false) :=
    ⟨wRestoreAndReconciliation2, by decide +kernel⟩
def wLog (opc : Nat) : State :=
  { wImg with pwr := { PowerSt.reset with log := [⟨BitVec.ofNat 128 (opc + 0x105 * 2 ^ 47 + 2 ^ 83 + 3 * 2 ^ 92), 7, 0⟩] } }
def wRestoreAndReconciliation4 : State := wLog opADD64
theorem witness_RestoreAndReconciliation_4 : ∃ (q : Requester) (e : LogEntry) (l : Nat) (s : State), canWrite s q 0x30 = true ∧
    serving s = true ∧ flag s IMG_RLOG_IDX_BUSY = false ∧ flag s PSG_STAT_FWD_ALL = false ∧ s.pwr.log[indexOf s q
    IMG_RLOG_IDX_INDEX]? = some e ∧ loggedLine s e = some l ∧ e.hdr.toNat % 32 ≠ opWR ∧ l + lineCount (BitVec.ofNat 6 (bitsOf
    e.hdr.toNat 88 83)) ≤ installedLines s ∧ (reqUnits l (lineCount (BitVec.ofNat 6 (bitsOf e.hdr.toNat 88 83)))).all (unitReady s)
    = true ∧ isPoison s l = false := ⟨.core, ⟨BitVec.ofNat 128 (opADD64 + 0x105 * 2 ^ 47 + 2 ^ 83 + 3 * 2 ^ 92), 7, 0⟩, 5,
    wRestoreAndReconciliation4, by decide +kernel⟩
def wRestoreAndReconciliation5 : State := wLog opWR
theorem witness_RestoreAndReconciliation_5 : ∃ (q : Requester) (e : LogEntry) (l : Nat) (s : State), canWrite s q 0x30 = true ∧
    serving s = true ∧ flag s IMG_RLOG_IDX_BUSY = false ∧ psgUp s = true ∧ s.pwr.log[indexOf s q IMG_RLOG_IDX_INDEX]? = some e ∧
    loggedLine s e = some l ∧ e.hdr.toNat % 32 = opWR ∧ l + lineCount (BitVec.ofNat 6 (bitsOf e.hdr.toNat 88 83)) ≤ installedLines s
    ∧ (reqUnits l (lineCount (BitVec.ofNat 6 (bitsOf e.hdr.toNat 88 83)))).all (unitReady s) = true := ⟨.core, ⟨BitVec.ofNat 128
    (opWR + 0x105 * 2 ^ 47 + 2 ^ 83 + 3 * 2 ^ 92), 7, 0⟩, 5, wRestoreAndReconciliation5, by decide +kernel⟩
def wRestoreAndReconciliation6 : State := { wImg with vault := .join }
theorem witness_RestoreAndReconciliation_6 : ∃ (q : Requester) (s : State), canWrite s q 0x30 = true ∧ (serving s = false ∨ flag s
    IMG_RLOG_IDX_BUSY = true) := ⟨.core, wRestoreAndReconciliation6, by decide +kernel⟩
def wRestoreAndReconciliation7 : State := wLog opADD64
theorem witness_RestoreAndReconciliation_7 : ∃ (q : Requester) (i : BitVec 14) (s : State), canWrite s q 0x30 = true := ⟨.core, 9,
    wRestoreAndReconciliation7, by decide +kernel⟩
theorem witness_RestoreAndReconciliation_8 : ∃ (q : Requester) (s : State), canWrite s q 0x30 = true := ⟨.core, wServe,
    by decide +kernel⟩
theorem witness_RestoreAndReconciliation_9 : ∃ (q : Requester) (s : State), canWrite s q 0x30 = true := ⟨.core, wServe,
    by decide +kernel⟩
def wRestoreAndReconciliation3 : State := { wRst with vault := .ride, pwr := { PowerSt.reset with rideFrom := .restore } }
theorem witness_RestoreAndReconciliation_3 : ∃ (s : State), rstMode s = true ∧ dataUp s = true ∧ (s.vault ≠ .restore ∨ psgUp s =
    true ∧ partnerServes s = true) := ⟨wRestoreAndReconciliation3, by decide +kernel⟩
def wRestoreAndReconciliation3b : State :=
  withFlds { wRst with psg := { PsgSt.reset with credit := 64, partner := some .serve } } [(PSG_STAT_STATE, 2)]
theorem witness_RestoreAndReconciliation_3b : ∃ (s : State), rstMode s = true ∧ dataUp s = true ∧ (s.vault ≠ .restore ∨ psgUp s =
    true ∧ partnerServes s = true) := ⟨wRestoreAndReconciliation3b, by decide +kernel⟩
def wRestoreAndReconciliation10 : State := withFlds wServe [(FLT_CLASS_SRC 0x30 11, 1)]
theorem witness_RestoreAndReconciliation_10 : ∃ (q : Requester) (s : State), canWrite s q 0x30 = true ∧ LogsOnly s (srcImg 11) :=
    ⟨.core, wRestoreAndReconciliation10, by unfold LogsOnly; decide +kernel⟩
/-- The control-store word of OPC and its fields. -/
def wMicro (opc : Nat) (m : Micro) : BitVec 128 :=
  BitVec.ofNat 128 (opc * 2 ^ 122 + m.cond.toNat * 2 ^ 118 + m.rd.toNat * 2 ^ 114 + m.ra.toNat * 2 ^ 110 + m.rb.toNat * 2 ^ 106 +
    m.rc.toNat * 2 ^ 102 + m.mod.toNat * 2 ^ 96 + m.target.toNat * 2 ^ 64 + m.imm.toNat)
/-- RD G3, RA G1, RB G2, RC G4. -/
def wM (mod : BitVec 6) (imm : Word) : Micro := { cond := 0, rd := 3, ra := 1, rb := 2, rc := 4, mod := mod, target := 0x80, imm := imm }
/-- The image is ready with generation 5 open, unit 3 in it, and a stripe open for context 1. -/
def wOpenStripe : OpenStripe := ⟨413696, 0, 1, List.finRange 8, 0, [], [], ⟨0, []⟩, ⟨0, []⟩⟩
def wWork : State :=
  withFlds { wServe with img := { State.reset.img with key := some 5, pages := [wPage 1 3 0], committed := [(3, wLed 1)], anchors := [wAnch 1 0x11 4], openStripes := [wOpenStripe], held := [100, 101] } }
    [(DRC_MAP_DENSITY, 2), (IMG_STAT_READY, 1), (IMG_GEN_OPEN_G, 5), (IMG_WSEQ_NEXT, 13), (SEQ_CTL_ENABLE, 1), (PSG_STAT_STATE, 2), (IMG_ANCHOR_CH1, 0), (IMG_ANCHOR_CH2, 2), (FLT_CLASS_SRC 0x20 2, 1), (FLT_CLASS_SRC 0x30 1, 1), (FLT_CLASS_SRC 0x30 2, 1)]
def wCtx (a b n : Word) : CtxSt := { CtxSt.idle with run := 1, routine := 2, pc := 0x40, g := [0, a, b, 0, n] ++ List.replicate 11 7 }
/-- Context c runs with this word at its PC. -/
def wSeqOn (base : State) (c : Fin 4) (x : CtxSt) (opc : Nat) (m : Micro) : State :=
  let s1 := setCtx base c x
  { s1 with seq := { s1.seq with bankA := [(x.pc.toNat, wMicro opc m)] } }
def wSeq (opc : Nat) (m : Micro) : State := wSeqOn wWork 1 (wCtx 5 9 2) opc m
def wMc : Micro := { wM 10 0 with cond := 10 }
def wMicrowordsIssueAtTheirPlace1 : State := wSeq 2 (wM 0 0)
theorem witness_MicrowordsIssueAtTheirPlace_1 : ∃ (c : Fin 4) (m : Micro) (opc : Nat) (sel : Bool) (i : Instr) (s : State), (opc,
    sel, i) ∈ microRows c m ++ pathRows c m ∧ issues s c opc m = false := ⟨1, wM 0 0, 1, true, .seqMov 1 (wM 0 0),
    wMicrowordsIssueAtTheirPlace1, by refine ⟨by simp [microRows], ?_⟩; decide +kernel⟩
def wMicrowordsIssueAtTheirPlace1b : State := wSeq 2 { wM 0 0 with cond := 11 }
theorem witness_MicrowordsIssueAtTheirPlace_1b : ∃ (c : Fin 4) (m : Micro) (opc : Nat) (sel : Bool) (i : Instr) (s : State), (opc,
    sel, i) ∈ microRows c m ++ pathRows c m ∧ sel = true ∧ issues s c opc m = true ∧ 10 < m.cond.toNat := ⟨1, { wM 0 0 with cond :=
    11 }, 2, true, .seqAdd 1 { wM 0 0 with cond := 11 }, wMicrowordsIssueAtTheirPlace1b,
    by refine ⟨by simp [microRows], ?_⟩; decide +kernel⟩
def wMicrowordsIssueAtTheirPlace1c : State := wSeq 0x14 wMc
theorem witness_MicrowordsIssueAtTheirPlace_1c : ∃ (c : Fin 4) (m : Micro) (opc : Nat) (sel : Bool) (i : Instr) (s : State), (opc,
    sel, i) ∈ microRows c m ++ pathRows c m ∧ sel = true ∧ issues s c opc m = true ∧ m.cond.toNat ≤ 10 ∧ condHolds (getCtx s
    c).flags m.cond.toNat = false := ⟨1, wMc, 0x14, true, .copyZeroToDram 1 wMc, wMicrowordsIssueAtTheirPlace1c,
    by refine ⟨by simp only [pathRows]; simp; decide, ?_⟩; decide +kernel⟩
def wMicrowordsIssueAtTheirPlace1d : State := wSeqOn wWork 3 { wCtx 5 9 2 with pc := 0x3010 } 0x1A (wM 0 0)
theorem witness_MicrowordsIssueAtTheirPlace_1d : ∃ (c : Fin 4) (m : Micro) (opc : Nat) (sel : Bool) (i : Instr) (s : State), (opc,
    sel, i) ∈ microRows c m ++ pathRows c m ∧ sel = true ∧ issues s c opc m = true ∧ m.cond.toNat ≤ 10 ∧ condHolds (getCtx s
    c).flags m.cond.toNat = true ∧ inCust (getCtx s c) = true ∧ custAllowed opc (getCtx s c).hook.isSome = false := ⟨3, wM 0 0,
    0x1A, true, .seqCommit 3 (wM 0 0), wMicrowordsIssueAtTheirPlace1d, by refine ⟨by simp [microRows], ?_⟩; decide +kernel⟩
def wMicrowordsIssueAtTheirPlace1e : State := wSeqOn wWork 1 { wCtx 5 9 2 with run := 3 } 0x21 (wM 0 0)
theorem witness_MicrowordsIssueAtTheirPlace_1e : ∃ (c : Fin 4) (m : Micro) (opc : Nat) (sel : Bool) (i : Instr) (s : State), (opc,
    sel, i) ∈ microRows c m ++ pathRows c m ∧ sel = true ∧ issues s c opc m = true ∧ m.cond.toNat ≤ 10 ∧ condHolds (getCtx s
    c).flags m.cond.toNat = true ∧ inCust (getCtx s c) = false ∧ ((getCtx s c).run = 3 ∧ handlerBars opc = true) := ⟨1, wM 0 0,
    0x21, true, .seqEnd 1 (wM 0 0), wMicrowordsIssueAtTheirPlace1e, by refine ⟨by simp [microRows], ?_⟩; decide +kernel⟩
def wMicrowordsIssueAtTheirPlace1f : State := wSeqOn wWork 1 { wCtx 5 9 2 with run := 5 } 0x1C (wM 0 0)
theorem witness_MicrowordsIssueAtTheirPlace_1f : ∃ (c : Fin 4) (m : Micro) (opc : Nat) (sel : Bool) (i : Instr) (s : State), (opc,
    sel, i) ∈ microRows c m ++ pathRows c m ∧ sel = true ∧ issues s c opc m = true ∧ m.cond.toNat ≤ 10 ∧ condHolds (getCtx s
    c).flags m.cond.toNat = true ∧ inCust (getCtx s c) = false ∧ ((getCtx s c).run = 5 ∧ yields opc = true) := ⟨1, wM 0 0, 0x1C,
    true, .seqWaite 1 (wM 0 0), wMicrowordsIssueAtTheirPlace1f, by refine ⟨by simp [microRows], ?_⟩; decide +kernel⟩
def wMicrowordsIssueAtTheirPlace1g : State := wSeq 0x14 (wM 2 0)
theorem witness_MicrowordsIssueAtTheirPlace_1g : ∃ (c : Fin 4) (m : Micro) (opc : Nat) (sel : Bool) (i : Instr) (s : State), (opc,
    sel, i) ∈ microRows c m ++ pathRows c m ∧ sel = false := ⟨1, wM 2 0, 0x14, false, .copyDramToImage 1 (wM 2 0),
    wMicrowordsIssueAtTheirPlace1g, by simp only [pathRows]; simp; decide⟩
def wArithmeticAndBranchesFollowTheTable1a : State := wSeqOn wWork 1 (wCtx 5 9 2) 1 (wM 0 0)
theorem witness_ArithmeticAndBranchesFollowTheTable_1a : ∃ (c : Fin 4) (m : Micro) (s : State), seqReady s c 0x01 m := ⟨1, wM 0 0,
    wArithmeticAndBranchesFollowTheTable1a, by unfold seqReady; decide +kernel⟩
def wArithmeticAndBranchesFollowTheTable1b : State := wSeqOn wWork 1 (wCtx (-1) 1 0) 2 (wM 0 0)
theorem witness_ArithmeticAndBranchesFollowTheTable_1b : ∃ (c : Fin 4) (m : Micro) (s : State), seqReady s c 0x02 m := ⟨1, wM 0 0,
    wArithmeticAndBranchesFollowTheTable1b, by unfold seqReady; decide +kernel⟩
def wArithmeticAndBranchesFollowTheTable1c : State := wSeqOn wWork 1 (wCtx 0 (BitVec.ofNat 64 (2 ^ 63)) 0) 3 (wM 0 0)
theorem witness_ArithmeticAndBranchesFollowTheTable_1c : ∃ (c : Fin 4) (m : Micro) (s : State), seqReady s c 0x03 m := ⟨1, wM 0 0,
    wArithmeticAndBranchesFollowTheTable1c, by unfold seqReady; decide +kernel⟩
def wArithmeticAndBranchesFollowTheTable1d : State := wSeqOn wWork 1 (wCtx 5 9 2) 4 (wM 0 0)
theorem witness_ArithmeticAndBranchesFollowTheTable_1d : ∃ (c : Fin 4) (m : Micro) (s : State), seqReady s c 0x04 m := ⟨1, wM 0 0,
    wArithmeticAndBranchesFollowTheTable1d, by unfold seqReady; decide +kernel⟩
def wArithmeticAndBranchesFollowTheTable1e : State := wSeqOn wWork 1 (wCtx 5 9 2) 5 (wM 0 0)
theorem witness_ArithmeticAndBranchesFollowTheTable_1e : ∃ (c : Fin 4) (m : Micro) (s : State), seqReady s c 0x05 m := ⟨1, wM 0 0,
    wArithmeticAndBranchesFollowTheTable1e, by unfold seqReady; decide +kernel⟩
def wArithmeticAndBranchesFollowTheTable1f : State := wSeqOn wWork 1 (wCtx 5 9 2) 6 (wM 0 0)
theorem witness_ArithmeticAndBranchesFollowTheTable_1f : ∃ (c : Fin 4) (m : Micro) (s : State), seqReady s c 0x06 m := ⟨1, wM 0 0,
    wArithmeticAndBranchesFollowTheTable1f, by unfold seqReady; decide +kernel⟩
def wArithmeticAndBranchesFollowTheTable1g : State := wSeqOn wWork 1 (wCtx 5 9 2) 7 (wM 0 0)
theorem witness_ArithmeticAndBranchesFollowTheTable_1g : ∃ (c : Fin 4) (m : Micro) (s : State), seqReady s c 0x07 m := ⟨1, wM 0 0,
    wArithmeticAndBranchesFollowTheTable1g, by unfold seqReady; decide +kernel⟩
def wArithmeticAndBranchesFollowTheTable1h : State := wSeqOn wWork 1 (wCtx 5 9 2) 8 (wM 1 0x41)
theorem witness_ArithmeticAndBranchesFollowTheTable_1h : ∃ (c : Fin 4) (m : Micro) (s : State), seqReady s c 0x08 m := ⟨1, wM 1
    0x41, wArithmeticAndBranchesFollowTheTable1h, by unfold seqReady; decide +kernel⟩
def wArithmeticAndBranchesFollowTheTable2 : State := wSeq 0 (wM 0 0)
theorem witness_ArithmeticAndBranchesFollowTheTable_2 : ∃ (c : Fin 4) (m : Micro) (s : State), seqReady s c 0x00 m := ⟨1, wM 0 0,
    wArithmeticAndBranchesFollowTheTable2, by unfold seqReady; decide +kernel⟩
def wArithmeticAndBranchesFollowTheTable3 : State := wSeq 9 (wM 0 0)
theorem witness_ArithmeticAndBranchesFollowTheTable_3 : ∃ (c : Fin 4) (m : Micro) (s : State), seqReady s c 0x09 m := ⟨1, wM 0 0,
    wArithmeticAndBranchesFollowTheTable3, by unfold seqReady; decide +kernel⟩
def wArithmeticAndBranchesFollowTheTable4 : State := wSeq 0x0A (wM 0 0)
theorem witness_ArithmeticAndBranchesFollowTheTable_4 : ∃ (c : Fin 4) (m : Micro) (s : State), seqReady s c 0x0A m ∧ targetOk
    (getCtx s c) m.target = true := ⟨1, wM 0 0, wArithmeticAndBranchesFollowTheTable4, by unfold seqReady; decide +kernel⟩
def wArithmeticAndBranchesFollowTheTable5 : State := wSeq 0x0B (wM 0 0)
theorem witness_ArithmeticAndBranchesFollowTheTable_5 : ∃ (c : Fin 4) (m : Micro) (s : State), seqReady s c 0x0B m ∧ targetOk
    (getCtx s c) m.target = true := ⟨1, wM 0 0, wArithmeticAndBranchesFollowTheTable5, by unfold seqReady; decide +kernel⟩
def wArithmeticAndBranchesFollowTheTable5b : State := wSeqOn wWork 1 { wCtx 0 0 0 with stack := [1, 2, 3, 4] } 0x0B (wM 0 0)
theorem witness_ArithmeticAndBranchesFollowTheTable_5b : ∃ (c : Fin 4) (m : Micro) (s : State), seqReady s c 0x0B m ∧ targetOk
    (getCtx s c) m.target = true := ⟨1, wM 0 0, wArithmeticAndBranchesFollowTheTable5b, by unfold seqReady; decide +kernel⟩
def wArithmeticAndBranchesFollowTheTable6 : State := wSeqOn wWork 1 { wCtx 0 0 0 with stack := [9, 8] } 0x0C (wM 0 0)
theorem witness_ArithmeticAndBranchesFollowTheTable_6 : ∃ (c : Fin 4) (m : Micro) (p : BitVec 14) (rest : List (BitVec 14)) (s :
    State), seqReady s c 0x0C m ∧ (getCtx s c).stack = p :: rest := ⟨1, wM 0 0, 9, [8], wArithmeticAndBranchesFollowTheTable6,
    by unfold seqReady; decide +kernel⟩
def wArithmeticAndBranchesFollowTheTable7 : State := wSeq 0x0C (wM 0 0)
theorem witness_ArithmeticAndBranchesFollowTheTable_7 : ∃ (c : Fin 4) (m : Micro) (s : State), seqReady s c 0x0C m ∧ (getCtx s
    c).stack = [] := ⟨1, wM 0 0, wArithmeticAndBranchesFollowTheTable7, by unfold seqReady; decide +kernel⟩
def wLoadsReadWhatTheyName1 : State := wSeq 0x0D (wM 0 2042)
theorem witness_LoadsReadWhatTheyName_1 : ∃ (c : Fin 4) (m : Micro) (s : State), (let a := (greg (getCtx s c) m.ra + m.imm); (inCust
    (getCtx s c) = true → inSlice c a.toNat = true) ∧ a.toNat ≤ 2047 ∧ seqReady s c 0x0D m) := ⟨1, wM 0 2042,
    wLoadsReadWhatTheyName1, by unfold seqReady; decide +kernel⟩
def wLoadsReadWhatTheyName1b : State := wSeq 0x0E (wM 0 2042)
theorem witness_LoadsReadWhatTheyName_1b : ∃ (c : Fin 4) (m : Micro) (s : State), (let a := (greg (getCtx s c) m.ra + m.imm);
    (inCust (getCtx s c) = true → inSlice c a.toNat = true) ∧ a.toNat ≤ 2047 ∧ seqReady s c 0x0E m) := ⟨1, wM 0 2042,
    wLoadsReadWhatTheyName1b, by unfold seqReady; decide +kernel⟩
def wLoadsReadWhatTheyName1c : State := wSeq 0x0D (wM 0 2043)
theorem witness_LoadsReadWhatTheyName_1c : ∃ (c : Fin 4) (m : Micro) (s : State), (let a := (greg (getCtx s c) m.ra + m.imm);
    (inCust (getCtx s c) = true → inSlice c a.toNat = true) ∧ 2047 < a.toNat ∧ seqReady s c 0x0D m) := ⟨1, wM 0 2043,
    wLoadsReadWhatTheyName1c, by unfold seqReady; decide +kernel⟩
def wLoadsReadWhatTheyName1d : State := wSeq 0x0E (wM 0 2043)
theorem witness_LoadsReadWhatTheyName_1d : ∃ (c : Fin 4) (m : Micro) (s : State), (let a := (greg (getCtx s c) m.ra + m.imm);
    (inCust (getCtx s c) = true → inSlice c a.toNat = true) ∧ 2047 < a.toNat ∧ seqReady s c 0x0E m) := ⟨1, wM 0 2043,
    wLoadsReadWhatTheyName1d, by unfold seqReady; decide +kernel⟩
def wLoadsReadWhatTheyName2 : State := wSeq 0x0F (wM 0 7)
theorem witness_LoadsReadWhatTheyName_2 : ∃ (c : Fin 4) (m : Micro) (s : State), (let l := ((greg (getCtx s c) m.ra).toNat);
    seqReady s c 0x0F m ∧ l < installedLines s ∧ ReadsQuietly s l 1 ∧ (inCust (getCtx s c) = true → fld s SEQ_CUST_WIN_BASE ≤ l ∧ l
    ≤ fld s SEQ_CUST_WIN_LIMIT) ∧ isPoison s l = false ∧ l ∉ s.dram.capture) := ⟨1, wM 0 7, wLoadsReadWhatTheyName2,
    by unfold seqReady ReadsQuietly LogsOnly; and_intros <;> decide +kernel⟩
def wLoadsReadWhatTheyName2b : State :=
  withFlds (wSeqOn wWork 1 { wCtx 5 9 2 with pc := 0x3010 } 0x0F (wM 0 7)) [(SEQ_CUST_WIN_BASE, 5), (SEQ_CUST_WIN_LIMIT, 5)]
theorem witness_LoadsReadWhatTheyName_2b : ∃ (c : Fin 4) (m : Micro) (s : State), (let l := ((greg (getCtx s c) m.ra).toNat);
    seqReady s c 0x0F m ∧ l < installedLines s ∧ ReadsQuietly s l 1 ∧ (inCust (getCtx s c) = true → fld s SEQ_CUST_WIN_BASE ≤ l ∧ l
    ≤ fld s SEQ_CUST_WIN_LIMIT) ∧ isPoison s l = false ∧ l ∉ s.dram.capture) := ⟨1, wM 0 7, wLoadsReadWhatTheyName2b,
    by unfold seqReady ReadsQuietly LogsOnly; and_intros <;> decide +kernel⟩
def wLoadsReadWhatTheyName2c : State := { wSeq 0x0F (wM 0 7) with dram := { DramSt.reset with poison := [5] } }
theorem witness_LoadsReadWhatTheyName_2c : ∃ (c : Fin 4) (m : Micro) (s : State), (let l := ((greg (getCtx s c) m.ra).toNat);
    seqReady s c 0x0F m ∧ l < installedLines s ∧ ReadsQuietly s l 1 ∧ (inCust (getCtx s c) = true → fld s SEQ_CUST_WIN_BASE ≤ l ∧ l
    ≤ fld s SEQ_CUST_WIN_LIMIT) ∧ isPoison s l = true) := ⟨1, wM 0 7, wLoadsReadWhatTheyName2c,
    by unfold seqReady ReadsQuietly LogsOnly; and_intros <;> decide +kernel⟩
def wLoadsReadWhatTheyName2d : State := { wSeq 0x0F (wM 0 7) with dram := { DramSt.reset with capture := [5] } }
theorem witness_LoadsReadWhatTheyName_2d : ∃ (c : Fin 4) (m : Micro) (s : State), (let l := ((greg (getCtx s c) m.ra).toNat);
    seqReady s c 0x0F m ∧ l < installedLines s ∧ ReadsQuietly s l 1 ∧ (inCust (getCtx s c) = true → fld s SEQ_CUST_WIN_BASE ≤ l ∧ l
    ≤ fld s SEQ_CUST_WIN_LIMIT) ∧ l ∈ s.dram.capture) := ⟨1, wM 0 7, wLoadsReadWhatTheyName2d,
    by unfold seqReady ReadsQuietly LogsOnly; and_intros <;> decide +kernel⟩
def wLoadsReadWhatTheyName3 : State := wSeq 0x10 (wM 0 0)
theorem witness_LoadsReadWhatTheyName_3 : ∃ (c : Fin 4) (m : Micro) (s : State), seqReady s c 0x10 m := ⟨1, wM 0 0,
    wLoadsReadWhatTheyName3, by unfold seqReady; decide +kernel⟩
def wLoadsReadWhatTheyName4 : State := wSeq 0x11 (wM 0 0)
theorem witness_LoadsReadWhatTheyName_4 : ∃ (c : Fin 4) (m : Micro) (s : State), seqReady s c 0x11 m := ⟨1, wM 0 0,
    wLoadsReadWhatTheyName4, by unfold seqReady; decide +kernel⟩
def wBits (opc : Nat) (m : Micro) : State := { wSeq opc m with dram := { DramSt.reset with dirty := ⟨false, [3, 8]⟩, diverged := ⟨false, [4, 16]⟩ } }
def wLoadsReadWhatTheyName5 : State := wBits 0x12 (wM 0 0)
theorem witness_LoadsReadWhatTheyName_5 : ∃ (c : Fin 4) (m : Micro) (s : State), (let a := ((greg (getCtx s c) m.ra).toNat); let map
    := (if bitAt m.mod.toNat 1 then s.dram.diverged else s.dram.dirty); seqReady s c 0x12 m ∧ risingFrom 0 map.except = true ∧ bitAt
    m.mod.toNat 1 = false ∧ (greg (getCtx s c) m.ra).toNat ≤ 8 ∧ 8 < installedUnits s ∧ s.dram.dirty.get 8 = true ∧ (∀ v, v < 8 →
    (greg (getCtx s c) m.ra).toNat ≤ v → s.dram.dirty.get v = false)) := ⟨1, wM 0 0, wLoadsReadWhatTheyName5,
    by unfold seqReady; decide +kernel⟩
def wLoadsReadWhatTheyName5b : State := wBits 0x12 (wM 2 0)
theorem witness_LoadsReadWhatTheyName_5b : ∃ (c : Fin 4) (m : Micro) (s : State), (let a := ((greg (getCtx s c) m.ra).toNat); let
    map := (if bitAt m.mod.toNat 1 then s.dram.diverged else s.dram.dirty); seqReady s c 0x12 m ∧ risingFrom 0 map.except = true ∧
    bitAt m.mod.toNat 1 = true ∧ (greg (getCtx s c) m.ra).toNat ≤ 16 ∧ 16 < installedUnits s ∧ s.dram.diverged.get 16 = true ∧ (∀ v,
    v < 16 → (greg (getCtx s c) m.ra).toNat ≤ v → s.dram.diverged.get v = false)) := ⟨1, wM 2 0, wLoadsReadWhatTheyName5b,
    by unfold seqReady; decide +kernel⟩
def wLoadsReadWhatTheyName6 : State := { wSeq 0x13 (wM 0 0) with pwr := { PowerSt.reset with demand := [7] } }
theorem witness_LoadsReadWhatTheyName_6 : ∃ (c : Fin 4) (m : Micro) (s : State), seqReady s c 0x13 m := ⟨1, wM 0 0,
    wLoadsReadWhatTheyName6, by unfold seqReady; decide +kernel⟩
/-- COPY with the block count b, of n blocks, from RA a to RB d. -/
def wCopy (c : Fin 4) (a d n : Word) (b : Nat) (path : BitVec 6) : State :=
  let s := wSeqOn wWork c { wCtx a d n with blocks := b } 0x14 (wM (2 * path) 0)
  { s with dram := { s.dram with cells := [(300, 1), (49152, 7)], poison := [1] } }
def wCopyMovesBlocksAlongItsPath1 : State := wCopy 1 0 0 8 0 0
theorem witness_CopyMovesBlocksAlongItsPath_1 : ∃ (c : Fin 4) (m : Micro) (s : State), (let x := (getCtx s c); let n := ((greg x
    m.rc).toNat); let u := ((greg x m.ra).toNat + x.blocks / 4); let k := (x.blocks % 4); seqReady s c 0x14 m ∧ copyPath m = 0 ∧ 1 ≤
    n ∧ n ≤ 4096 ∧ 256 * u < installedLines s ∧ ReadsQuietly s (256 * u + 64 * k) 64 ∧ imageWrites s = true ∧ touchesOffline s u =
    false ∧ k ≠ 3 ∧ x.blocks + 1 < n) := ⟨1, wM 0 0, wCopyMovesBlocksAlongItsPath1,
    by unfold seqReady ReadsQuietly LogsOnly; and_intros <;> decide +kernel⟩
def wCopyMovesBlocksAlongItsPath1b : State := wCopy 1 0 0 8 3 0
theorem witness_CopyMovesBlocksAlongItsPath_1b : ∃ (c : Fin 4) (m : Micro) (s : State), (let x := (getCtx s c); let n := ((greg x
    m.rc).toNat); let u := ((greg x m.ra).toNat + x.blocks / 4); let k := (x.blocks % 4); seqReady s c 0x14 m ∧ copyPath m = 0 ∧ 1 ≤
    n ∧ n ≤ 4096 ∧ 256 * u < installedLines s ∧ ReadsQuietly s (256 * u + 64 * k) 64 ∧ imageWrites s = true ∧ touchesOffline s u =
    false ∧ k = 3 ∧ s.img.key = some 5 ∧ FindsStripe s c (unitLayout s u)) := ⟨1, wM 0 0, wCopyMovesBlocksAlongItsPath1b,
    by unfold seqReady ReadsQuietly FindsStripe LogsOnly; and_intros <;> decide +kernel⟩
def wCopyMovesBlocksAlongItsPath1c : State := withFlds (wCopy 1 0 0 8 0 0) [((DRC_SUB_OFFLINE.inst 0).nth 1, 1)]
theorem witness_CopyMovesBlocksAlongItsPath_1c : ∃ (c : Fin 4) (m : Micro) (s : State), (let x := (getCtx s c); let n := ((greg x
    m.rc).toNat); let u := ((greg x m.ra).toNat + x.blocks / 4); let k := (x.blocks % 4); seqReady s c 0x14 m ∧ copyPath m = 0 ∧ 1 ≤
    n ∧ n ≤ 4096 ∧ 256 * u < installedLines s ∧ ReadsQuietly s (256 * u + 64 * k) 64 ∧ imageWrites s = true ∧ touchesOffline s u =
    true ∧ k = 0 ∧ x.blocks + 1 < n ∧ LogsOnly s srcLost) := ⟨1, wM 0 0, wCopyMovesBlocksAlongItsPath1c,
    by unfold seqReady ReadsQuietly LogsOnly; and_intros <;> decide +kernel⟩
def wCopyMovesBlocksAlongItsPath1d : State := withFlds (wCopy 1 0 0 8 3 0) [(IMG_STAT_READY, 0)]
theorem witness_CopyMovesBlocksAlongItsPath_1d : ∃ (c : Fin 4) (m : Micro) (s : State), (let x := (getCtx s c); let n := ((greg x
    m.rc).toNat); let u := ((greg x m.ra).toNat + x.blocks / 4); let k := (x.blocks % 4); seqReady s c 0x14 m ∧ copyPath m = 0 ∧ 1 ≤
    n ∧ n ≤ 4096 ∧ 256 * u < installedLines s ∧ ReadsQuietly s (256 * u + 64 * k) 64 ∧ imageWrites s = false) := ⟨1, wM 0 0,
    wCopyMovesBlocksAlongItsPath1d, by unfold seqReady ReadsQuietly LogsOnly; and_intros <;> decide +kernel⟩
def wCopyMovesBlocksAlongItsPath2 : State := wCopy 1 3 0 4 1 1
theorem witness_CopyMovesBlocksAlongItsPath_2 : ∃ (c : Fin 4) (m : Micro) (s : State), (let x := (getCtx s c); let n := ((greg x
    m.rc).toNat); let u := ((greg x m.ra).toNat + x.blocks / 4); let e := (newestEntry s u); seqReady s c 0x14 m ∧ copyPath m = 1 ∧
    1 ≤ n ∧ n ≤ 4096 ∧ 256 * u < installedLines s ∧ unitReady s u = true) := ⟨1, wM 2 0, wCopyMovesBlocksAlongItsPath2,
    by unfold seqReady; decide +kernel⟩
def wCopyMovesBlocksAlongItsPath2b : State := { wCopy 1 2 0 4 1 1 with vault := .restore }
theorem witness_CopyMovesBlocksAlongItsPath_2b : ∃ (c : Fin 4) (m : Micro) (s : State), (let x := (getCtx s c); let n := ((greg x
    m.rc).toNat); let u := ((greg x m.ra).toNat + x.blocks / 4); let e := (newestEntry s u); seqReady s c 0x14 m ∧ copyPath m = 1 ∧
    1 ≤ n ∧ n ≤ 4096 ∧ 256 * u < installedLines s ∧ unitReady s u = false ∧ e.lost = false ∧ e.written = false) := ⟨1, wM 2 0,
    wCopyMovesBlocksAlongItsPath2b, by unfold seqReady; decide +kernel⟩
def wCopyMovesBlocksAlongItsPath2c : State := { wCopy 1 3 0 4 3 1 with vault := .restore }
theorem witness_CopyMovesBlocksAlongItsPath_2c : ∃ (c : Fin 4) (m : Micro) (s : State), (let x := (getCtx s c); let n := ((greg x
    m.rc).toNat); let u := ((greg x m.ra).toNat + x.blocks / 4); let e := (newestEntry s u); seqReady s c 0x14 m ∧ copyPath m = 1 ∧
    1 ≤ n ∧ n ≤ 4096 ∧ 256 * u < installedLines s ∧ unitReady s u = false ∧ e.lost = false ∧ e.written = true ∧ (unitContent s
    e).isSome = true ∧ s.img.key = some 5) := ⟨1, wM 2 0, wCopyMovesBlocksAlongItsPath2c, by unfold seqReady; decide +kernel⟩
def wCopyMovesBlocksAlongItsPath2d : State :=
  { wCopy 1 4 0 4 3 1 with vault := .restore, img := { wWork.img with committed := [(4, { wLed 1 with lost := true })] } }
theorem witness_CopyMovesBlocksAlongItsPath_2d : ∃ (c : Fin 4) (m : Micro) (s : State), (let x := (getCtx s c); let n := ((greg x
    m.rc).toNat); let u := ((greg x m.ra).toNat + x.blocks / 4); let e := (newestEntry s u); seqReady s c 0x14 m ∧ copyPath m = 1 ∧
    1 ≤ n ∧ n ≤ 4096 ∧ 256 * u < installedLines s ∧ unitReady s u = false ∧ e.lost = true ∧ (psgUp s = false ∨ partnerServes s =
    false)) := ⟨1, wM 2 0, wCopyMovesBlocksAlongItsPath2d, by unfold seqReady; decide +kernel⟩
def wCopyMovesBlocksAlongItsPath2e : State := { wCopy 1 3 0 4 3 1 with vault := .restore, img := { wWork.img with key := none } }
theorem witness_CopyMovesBlocksAlongItsPath_2e : ∃ (c : Fin 4) (m : Micro) (s : State), (let x := (getCtx s c); let n := ((greg x
    m.rc).toNat); let u := ((greg x m.ra).toNat + x.blocks / 4); let e := (newestEntry s u); seqReady s c 0x14 m ∧ copyPath m = 1 ∧
    1 ≤ n ∧ n ≤ 4096 ∧ 256 * u < installedLines s ∧ unitReady s u = false ∧ e.lost = false ∧ e.written = true ∧ (unitContent s
    e).isSome = true ∧ s.img.key = none) := ⟨1, wM 2 0, wCopyMovesBlocksAlongItsPath2e, by unfold seqReady; decide +kernel⟩
def wCopyMovesBlocksAlongItsPath3 : State := wCopy 1 3 0 4 2 2
theorem witness_CopyMovesBlocksAlongItsPath_3 : ∃ (c : Fin 4) (m : Micro) (s : State), (let x := (getCtx s c); let n := ((greg x
    m.rc).toNat); let l := ((greg x m.ra).toNat + 64 * x.blocks); seqReady s c 0x14 m ∧ copyPath m = 2 ∧ 1 ≤ n ∧ n ≤ 4096 ∧ l + 64 ≤
    installedLines s ∧ psgUp s = true ∧ unitReady s (unitOf l) = true ∧ s.psg.fetchWait = []) := ⟨1, wM 4 0,
    wCopyMovesBlocksAlongItsPath3, by unfold seqReady; decide +kernel⟩
def wCopyMovesBlocksAlongItsPath3b : State := withFlds (wCopy 1 3 0 4 2 2) [(PSG_STAT_STATE, 0)]
theorem witness_CopyMovesBlocksAlongItsPath_3b : ∃ (c : Fin 4) (m : Micro) (s : State), (let x := (getCtx s c); let n := ((greg x
    m.rc).toNat); let l := ((greg x m.ra).toNat + 64 * x.blocks); seqReady s c 0x14 m ∧ copyPath m = 2 ∧ 1 ≤ n ∧ n ≤ 4096 ∧ l + 64 ≤
    installedLines s ∧ psgUp s = false) := ⟨1, wM 4 0, wCopyMovesBlocksAlongItsPath3b, by unfold seqReady; decide +kernel⟩
def wCopyMovesBlocksAlongItsPath4 : State := wCopy 1 64 512 4 2 3
theorem witness_CopyMovesBlocksAlongItsPath_4 : ∃ (c : Fin 4) (m : Micro) (s : State), (let x := (getCtx s c); let n := ((greg x
    m.rc).toNat); let l := ((greg x m.ra).toNat + 64 * x.blocks); let d := ((greg x m.rb).toNat + 64 * x.blocks); seqReady s c 0x14
    m ∧ copyPath m = 3 ∧ 1 ≤ n ∧ n ≤ 4096 ∧ l + 64 ≤ installedLines s ∧ d + 64 ≤ installedLines s ∧ ReadsQuietly s l 64 ∧ (c = 3 →
    x.routine ≠ 9)) := ⟨1, wM 6 0, wCopyMovesBlocksAlongItsPath4,
    by unfold seqReady ReadsQuietly LogsOnly; and_intros <;> decide +kernel⟩
def wCopyMovesBlocksAlongItsPath5 : State := wCopy 1 3 0 4 3 4
theorem witness_CopyMovesBlocksAlongItsPath_5 : ∃ (c : Fin 4) (m : Micro) (s : State), (let x := (getCtx s c); let n := ((greg x
    m.rc).toNat); let u := ((greg x m.ra).toNat + x.blocks / 4); seqReady s c 0x14 m ∧ copyPath m = 4 ∧ 1 ≤ n ∧ n ≤ 4096 ∧ 256 * u <
    installedLines s ∧ imageWrites s = true ∧ x.blocks % 4 = 3 ∧ (newestEntry s u).written = true ∧ (unitContent s (newestEntry s
    u)).isSome = true ∧ FindsStripe s c (unitLayout s u)) := ⟨1, wM 8 0, wCopyMovesBlocksAlongItsPath5,
    by unfold seqReady FindsStripe LogsOnly; decide +kernel⟩
def wCopyMovesBlocksAlongItsPath5b : State := wCopy 1 3 0 4 1 4
theorem witness_CopyMovesBlocksAlongItsPath_5b : ∃ (c : Fin 4) (m : Micro) (s : State), (let x := (getCtx s c); let n := ((greg x
    m.rc).toNat); let u := ((greg x m.ra).toNat + x.blocks / 4); seqReady s c 0x14 m ∧ copyPath m = 4 ∧ 1 ≤ n ∧ n ≤ 4096 ∧ 256 * u <
    installedLines s ∧ imageWrites s = true ∧ x.blocks % 4 ≠ 3 ∧ x.blocks + 1 < n) := ⟨1, wM 8 0, wCopyMovesBlocksAlongItsPath5b,
    by unfold seqReady; decide +kernel⟩
def wCopyMovesBlocksAlongItsPath5c : State := wCopy 1 2 0 4 3 4
theorem witness_CopyMovesBlocksAlongItsPath_5c : ∃ (c : Fin 4) (m : Micro) (s : State), (let x := (getCtx s c); let n := ((greg x
    m.rc).toNat); let u := ((greg x m.ra).toNat + x.blocks / 4); seqReady s c 0x14 m ∧ copyPath m = 4 ∧ 1 ≤ n ∧ n ≤ 4096 ∧ 256 * u <
    installedLines s ∧ imageWrites s = true ∧ x.blocks % 4 = 3 ∧ (newestEntry s u).written = false) := ⟨1, wM 8 0,
    wCopyMovesBlocksAlongItsPath5c, by unfold seqReady; decide +kernel⟩
def wCopyMovesBlocksAlongItsPath5d : State := withFlds (wCopy 1 3 0 4 3 4) [(IMG_STAT_READY, 0)]
theorem witness_CopyMovesBlocksAlongItsPath_5d : ∃ (c : Fin 4) (m : Micro) (s : State), (let x := (getCtx s c); let n := ((greg x
    m.rc).toNat); let u := ((greg x m.ra).toNat + x.blocks / 4); seqReady s c 0x14 m ∧ copyPath m = 4 ∧ 1 ≤ n ∧ n ≤ 4096 ∧ 256 * u <
    installedLines s ∧ imageWrites s = false) := ⟨1, wM 8 0, wCopyMovesBlocksAlongItsPath5d, by unfold seqReady; decide +kernel⟩
def wCopyMovesBlocksAlongItsPath6 : State := wCopy 1 0 512 4 3 5
theorem witness_CopyMovesBlocksAlongItsPath_6 : ∃ (c : Fin 4) (m : Micro) (s : State), (let x := (getCtx s c); let n := ((greg x
    m.rc).toNat); let l := ((greg x m.rb).toNat + 64 * x.blocks); seqReady s c 0x14 m ∧ copyPath m = 5 ∧ 1 ≤ n ∧ n ≤ 4096 ∧ l + 64 ≤
    installedLines s) := ⟨1, wM 10 0, wCopyMovesBlocksAlongItsPath6, by unfold seqReady; decide +kernel⟩
def wCopyMovesBlocksAlongItsPath6b : State := { wCopy 1 0 512 4 3 5 with vault := .restore }
theorem witness_CopyMovesBlocksAlongItsPath_6b : ∃ (c : Fin 4) (m : Micro) (s : State), (let x := (getCtx s c); let n := ((greg x
    m.rc).toNat); let l := ((greg x m.rb).toNat + 64 * x.blocks); seqReady s c 0x14 m ∧ copyPath m = 5 ∧ 1 ≤ n ∧ n ≤ 4096 ∧ l + 64 ≤
    installedLines s) := ⟨1, wM 10 0, wCopyMovesBlocksAlongItsPath6b, by unfold seqReady; decide +kernel⟩
def wCopyMovesBlocksAlongItsPath7 : State := wCopy 1 0 512 4097 0 5
theorem witness_CopyMovesBlocksAlongItsPath_7 : ∃ (c : Fin 4) (m : Micro) (i : Instr) (s : State), (let n := ((greg (getCtx s c)
    m.rc).toNat); (0x14, true, i) ∈ pathRows c m ∧ seqReady s c 0x14 m ∧ (n = 0 ∨ 4096 < n)) := ⟨1, wM 10 0, .copyZeroToDram 1 (wM
    10 0), wCopyMovesBlocksAlongItsPath7,
    by simp only [pathRows]; refine ⟨?_, ?_, ?_⟩; (simp; decide); (unfold seqReady; decide +kernel); decide +kernel⟩
def wCopyMovesBlocksAlongItsPath7b : State := wCopy 1 0 512 0 0 0
theorem witness_CopyMovesBlocksAlongItsPath_7b : ∃ (c : Fin 4) (m : Micro) (i : Instr) (s : State), (let n := ((greg (getCtx s c)
    m.rc).toNat); (0x14, true, i) ∈ pathRows c m ∧ seqReady s c 0x14 m ∧ (n = 0 ∨ 4096 < n)) := ⟨1, wM 0 0, .copyDramToImage 1 (wM 0
    0), wCopyMovesBlocksAlongItsPath7b,
    by simp only [pathRows]; refine ⟨?_, ?_, ?_⟩; (simp; decide); (unfold seqReady; decide +kernel); decide +kernel⟩
def wScat (n : Word) (k : Nat) : State :=
  wSeqOn wWork 1 { wCtx 100 0 n with desc := k, scratch := [(100, 5), (101, 0x20000000401), (102, 6), (103, 0x20000000401)] } 0x15 (wM 0 0)
def wCopyMovesBlocksAlongItsPath8 : State := wScat 1 1
theorem witness_CopyMovesBlocksAlongItsPath_8 : ∃ (c : Fin 4) (m : Micro) (s : State), (let x := (getCtx s c); let a := ((greg x
    m.ra).toNat + 2 * x.desc); seqReady s c 0x15 m ∧ (greg x m.rc).toNat ≤ x.desc) := ⟨1, wM 0 0, wCopyMovesBlocksAlongItsPath8,
    by unfold seqReady; decide +kernel⟩
def wCopyMovesBlocksAlongItsPath8b : State := wScat 2 1
theorem witness_CopyMovesBlocksAlongItsPath_8b : ∃ (c : Fin 4) (m : Micro) (s : State), (let x := (getCtx s c); let a := ((greg x
    m.ra).toNat + 2 * x.desc); seqReady s c 0x15 m ∧ x.desc < (greg x m.rc).toNat ∧ a + 1 ≤ 2047 ∧ (sget 0 x.scratch a).toNat = 6 ∧
    (sget 0 x.scratch (a + 1)).toNat = 0x20000000401 ∧ 6 + lineCount 1 ≤ installedLines s ∧ 0x200 + lineCount 1 ≤ installedLines s ∧
    ReadsQuietly s 6 (lineCount 1)) := ⟨1, wM 0 0, wCopyMovesBlocksAlongItsPath8b,
    by unfold seqReady ReadsQuietly LogsOnly; and_intros <;> decide +kernel⟩
def wCopyMovesBlocksAlongItsPath8c : State := wSeqOn wWork 1 { wCtx 2047 0 2 with desc := 0 } 0x15 (wM 0 0)
theorem witness_CopyMovesBlocksAlongItsPath_8c : ∃ (c : Fin 4) (m : Micro) (s : State), (let x := (getCtx s c); let a := ((greg x
    m.ra).toNat + 2 * x.desc); seqReady s c 0x15 m ∧ x.desc < (greg x m.rc).toNat ∧ 2047 < a + 1) := ⟨1, wM 0 0,
    wCopyMovesBlocksAlongItsPath8c, by unfold seqReady; decide +kernel⟩
def wImageWordsReportTheirStatus1 : State := wSeq 0x16 (wM 0 0)
theorem witness_ImageWordsReportTheirStatus_1 : ∃ (c : Fin 4) (m : Micro) (s : State), (let u := ((greg (getCtx s c) m.ra).toNat);
    seqReady s c 0x16 m ∧ 256 * u < installedLines s ∧ ReadsQuietly s (256 * u) 256 ∧ unitPoison s u = []) := ⟨1, wM 0 0,
    wImageWordsReportTheirStatus1, by unfold seqReady ReadsQuietly LogsOnly; and_intros <;> decide +kernel⟩
def wImageWordsReportTheirStatus1b : State := { wSeq 0x16 (wM 0 0) with dram := { DramSt.reset with poison := [1283] } }
theorem witness_ImageWordsReportTheirStatus_1b : ∃ (c : Fin 4) (m : Micro) (s : State), (let u := ((greg (getCtx s c) m.ra).toNat);
    seqReady s c 0x16 m ∧ 256 * u < installedLines s ∧ ReadsQuietly s (256 * u) 256 ∧ unitPoison s u ≠ []) := ⟨1, wM 0 0,
    wImageWordsReportTheirStatus1b, by unfold seqReady ReadsQuietly LogsOnly; and_intros <;> decide +kernel⟩
def wImageWordsReportTheirStatus2 : State := wSeq 0x17 (wM 0 0)
theorem witness_ImageWordsReportTheirStatus_2 : ∃ (c : Fin 4) (m : Micro) (s : State), (let u := ((greg (getCtx s c) m.ra).toNat);
    seqReady s c 0x17 m ∧ 256 * u < installedLines s ∧ imageWrites s = true ∧ bitAt m.mod.toNat 1 = false) := ⟨1, wM 0 0,
    wImageWordsReportTheirStatus2, by unfold seqReady; decide +kernel⟩
def wImageWordsReportTheirStatus2b : State := wSeq 0x17 (wM 2 0)
theorem witness_ImageWordsReportTheirStatus_2b : ∃ (c : Fin 4) (m : Micro) (s : State), (let u := ((greg (getCtx s c) m.ra).toNat);
    seqReady s c 0x17 m ∧ 256 * u < installedLines s ∧ imageWrites s = true ∧ bitAt m.mod.toNat 1 = true ∧ (newestEntry s u).lost =
    false ∧ LogsOnly s srcLost) := ⟨1, wM 2 0, wImageWordsReportTheirStatus2b, by unfold seqReady LogsOnly; decide +kernel⟩
def wImageWordsReportTheirStatus2c : State := withFlds (wSeq 0x17 (wM 28 0)) [(IMG_STAT_READY, 0)]
theorem witness_ImageWordsReportTheirStatus_2c : ∃ (c : Fin 4) (m : Micro) (s : State), (let u := ((greg (getCtx s c) m.ra).toNat);
    seqReady s c 0x17 m ∧ 256 * u < installedLines s ∧ imageWrites s = false) := ⟨1, wM 28 0, wImageWordsReportTheirStatus2c,
    by unfold seqReady; decide +kernel⟩
def wImageWordsReportTheirStatus2d : State := wSeq 0x17 (wM 28 0)
theorem witness_ImageWordsReportTheirStatus_2d : ∃ (c : Fin 4) (m : Micro) (s : State), (let u := ((greg (getCtx s c) m.ra).toNat);
    seqReady s c 0x17 m ∧ 256 * u < installedLines s ∧ imageWrites s = true ∧ bitAt m.mod.toNat 1 = false) := ⟨1, wM 28 0,
    wImageWordsReportTheirStatus2d, by unfold seqReady; decide +kernel⟩
def wImageWordsReportTheirStatus3 : State := wSeq 0x18 (wM 62 0)
theorem witness_ImageWordsReportTheirStatus_3 : ∃ (c : Fin 4) (m : Micro) (s : State), seqReady s c 0x18 m ∧ (imageWrites s = true ∧
    LogsOnly s (srcImg 2) ∧ fldAt s FLT_ESC_A_N (srcImg 2) = 0 ∧ (∀ n : Fin 32, flag s ((DRC_SUB_OFFLINE.inst (n.val / 8)).nth
    (n.val % 8)) = false)) := ⟨1, wM 62 0, wImageWordsReportTheirStatus3, by unfold seqReady LogsOnly; decide +kernel⟩
def wImageWordsReportTheirStatus3b : State := withFlds (wSeq 0x18 (wM 2 0)) [(IMG_STAT_READY, 0)]
theorem witness_ImageWordsReportTheirStatus_3b : ∃ (c : Fin 4) (m : Micro) (s : State), seqReady s c 0x18 m ∧ imageWrites s = false
    := ⟨1, wM 2 0, wImageWordsReportTheirStatus3b, by unfold seqReady; decide +kernel⟩
def wImageWordsReportTheirStatus4 : State := wSeq 0x19 (wM 0 0)
theorem witness_ImageWordsReportTheirStatus_4 : ∃ (c : Fin 4) (m : Micro) (s : State), seqReady s c 0x19 m ∧ chFailed s (fld s
    IMG_ANCHOR_CH1) = false ∧ chFailed s (fld s IMG_ANCHOR_CH2) = false ∧ fld s IMG_ANCHOR_CH1 ≠ fld s IMG_ANCHOR_CH2 ∧ flag s
    IMG_STAT_READY = true ∧ (let z := bitsOf m.mod.toNat 2 1; z = 0) := ⟨1, wM 0 0, wImageWordsReportTheirStatus4,
    by unfold seqReady; decide +kernel⟩
def wImageWordsReportTheirStatus4b : State := { wSeq 0x19 (wM 2 0) with img := { wWork.img with openStripes := [] } }
theorem witness_ImageWordsReportTheirStatus_4b : ∃ (c : Fin 4) (m : Micro) (s : State), seqReady s c 0x19 m ∧ chFailed s (fld s
    IMG_ANCHOR_CH1) = false ∧ chFailed s (fld s IMG_ANCHOR_CH2) = false ∧ fld s IMG_ANCHOR_CH1 ≠ fld s IMG_ANCHOR_CH2 ∧ flag s
    IMG_STAT_READY = true ∧ (let z := bitsOf m.mod.toNat 2 1; z = 1 ∧ s.img.batch = [] ∧ s.img.openStripes = [] ∧ LogsOnly s (srcImg
    2) ∧ fldAt s FLT_ESC_A_N (srcImg 2) = 0) := ⟨1, wM 2 0, wImageWordsReportTheirStatus4b,
    by unfold seqReady LogsOnly; decide +kernel⟩
def wImageWordsReportTheirStatus4c : State := wSeq 0x19 (wM 2 0)
theorem witness_ImageWordsReportTheirStatus_4c : ∃ (c : Fin 4) (m : Micro) (s : State), seqReady s c 0x19 m ∧ chFailed s (fld s
    IMG_ANCHOR_CH1) = false ∧ chFailed s (fld s IMG_ANCHOR_CH2) = false ∧ fld s IMG_ANCHOR_CH1 ≠ fld s IMG_ANCHOR_CH2 ∧ flag s
    IMG_STAT_READY = true ∧ (let z := bitsOf m.mod.toNat 2 1; z = 1 ∧ s.img.openStripes ≠ []) := ⟨1, wM 2 0,
    wImageWordsReportTheirStatus4c, by unfold seqReady; decide +kernel⟩
def wImageWordsReportTheirStatus4d : State := wSeq 0x19 (wM 4 0)
theorem witness_ImageWordsReportTheirStatus_4d : ∃ (c : Fin 4) (m : Micro) (s : State), seqReady s c 0x19 m ∧ chFailed s (fld s
    IMG_ANCHOR_CH1) = false ∧ chFailed s (fld s IMG_ANCHOR_CH2) = false ∧ fld s IMG_ANCHOR_CH1 ≠ fld s IMG_ANCHOR_CH2 ∧ flag s
    IMG_STAT_READY = true ∧ (let z := bitsOf m.mod.toNat 2 1; z = 2) := ⟨1, wM 4 0, wImageWordsReportTheirStatus4d,
    by unfold seqReady; decide +kernel⟩
def wImageWordsReportTheirStatus5 : State := withFlds (wSeq 0x19 (wM 0 0)) [(IMG_STAT_READY, 0)]
theorem witness_ImageWordsReportTheirStatus_5 : ∃ (c : Fin 4) (m : Micro) (s : State), seqReady s c 0x19 m ∧ flag s IMG_STAT_READY =
    false ∧ (let z := bitsOf m.mod.toNat 2 1; z = 0) := ⟨1, wM 0 0, wImageWordsReportTheirStatus5,
    by unfold seqReady; decide +kernel⟩
def wImageWordsReportTheirStatus5b : State := withFlds (wSeq 0x19 (wM 2 0)) [(IMG_STAT_READY, 0)]
theorem witness_ImageWordsReportTheirStatus_5b : ∃ (c : Fin 4) (m : Micro) (s : State), seqReady s c 0x19 m ∧ flag s IMG_STAT_READY
    = false ∧ (let z := bitsOf m.mod.toNat 2 1; z = 1) := ⟨1, wM 2 0, wImageWordsReportTheirStatus5b,
    by unfold seqReady; decide +kernel⟩
def wImageWordsReportTheirStatus5c : State := withFlds (wSeq 0x19 (wM 4 0)) [(IMG_STAT_READY, 0)]
theorem witness_ImageWordsReportTheirStatus_5c : ∃ (c : Fin 4) (m : Micro) (s : State), seqReady s c 0x19 m ∧ flag s IMG_STAT_READY
    = false ∧ (let z := bitsOf m.mod.toNat 2 1; z = 2) := ⟨1, wM 4 0, wImageWordsReportTheirStatus5c,
    by unfold seqReady; decide +kernel⟩
def wImageWordsReportTheirStatus6 : State := wSeq 0x1A (wM 0 0)
theorem witness_ImageWordsReportTheirStatus_6 : ∃ (c : Fin 4) (m : Micro) (s : State), seqReady s c 0x1A m ∧ (imageWrites s = true ∧
    s.img.closing = none ∧ (getCtx s c).routine ≠ 0) := ⟨1, wM 0 0, wImageWordsReportTheirStatus6,
    by unfold seqReady; decide +kernel⟩
def wDump_7 (fz : Bool) : State := { wSeqOn { wWork with vault := .dump } 1 { wCtx 0 0 0 with routine := 0 } 0x1A (wM 0 0) with dram := { DramSt.reset with frozen := fz } }
def wImageWordsReportTheirStatus6b : State := wDump_7 true
theorem witness_ImageWordsReportTheirStatus_6b : ∃ (c : Fin 4) (m : Micro) (s : State), seqReady s c 0x1A m ∧ (imageWrites s = true
    ∧ s.img.closing = none ∧ (getCtx s c).routine = 0 ∧ s.dram.frozen = true) := ⟨1, wM 0 0, wImageWordsReportTheirStatus6b,
    by unfold seqReady; decide +kernel⟩
def wImageWordsReportTheirStatus6c : State := wDump_7 false
theorem witness_ImageWordsReportTheirStatus_6c : ∃ (c : Fin 4) (m : Micro) (s : State), seqReady s c 0x1A m ∧ (imageWrites s = true
    ∧ s.img.closing = none ∧ (getCtx s c).routine = 0 ∧ s.dram.frozen = false) := ⟨1, wM 0 0, wImageWordsReportTheirStatus6c,
    by unfold seqReady; decide +kernel⟩
def wImageWordsReportTheirStatus6d : State :=
  { wSeq 0x1A (wM 0 0) with img := { wWork.img with closing := some ⟨5, false, [], GenDir.none_, [], 0, 0, 0⟩ } }
theorem witness_ImageWordsReportTheirStatus_6d : ∃ (c : Fin 4) (m : Micro) (s : State), seqReady s c 0x1A m ∧ s.img.closing.isSome =
    true := ⟨1, wM 0 0, wImageWordsReportTheirStatus6d, by unfold seqReady; decide +kernel⟩
def wImageWordsReportTheirStatus7 : State := wSeq 0x1B (wM 0 0)
theorem witness_ImageWordsReportTheirStatus_7 : ∃ (c : Fin 4) (m : Micro) (s : State), seqReady s c 0x1B m ∧ (greg (getCtx s c)
    m.rc).toNat + 1 ≤ 2047 ∧ (psgUp s = true ∧ bitsOf m.mod.toNat 4 1 ≠ 4) := ⟨1, wM 0 0, wImageWordsReportTheirStatus7,
    by unfold seqReady; decide +kernel⟩
def wImageWordsReportTheirStatus7b : State := withFlds (wSeq 0x1B (wM 0 0)) [(PSG_STAT_STATE, 3)]
theorem witness_ImageWordsReportTheirStatus_7b : ∃ (c : Fin 4) (m : Micro) (s : State), seqReady s c 0x1B m ∧ (greg (getCtx s c)
    m.rc).toNat + 1 ≤ 2047 ∧ psgUp s = false := ⟨1, wM 0 0, wImageWordsReportTheirStatus7b, by unfold seqReady; decide +kernel⟩
def wImageWordsReportTheirStatus7c : State := wSeq 0x1B (wM 8 0)
theorem witness_ImageWordsReportTheirStatus_7c : ∃ (c : Fin 4) (m : Micro) (s : State), seqReady s c 0x1B m ∧ (greg (getCtx s c)
    m.rc).toNat + 1 ≤ 2047 ∧ (psgUp s = true ∧ bitsOf m.mod.toNat 4 1 = 4 ∧ s.psg.fetchWait = [] ∧ s.adm.flights = []) := ⟨1, wM 8
    0, wImageWordsReportTheirStatus7c, by unfold seqReady; decide +kernel⟩
def wWaitsHooksAndEnds1 : State := wSeqOn wWork 1 { wCtx 5 9 2 with events := [0, 8] } 0x1C (wM 0 0xF0)
theorem witness_WaitsHooksAndEnds_1 : ∃ (c : Fin 4) (m : Micro) (s : State), seqReady s c 0x1C m ∧ (getCtx s c).run = 1 ∧ (∀ e ∈
    (getCtx s c).events, bitAt m.imm.toNat e = false ∨ 16 ≤ e) := ⟨1, wM 0 0xF0, wWaitsHooksAndEnds1,
    by simp only [seqReady]; decide +kernel⟩
def wWaitsHooksAndEnds1b : State := wSeqOn wWork 1 { wCtx 5 9 2 with events := [0, 7] } 0x1C (wM 0 0xF0)
theorem witness_WaitsHooksAndEnds_1b : ∃ (c : Fin 4) (m : Micro) (s : State), seqReady s c 0x1C m ∧ (getCtx s c).run = 1 ∧ (∃ e ∈
    (getCtx s c).events, bitAt m.imm.toNat e = true ∧ e < 16) := ⟨1, wM 0 0xF0, wWaitsHooksAndEnds1b,
    by simp only [seqReady]; decide +kernel⟩
def wWaitsHooksAndEnds2 : State := wSeq 0x1D (wM 0 15)
theorem witness_WaitsHooksAndEnds_2 : ∃ (c : Fin 4) (m : Micro) (s : State), seqReady s c 0x1D m := ⟨1, wM 0 15,
    wWaitsHooksAndEnds2, by unfold seqReady; decide +kernel⟩
def wWaitsHooksAndEnds3 : State := wSeq 0x1E (wM 0 1)
theorem witness_WaitsHooksAndEnds_3 : ∃ (c : Fin 4) (m : Micro) (s : State), seqReady s c 0x1E m ∧ hookRuns s (bitAt m.imm.toNat 0)
    (ctxBank s c) = false := ⟨1, wM 0 1, wWaitsHooksAndEnds3, by unfold seqReady; decide +kernel⟩
def wWaitsHooksAndEnds3b : State := wSeq 0x1E (wM 0 0)
theorem witness_WaitsHooksAndEnds_3b : ∃ (c : Fin 4) (m : Micro) (s : State), seqReady s c 0x1E m ∧ hookRuns s (bitAt m.imm.toNat 0)
    (ctxBank s c) = false := ⟨1, wM 0 0, wWaitsHooksAndEnds3b, by unfold seqReady; decide +kernel⟩
def wHook (i : Word) : State :=
  let s := withFlds (wSeq 0x1E (wM 0 i)) [(SEQ_CUST_H0_EN, 1), (SEQ_CUST_H1_EN, 1)]
  { s with seq := { s.seq with bankA := s.seq.bankA ++ [(0x3000, BitVec.ofNat 128 (2 ^ 32))], dirtied := 6 } }
def wWaitsHooksAndEnds4 : State := wHook 1
theorem witness_WaitsHooksAndEnds_4 : ∃ (c : Fin 4) (m : Micro) (s : State), seqReady s c 0x1E m ∧ hookRuns s (bitAt m.imm.toNat 0)
    (ctxBank s c) = true := ⟨1, wM 0 1, wWaitsHooksAndEnds4, by unfold seqReady; decide +kernel⟩
def wWaitsHooksAndEnds4b : State := wHook 0
theorem witness_WaitsHooksAndEnds_4b : ∃ (c : Fin 4) (m : Micro) (s : State), seqReady s c 0x1E m ∧ hookRuns s (bitAt m.imm.toNat 0)
    (ctxBank s c) = true := ⟨1, wM 0 0, wWaitsHooksAndEnds4b, by unfold seqReady; decide +kernel⟩
def wFrameH (ix : Bool) : HookFrame := { regs := List.replicate 16 5, flags := { Flags.zero with c := true }, stack := [3], pc := 0x41, used := 4, index := ix, fromIdle := false }
def wInHook (ix : Bool) (g0 : Word) : State :=
  wSeqOn wWork 1 { wCtx 5 9 2 with pc := 0x3010, hook := some (wFrameH ix), g := [g0] ++ List.replicate 15 1 } 0x1F (wM 0 0)
def wWaitsHooksAndEnds5 : State := wInHook false 8
theorem witness_WaitsHooksAndEnds_5 : ∃ (c : Fin 4) (m : Micro) (h : HookFrame) (s : State), seqReady s c 0x1F m ∧ (getCtx s c).hook
    = some h ∧ (getCtx s c).irq = none ∧ h.fromIdle = false ∧ (greg (getCtx s c) 0).toNat % 2 = 0 := ⟨1, wM 0 0, wFrameH false,
    wWaitsHooksAndEnds5, by unfold seqReady; decide +kernel⟩
def wWaitsHooksAndEnds5b : State := wInHook true (-1)
theorem witness_WaitsHooksAndEnds_5b : ∃ (c : Fin 4) (m : Micro) (h : HookFrame) (s : State), seqReady s c 0x1F m ∧ (getCtx s
    c).hook = some h ∧ (getCtx s c).irq = none ∧ h.fromIdle = false ∧ installedUnits s ≤ (greg (getCtx s c) 0).toNat := ⟨1, wM 0 0,
    wFrameH true, wWaitsHooksAndEnds5b, by unfold seqReady; decide +kernel⟩
def wWaitsHooksAndEnds5c : State := wInHook false 9
theorem witness_WaitsHooksAndEnds_5c : ∃ (c : Fin 4) (m : Micro) (h : HookFrame) (s : State), seqReady s c 0x1F m ∧ (getCtx s
    c).hook = some h ∧ (getCtx s c).irq = none ∧ h.fromIdle = false ∧ ((greg (getCtx s c) 0).toNat % 2 = 1 ∧ watched s = true ∧
    ckptRuns s = false ∧ ckMinPassed s = true) := ⟨1, wM 0 0, wFrameH false, wWaitsHooksAndEnds5c,
    by unfold seqReady; decide +kernel⟩
def wWaitsHooksAndEnds5d : State := { wInHook true 8 with vault := .restore }
theorem witness_WaitsHooksAndEnds_5d : ∃ (c : Fin 4) (m : Micro) (h : HookFrame) (s : State), seqReady s c 0x1F m ∧ (getCtx s
    c).hook = some h ∧ (getCtx s c).irq = none ∧ h.fromIdle = false ∧ ((greg (getCtx s c) 0).toNat < installedUnits s ∧ unitReady s
    (greg (getCtx s c) 0).toNat = false ∧ s.pwr.demand.length < 4096) := ⟨1, wM 0 0, wFrameH true, wWaitsHooksAndEnds5d,
    by unfold seqReady; decide +kernel⟩
def wIrq : IrqFrame := { pc := 0x55, flags := { Flags.zero with z := true }, blocks := 3, desc := 2, high := [1, 2, 3, 4] }
def wWaitsHooksAndEnds6 : State := wSeqOn wWork 1 { wCtx 5 9 2 with run := 3, irq := some wIrq } 0x20 (wM 0 0)
theorem witness_WaitsHooksAndEnds_6 : ∃ (c : Fin 4) (m : Micro) (h : IrqFrame) (s : State), seqReady s c 0x20 m ∧ (getCtx s c).irq =
    some h ∧ (getCtx s c).stopReq = false ∧ (getCtx s c).events = [] := ⟨1, wM 0 0, wIrq, wWaitsHooksAndEnds6,
    by unfold seqReady; decide +kernel⟩
def wWaitsHooksAndEnds7 : State := wSeq 0x1F (wM 0 0)
theorem witness_WaitsHooksAndEnds_7 : ∃ (c : Fin 4) (m : Micro) (s : State), (seqReady s c 0x1F m ∧ (getCtx s c).hook = none) := ⟨1,
    wM 0 0, wWaitsHooksAndEnds7, by unfold seqReady; decide +kernel⟩
def wWaitsHooksAndEnds7b : State := wSeq 0x20 (wM 0 0)
theorem witness_WaitsHooksAndEnds_7b : ∃ (c : Fin 4) (m : Micro) (s : State), (seqReady s c 0x20 m ∧ (getCtx s c).irq = none) := ⟨1,
    wM 0 0, wWaitsHooksAndEnds7b, by unfold seqReady; decide +kernel⟩
def wWaitsHooksAndEnds8 : State := wSeq 0x21 (wM 0 0x107)
theorem witness_WaitsHooksAndEnds_8 : ∃ (c : Fin 4) (m : Micro) (s : State), seqReady s c 0x21 m ∧ (getCtx s c).run ≠ 5 ∧ (getCtx s
    c).routine ≠ 9 ∧ ((getCtx s c).routine = 0 → m.imm.toNat % 256 ≠ 2) := ⟨1, wM 0 0x107, wWaitsHooksAndEnds8,
    by unfold seqReady; decide +kernel⟩
def wWaitsHooksAndEnds8b : State := wSeqOn wWork 0 { wCtx 5 9 2 with routine := 1 } 0x21 (wM 0 1)
theorem witness_WaitsHooksAndEnds_8b : ∃ (c : Fin 4) (m : Micro) (s : State), seqReady s c 0x21 m ∧ (getCtx s c).run ≠ 5 ∧ (getCtx s
    c).routine ≠ 9 ∧ ((getCtx s c).routine = 0 → m.imm.toNat % 256 ≠ 2) := ⟨0, wM 0 1, wWaitsHooksAndEnds8b,
    by unfold seqReady; decide +kernel⟩
def wFar : CtxSt := wCtx (-1) 0 1
def wLinesBeyondTheInstalledStop1 : State := wSeqOn wWork 1 wFar 0x0F (wM 0 0)
theorem witness_LinesBeyondTheInstalledStop_1 : ∃ (c : Fin 4) (m : Micro) (s : State), (let l := ((greg (getCtx s c) m.ra).toNat);
    seqReady s c 0x0F m ∧ inCust (getCtx s c) = false ∧ installedLines s ≤ l) := ⟨1, wM 0 0, wLinesBeyondTheInstalledStop1,
    by unfold seqReady; decide +kernel⟩
def wLinesBeyondTheInstalledStop2 : State := wSeqOn wWork 1 wFar 0x16 (wM 0 0)
theorem witness_LinesBeyondTheInstalledStop_2 : ∃ (c : Fin 4) (m : Micro) (s : State), (let l := (256 * (greg (getCtx s c)
    m.ra).toNat); installedLines s ≤ l ∧ seqReady s c 0x16 m) := ⟨1, wM 0 0, wLinesBeyondTheInstalledStop2,
    by unfold seqReady; decide +kernel⟩
def wLinesBeyondTheInstalledStop2b : State := wSeqOn wWork 1 wFar 0x17 (wM 0 0)
theorem witness_LinesBeyondTheInstalledStop_2b : ∃ (c : Fin 4) (m : Micro) (s : State), (let l := (256 * (greg (getCtx s c)
    m.ra).toNat); installedLines s ≤ l ∧ seqReady s c 0x17 m) := ⟨1, wM 0 0, wLinesBeyondTheInstalledStop2b,
    by unfold seqReady; decide +kernel⟩
def wLinesBeyondTheInstalledStop3 : State := wSeqOn wWork 1 wFar 0x14 (wM 2 0)
theorem witness_LinesBeyondTheInstalledStop_3 : ∃ (c : Fin 4) (m : Micro) (i : Instr) (s : State), (let x := (getCtx s c); let n :=
    ((greg x m.rc).toNat); let l := (256 * ((greg x m.ra).toNat + x.blocks / 4)); (0x14, true, i) ∈ pathRows c m ∧ copyPath m ∈ [0,
    1, 4] ∧ seqReady s c 0x14 m ∧ 1 ≤ n ∧ n ≤ 4096 ∧ installedLines s ≤ l) := ⟨1, wM 2 0, .copyImageToDram 1 (wM 2 0),
    wLinesBeyondTheInstalledStop3,
    by simp only [pathRows]; refine ⟨?_, ?_, ?_, ?_⟩; (simp; decide); decide; (unfold seqReady; decide +kernel); decide +kernel⟩
def wLinesBeyondTheInstalledStop4 : State := wSeqOn wWork 1 wFar 0x14 (wM 6 0)
theorem witness_LinesBeyondTheInstalledStop_4 : ∃ (c : Fin 4) (m : Micro) (i : Instr) (s : State), (let x := (getCtx s c); let n :=
    ((greg x m.rc).toNat); let l := ((greg x m.ra).toNat + 64 * x.blocks); (0x14, true, i) ∈ pathRows c m ∧ copyPath m ∈ [2, 3] ∧
    seqReady s c 0x14 m ∧ 1 ≤ n ∧ n ≤ 4096 ∧ installedLines s < l + 64) := ⟨1, wM 6 0, .copyDramToDram 1 (wM 6 0),
    wLinesBeyondTheInstalledStop4,
    by simp only [pathRows]; refine ⟨?_, ?_, ?_, ?_⟩; (simp; decide); decide; (unfold seqReady; decide +kernel); decide +kernel⟩
def wFarLog : State :=
  let s := setWindow wServe 0 (BitVec.ofNat 64 (63 * 2 ^ 53 + 2 ^ 52 + 0x100)) (BitVec.ofNat 64 (2 ^ 63 + 0x1FF)) (BitVec.ofNat 64 (2 ^ 32 - 2 ^ 9)) 0
  { s with pwr := { PowerSt.reset with log := [⟨BitVec.ofNat 128 (8 + 0x105 * 2 ^ 47 + 2 ^ 83), 7, 0⟩] } }
theorem witness_LinesBeyondTheInstalledStop_5 : ∃ (q : Requester) (e : LogEntry) (l : Nat) (s : State), canWrite s q 0x30 = true ∧
    serving s = true ∧ flag s IMG_RLOG_IDX_BUSY = false ∧ s.pwr.log[indexOf s q IMG_RLOG_IDX_INDEX]? = some e ∧ loggedLine s e =
    some l ∧ installedLines s < l + lineCount (BitVec.ofNat 6 (bitsOf e.hdr.toNat 88 83)) := ⟨.core, ⟨BitVec.ofNat 128 (8 + 0x105 *
    2 ^ 47 + 2 ^ 83), 7, 0⟩, 2 ^ 32 - 2 ^ 9 + 5, wFarLog, by decide +kernel⟩
def wPend (c : Fin 4) (l : List Nat) (x : CtxSt) : State := setCtx wWork c { x with pend := l }
def wRoutinesAndEventsOfContexts1 : State := wPend 1 [4, 5] CtxSt.idle
theorem witness_RoutinesAndEventsOfContexts_1 : ∃ (c : Fin 4) (r : Nat) (s : State), seqOn s = true ∧ accepts s 0x80 = true ∧
    (getCtx s c).run = 0 ∧ nextStart s c = some r ∧ r ≠ 9 ∧ (r = 0 → c = 0) := ⟨1, 4, wRoutinesAndEventsOfContexts1,
    by decide +kernel⟩
def wRoutinesAndEventsOfContexts1b : State := wPend 3 [17] CtxSt.idle
theorem witness_RoutinesAndEventsOfContexts_1b : ∃ (c : Fin 4) (r : Nat) (s : State), seqOn s = true ∧ accepts s 0x80 = true ∧
    (getCtx s c).run = 0 ∧ nextStart s c = some r ∧ r ≠ 9 ∧ (r = 0 → c = 0) := ⟨3, 17, wRoutinesAndEventsOfContexts1b,
    by decide +kernel⟩
def wRoutinesAndEventsOfContexts1c : State := { wPend 0 [1, 2] CtxSt.idle with vault := .ride }
theorem witness_RoutinesAndEventsOfContexts_1c : ∃ (c : Fin 4) (r : Nat) (s : State), seqOn s = true ∧ accepts s 0x80 = true ∧
    (getCtx s c).run = 0 ∧ nextStart s c = some r ∧ r ≠ 9 ∧ (r = 0 → c = 0) := ⟨0, 1, wRoutinesAndEventsOfContexts1c,
    by decide +kernel⟩
def wRoutinesAndEventsOfContexts2 : State := wPend 1 [0, 1, 3] CtxSt.idle
theorem witness_RoutinesAndEventsOfContexts_2 : ∃ (c : Fin 4) (s : State), nextStart s c = none := ⟨1,
    wRoutinesAndEventsOfContexts2, by decide +kernel⟩
def wRoutinesAndEventsOfContexts3 : State := wPend 0 [2] { wCtx 0 0 0 with routine := 1 }
theorem witness_RoutinesAndEventsOfContexts_3 : ∃ (c : Fin 4) (r : Nat) (s : State), (getCtx s c).run ≠ 0 ∧ nextStart s c = some r ∧
    preemptible (getCtx s c).routine.toNat = false := ⟨0, 2, wRoutinesAndEventsOfContexts3, by decide +kernel⟩
def wRoutinesAndEventsOfContexts4 : State := wPend 1 [2] { wCtx 0 0 0 with routine := 4, run := 2 }
theorem witness_RoutinesAndEventsOfContexts_4 : ∃ (c : Fin 4) (r : Nat) (s : State), seqOn s = true ∧ accepts s 0x80 = true ∧
    (getCtx s c).run ≠ 0 ∧ atYield (getCtx s c) = true ∧ (getCtx s c).hook = none ∧ nextStart s c = some r ∧ r ≠ 9 ∧ preemptible
    (getCtx s c).routine.toNat = true ∧ preemptible r = false := ⟨1, 2, wRoutinesAndEventsOfContexts4, by decide +kernel⟩
def wRoutinesAndEventsOfContexts4b : State := wPend 3 [10] { wCtx 0 0 0 with routine := 16, run := 4, events := [6] }
theorem witness_RoutinesAndEventsOfContexts_4b : ∃ (c : Fin 4) (r : Nat) (s : State), seqOn s = true ∧ accepts s 0x80 = true ∧
    (getCtx s c).run ≠ 0 ∧ atYield (getCtx s c) = true ∧ (getCtx s c).hook = none ∧ nextStart s c = some r ∧ r ≠ 9 ∧ preemptible
    (getCtx s c).routine.toNat = true ∧ preemptible r = false := ⟨3, 10, wRoutinesAndEventsOfContexts4b, by decide +kernel⟩
def wRoutinesAndEventsOfContexts5 : State := setCtx wWork 0 { wCtx 0 0 0 with events := [evDump], blocks := 4 }
theorem witness_RoutinesAndEventsOfContexts_5 : ∃ (s : State), seqOn s = true ∧ evDump ∈ (getCtx s 0).events ∧ (getCtx s 0).run = 0
    ∨ atUnit (getCtx s 0) = true ∧ (getCtx s 0).run ≠ 0 := ⟨wRoutinesAndEventsOfContexts5, by decide +kernel⟩
def wRoutinesAndEventsOfContexts5b : State := setCtx wWork 0 { CtxSt.idle with events := [evDump] }
theorem witness_RoutinesAndEventsOfContexts_5b : ∃ (s : State), seqOn s = true ∧ evDump ∈ (getCtx s 0).events ∧ (getCtx s 0).run = 0
    ∨ atUnit (getCtx s 0) = true := ⟨wRoutinesAndEventsOfContexts5b, by decide +kernel⟩
def wRoutinesAndEventsOfContexts6 : State := setCtx wWork 0 { wCtx 0 0 0 with events := [0, 1, 2, 3], blocks := 3 }
theorem witness_RoutinesAndEventsOfContexts_6 : ∃ (s : State), (getCtx s 0).run ≠ 0 ∧ atUnit (getCtx s 0) = false :=
    ⟨wRoutinesAndEventsOfContexts6, by decide +kernel⟩
def wRoutinesAndEventsOfContexts7 : State := setCtx wWork 0 { wCtx 0 0 0 with routine := 1, events := [evReturn] }
theorem witness_RoutinesAndEventsOfContexts_7 : ∃ (s : State), seqOn s = true ∧ evReturn ∈ (getCtx s 0).events ∧ ((getCtx s 0).run ≠
    0 ∧ atUnit (getCtx s 0) = true ∧ (getCtx s 0).routine = 1) := ⟨wRoutinesAndEventsOfContexts7, by decide +kernel⟩
def wRoutinesAndEventsOfContexts7b : State := setCtx wWork 0 { CtxSt.idle with pend := [1], events := [evReturn] }
theorem witness_RoutinesAndEventsOfContexts_7b : ∃ (s : State), seqOn s = true ∧ evReturn ∈ (getCtx s 0).events ∧ (getCtx s 0).run =
    0 := ⟨wRoutinesAndEventsOfContexts7b, by decide +kernel⟩
def wRoutinesAndEventsOfContexts8 : State := setCtx wWork 0 { wCtx 0 0 0 with events := [evLoss], blocks := 4 }
theorem witness_RoutinesAndEventsOfContexts_8 : ∃ (s : State), seqOn s = true ∧ evLoss ∈ (getCtx s 0).events ∧ (getCtx s 0).run ≠ 0
    ∧ atUnit (getCtx s 0) = true ∧ (getCtx s 0).routine = 2 := ⟨wRoutinesAndEventsOfContexts8, by decide +kernel⟩
def wRoutinesAndEventsOfContexts9 : State := setCtx wWork 0 { wCtx 0 0 0 with routine := 0, events := [evAbort] }
theorem witness_RoutinesAndEventsOfContexts_9 : ∃ (s : State), seqOn s = true ∧ evAbort ∈ (getCtx s 0).events ∧ (getCtx s 0).run ≠ 0
    ∧ atUnit (getCtx s 0) = true ∧ (getCtx s 0).routine = 0 := ⟨wRoutinesAndEventsOfContexts9, by decide +kernel⟩
def wRoutinesAndEventsOfContexts10 : State := setCtx wWork 2 { wCtx 0 0 0 with routine := 7, events := [evPause], run := 2 }
theorem witness_RoutinesAndEventsOfContexts_10 : ∃ (c : Fin 4) (s : State), seqOn s = true ∧ evPause ∈ (getCtx s c).events ∧ (c = 2
    → (getCtx s c).routine = 7) ∧ (getCtx s c).run = 1 ∨ (getCtx s c).run = 2 ∧ (getCtx s c).hook = none := ⟨2,
    wRoutinesAndEventsOfContexts10, by decide +kernel⟩
def wRoutinesAndEventsOfContexts11 : State := setCtx wWork 1 { wCtx 0 0 0 with run := 4, events := [evResume] }
theorem witness_RoutinesAndEventsOfContexts_11 : ∃ (c : Fin 4) (s : State), seqOn s = true ∧ evResume ∈ (getCtx s c).events ∧
    (getCtx s c).run = 4 ∧ (∀ e ∈ (getCtx s c).events, e < evTick) := ⟨1, wRoutinesAndEventsOfContexts11, by decide +kernel⟩
def wRoutinesAndEventsOfContexts12 : State := setCtx wWork 2 { wCtx 0 0 0 with routine := 6, run := 4, events := [evLeave] }
theorem witness_RoutinesAndEventsOfContexts_12 : ∃ (c : Fin 4) (s : State), seqOn s = true ∧ evLeave ∈ (getCtx s c).events ∧ (getCtx
    s c).run ≠ 0 ∧ atYield (getCtx s c) = true ∧ (getCtx s c).hook = none ∧ ((getCtx s c).routine = 8 → serving s = false) := ⟨2,
    wRoutinesAndEventsOfContexts12, by decide +kernel⟩
def wRoutinesAndEventsOfContexts13 : State := setCtx wWork 2 (wCtx 1 2 3)
theorem witness_RoutinesAndEventsOfContexts_13 : ∃ (c : Fin 4) (s : State), seqOn s = true ∧ ((getCtx s c).run = 1 ∧ psgUp s = true)
    := ⟨2, wRoutinesAndEventsOfContexts13, by decide +kernel⟩
theorem witness_RoutinesAndEventsOfContexts_13b : ∃ (c : Fin 4) (s : State), seqOn s = true ∧ (getCtx s c).run = 0 := ⟨2, wWork,
    by decide +kernel⟩
def wRoutinesAndEventsOfContexts13c : State := setCtx wWork 1 { wCtx 1 2 3 with run := 5 }
theorem witness_RoutinesAndEventsOfContexts_13c : ∃ (c : Fin 4) (s : State), seqOn s = true ∧ (getCtx s c).run = 5 := ⟨1,
    wRoutinesAndEventsOfContexts13c, by decide +kernel⟩
def wRoutinesAndEventsOfContexts13d : State := setCtx wWork 1 (wCtx 1 2 3)
theorem witness_RoutinesAndEventsOfContexts_13d : ∃ (c : Fin 4) (s : State), seqOn s = true ∧ ((getCtx s c).run = 1 ∧ canWrite s
    .core 0x80 = true) := ⟨1, wRoutinesAndEventsOfContexts13d, by decide +kernel⟩
def wFlt (r : Nat) : State :=
  let s := withFlds (setCtx wWork 1 { wCtx 1 2 3 with stack := [9], blocks := 2 }) [(ctxF 1 SEQ_CTX_RESTARTS, r), (SEQ_LIMITS_RESTART_MAX, 3), (FLT_CLASS_SRC 0x80 1, 1), (FLT_CLASS_SRC 0x80 3, 1), (FLT_CLASS_SRC 0x80 4, 1), (FLT_CLASS_SRC 0x80 5, 1)]
  { s with img := { s.img with openStripes := [{ wOpenStripe with filled := 2, units := [7, 8] }, { wOpenStripe with stripe := 1073741824 + 413696, ctx := 2, units := [9] }] } }
def wSequencerFaultsRestartTheirRoutine1 : State := wFlt 2
theorem witness_SequencerFaultsRestartTheirRoutine_1 : ∃ (c : Fin 4) (s : State), seqOn s = true ∧ (getCtx s c).run = 1 ∧ (getCtx s
    c).commitAt = none ∧ (getCtx s c).hook = none ∧ (getCtx s c).routine.toNat < 16 ∧ (fld s (ctxF c SEQ_CTX_RESTARTS) < fld s
    SEQ_LIMITS_RESTART_MAX ∧ LogsOnly s (srcSeq 1)) := ⟨1, wSequencerFaultsRestartTheirRoutine1, by unfold LogsOnly; decide +kernel⟩
def wSequencerFaultsRestartTheirRoutine1b : State := wFlt 1
theorem witness_SequencerFaultsRestartTheirRoutine_1b : ∃ (c : Fin 4) (s : State), seqOn s = true ∧ (getCtx s c).run = 1 ∧ (getCtx s
    c).commitAt = none ∧ (getCtx s c).hook = none ∧ (getCtx s c).routine.toNat < 16 ∧ (fld s (ctxF c SEQ_CTX_RESTARTS) < fld s
    SEQ_LIMITS_RESTART_MAX ∧ LogsOnly s (srcSeq 4)) := ⟨1, wSequencerFaultsRestartTheirRoutine1b,
    by unfold LogsOnly; decide +kernel⟩
def wSequencerFaultsRestartTheirRoutine1c : State := wFlt 0
theorem witness_SequencerFaultsRestartTheirRoutine_1c : ∃ (c : Fin 4) (s : State), seqOn s = true ∧ (getCtx s c).run = 1 ∧ (getCtx s
    c).commitAt = none ∧ (getCtx s c).hook = none ∧ (getCtx s c).routine.toNat < 16 ∧ (fld s (ctxF c SEQ_CTX_RESTARTS) < fld s
    SEQ_LIMITS_RESTART_MAX ∧ LogsOnly s (srcSeq 3)) := ⟨1, wSequencerFaultsRestartTheirRoutine1c,
    by unfold LogsOnly; decide +kernel⟩
def wSequencerFaultsRestartTheirRoutine1d : State := wFlt 3
theorem witness_SequencerFaultsRestartTheirRoutine_1d : ∃ (c : Fin 4) (s : State), seqOn s = true ∧ (getCtx s c).run = 1 ∧ (getCtx s
    c).commitAt = none ∧ (getCtx s c).hook = none ∧ (getCtx s c).routine.toNat < 16 ∧ (fld s SEQ_LIMITS_RESTART_MAX ≤ fld s (ctxF c
    SEQ_CTX_RESTARTS) ∧ LogsOnly s (srcSeq 4)) := ⟨1, wSequencerFaultsRestartTheirRoutine1d, by unfold LogsOnly; decide +kernel⟩
def wSequencerFaultsRestartTheirRoutine2 : State := wFlt 0
theorem witness_SequencerFaultsRestartTheirRoutine_2 : ∃ (c : Fin 4) (s : State), seqOn s = true ∧ (getCtx s c).run ≠ 0 ∧ inCust
    (getCtx s c) = false := ⟨1, wSequencerFaultsRestartTheirRoutine2, by decide +kernel⟩
def wSequencerFaultsRestartTheirRoutine3 : State :=
  setCtx (wFlt 0) 1 { wCtx 1 2 3 with run := 5, commitAt := some (List.replicate 16 6, 0x77) }
theorem witness_SequencerFaultsRestartTheirRoutine_3 : ∃ (c : Fin 4) (g : List Word) (pc : BitVec 14) (s : State), seqOn s = true ∧
    (getCtx s c).run = 5 ∧ (getCtx s c).commitAt = some (g, pc) ∧ (getCtx s c).hook = none ∧ (getCtx s c).routine.toNat < 16 ∧
    LogsOnly s (srcSeq 5) ∧ fld s (ctxF c SEQ_CTX_RESTARTS) < fld s SEQ_LIMITS_RESTART_MAX := ⟨1, List.replicate 16 6, 0x77,
    wSequencerFaultsRestartTheirRoutine3, by unfold LogsOnly; decide +kernel⟩
def wSequencerFaultsRestartTheirRoutine4 : State := wFlt 0
theorem witness_SequencerFaultsRestartTheirRoutine_4 : ∃ (c : Fin 4) (s : State), (getCtx s c).run ≠ 5 := ⟨1,
    wSequencerFaultsRestartTheirRoutine4, by decide +kernel⟩
theorem witness_SequencerFaultsRestartTheirRoutine_5 : ∃ (c : Fin 4) (s : State), (getCtx s c).run = 0 ∨ (getCtx s c).run = 2 ∨
    (getCtx s c).run = 4 := ⟨1, wWork, by decide +kernel⟩
theorem bankWord_setBankWord_same (s : State) (b a : Nat) (w : BitVec 128) : bankWord (setBankWord s b a w) b a = w := by
  unfold bankWord setBankWord; split <;> simp
theorem bankWord_setBankWord_other (s : State) (b a x : Nat) (w : BitVec 128) (h : x ≠ a) :
    bankWord (setBankWord s b a w) b x = bankWord s b x := by
  unfold bankWord setBankWord; split <;> simp [sget_sset_other, h]
theorem setBankWord_regs (s : State) (b a : Nat) (w : BitVec 128) : (setBankWord s b a w).regs = s.regs := by
  unfold setBankWord; split <;> rfl
/-- Bank b of s with the CRC of its image in place. -/
def wSealed (s : State) (b : Nat) : State := setBankWord s b 1 (BitVec.ofNat 128 (wholeCrc s b))
theorem sealed_passes (s : State) (b : Nat) (hm : bitsOf (bankWord s b 0).toNat 63 32 = 0x53444731)
    (ha : bitsOf (bankWord s b 0).toNat 31 16 = fld s SEQ_STAT_HW_ABI) (hc : custEmpty s b = true) :
    bankPasses (wSealed s b) b = true := by
  have h0 : ∀ x, x ≠ 1 → bankWord (wSealed s b) b x = bankWord s b x := fun x h => bankWord_setBankWord_other s b 1 x _ h
  have hw : wholeCrc (wSealed s b) b = wholeCrc s b := bankCrc_congr s (wSealed s b) b 0 16384 1 h0
  have h1 : bitsOf (bankWord (wSealed s b) b 1).toNat 31 0 = wholeCrc s b := by
    have hl : wholeCrc s b < 2 ^ 32 := bankCrc_lt s b 0 16384 1
    rw [show bankWord (wSealed s b) b 1 = _ from bankWord_setBankWord_same s b 1 _]
    simp only [bitsOf, BitVec.toNat_ofNat]
    omega
  have hf : fld (wSealed s b) SEQ_STAT_HW_ABI = fld s SEQ_STAT_HW_ABI := by
    simp only [fld, fldIn, getReg, wSealed, setBankWord_regs]
  have hce : custEmpty (wSealed s b) b = true := by
    unfold custEmpty; rw [h0 _ (by decide)]; exact hc
  unfold bankPasses bankVerdict
  rw [h0 0 (by decide), h1, hw, hf]
  simp [hm, ha, hce]
def wBank (b : Nat) (base : State) : State := wSealed (setBankWord base b 0 (BitVec.ofNat 128 (0x53444731 * 2 ^ 32 + fld base SEQ_STAT_HW_ABI * 2 ^ 16))) b
def wReadyBoot : State :=
  withFlds State.reset ((List.range 32).flatMap (fun n => [(DRP_STAT_TRAINED_A.inst n, 1), (DRP_STAT_TRAINED_B.inst n, 1)]) ++
    [(DRC_MAP_DENSITY, 2), (SEQ_CTL_ENABLE, 1), (IMG_STAT_BOOT_RESULT, 2), (JCT_CTL_ENABLE, 1), (PAGE_LOCK_LOCK 0x0B, 1)])
theorem wBank_done : doneRefuse (wBank 0 wReadyBoot) = 0 := by
  have t : ((List.range 32).all fun n => flag (wBank 0 wReadyBoot) (DRP_STAT_TRAINED_A.inst n) && flag (wBank 0 wReadyBoot) (DRP_STAT_TRAINED_B.inst n)) = true := by decide +kernel
  have e : flag (wBank 0 wReadyBoot) SEQ_CTL_ENABLE = true := by decide +kernel
  have a : activeBank (wBank 0 wReadyBoot) = 0 := by decide +kernel
  have p : bankPasses (wBank 0 wReadyBoot) 0 = true := sealed_passes _ _ (by decide +kernel) (by decide +kernel) (by decide +kernel)
  have j : flag (wBank 0 wReadyBoot) JCT_CTL_ENABLE = true := by decide +kernel
  have l : locked (wBank 0 wReadyBoot) 0x0B = true := by decide +kernel
  have d : ¬ fld (wBank 0 wReadyBoot) DRC_MAP_DENSITY = 0 := by decide +kernel
  have r : ¬ fld (wBank 0 wReadyBoot) IMG_STAT_BOOT_RESULT = 0 := by decide +kernel
  unfold doneRefuse
  simp [t, e, a, p, j, l, d, r]
def wBootDoneEntersJoinAndChoosesSource2 : State := wBank 0 wReadyBoot
theorem witness_BootDoneEntersJoinAndChoosesSource_2 : ∃ (q : Requester) (s : State), canWrite s q 0x02 = true ∧ s.vault = .boot ∧
    doneRefuse s = 0 := ⟨.core, wBootDoneEntersJoinAndChoosesSource2, ⟨by decide +kernel, by decide +kernel, wBank_done⟩⟩
def wBootDoneEntersJoinAndChoosesSource3 : State := wBank 0 wReadyBoot
theorem witness_BootDoneEntersJoinAndChoosesSource_3 : ∃ (q : Requester) (s : State), canWrite s q 0x02 = true ∧ s.vault = .boot ∧
    doneRefuse s = 0 ∧ s.rst.fromFenced = false ∧ registryFind s Config.partnerId = none := ⟨.core,
    wBootDoneEntersJoinAndChoosesSource3, ⟨by decide +kernel, by decide +kernel, wBank_done, by decide +kernel, by decide +kernel⟩⟩
theorem witness_BanksStopsAndCustomerStarts_1 : ∃ (q : Requester) (s : State), canWrite s q 0x80 = true := ⟨.core, wWork,
    by decide +kernel⟩
def wBanksStopsAndCustomerStarts2 : State := setCtx wWork 2 { wCtx 0 0 0 with run := 4 }
theorem witness_BanksStopsAndCustomerStarts_2 : ∃ (q : Requester) (c : Fin 4) (s : State), canWrite s q 0x80 = true ∧ c ≠ 0 ∧
    atYield (getCtx s c) = true ∧ (getCtx s c).hook = none := ⟨.core, 2, wBanksStopsAndCustomerStarts2, by decide +kernel⟩
def wWorkB : State := wBank 1 wWork
theorem wWorkB_passes : bankPasses wWorkB (1 - activeBank wWorkB) = true := by
  rw [show activeBank wWorkB = 0 by decide +kernel]
  have h : bankPasses (wBank 1 wWork) 1 = true := sealed_passes _ 1 (by decide +kernel) (by decide +kernel) (by decide +kernel)
  exact h
theorem witness_BanksStopsAndCustomerStarts_3 : ∃ (q : Requester) (s : State), canWrite s q 0x80 = true ∧ (s.vault ≠ .ride ∧ s.vault
    ≠ .dump ∧ flag s SEQ_STAT_SWITCH_BUSY = false ∧ bankPasses s (1 - activeBank s) = true) := ⟨.core, wWorkB,
    ⟨by decide +kernel, by decide +kernel, by decide +kernel, by decide +kernel, wWorkB_passes⟩⟩
def wBanksStopsAndCustomerStarts3b : State := { wWork with vault := .dump }
theorem witness_BanksStopsAndCustomerStarts_3b : ∃ (q : Requester) (s : State), canWrite s q 0x80 = true ∧ s.vault = .dump :=
    ⟨.core, wBanksStopsAndCustomerStarts3b, by decide +kernel⟩
theorem witness_BanksStopsAndCustomerStarts_4 : ∃ (q : Requester) (s : State), canWrite s q 0x80 = true := ⟨.core, wWork,
    by decide +kernel⟩
def wCust : State := { wWork with seq := { wWork.seq with bankA := [(0x3000, BitVec.ofNat 128 (2 ^ 32))] } }
def wBanksStopsAndCustomerStarts5 : State := withFlds wCust [(SEQ_CUST_START_IDX, 3)]
theorem witness_BanksStopsAndCustomerStarts_5 : ∃ (q : Requester) (s : State), canWrite s q 0x80 = true ∧ (custEmpty s (activeBank
    s) = false ∧ steady s = true) := ⟨.core, wBanksStopsAndCustomerStarts5, by decide +kernel⟩
theorem witness_BanksStopsAndCustomerStarts_5b : ∃ (q : Requester) (s : State), canWrite s q 0x80 = true ∧ custEmpty s (activeBank
    s) = true := ⟨.core, wWork, by decide +kernel⟩
def wBanksStopsAndCustomerStarts6 : State := withFlds wCust [(SEQ_CUST_H0_EN, 1)]
theorem witness_BanksStopsAndCustomerStarts_6 : ∃ (s : State), seqOn s = true ∧ steady s = true ∧ (getCtx s 3).run = 0 ∧ hookRuns s
    false (activeBank s) = true ∧ 0 < fld s SEQ_CUST_BUDGET := ⟨wBanksStopsAndCustomerStarts6, by decide +kernel⟩
theorem witness_BanksStopsAndCustomerStarts_7 : ∃ (s : State), (getCtx s 3).run ≠ 0 ∨ hookRuns s false (activeBank s) = false :=
    ⟨wCust, by decide +kernel⟩
theorem witness_BanksStopsAndCustomerStarts_8 : ∃ (q : Requester) (v : Word) (s : State), canWrite s q 0x81 = true := ⟨.core,
    0x4005, wCust, by decide +kernel⟩
def wBanksStopsAndCustomerStarts9 : State := withFlds wCust [(SEQ_CS_IDX_BANK, 1), (SEQ_CS_IDX_ADDR, 16383)]
theorem witness_BanksStopsAndCustomerStarts_9 : ∃ (q : Requester) (v : Word) (s : State), canWrite s q 0x81 = true ∧ (let b :=
    (fldIn s SEQ_CS_IDX_BANK 0 (reqBank q)); let a := (fldIn s SEQ_CS_IDX_ADDR 0 (reqBank q)); bankHeld s (fldIn s SEQ_CS_IDX_BANK 0
    (reqBank q)) = false) := ⟨.core, 0x77, wBanksStopsAndCustomerStarts9, by decide +kernel⟩
theorem witness_BanksStopsAndCustomerStarts_9b : ∃ (q : Requester) (v : Word) (s : State), canWrite s q 0x81 = true ∧ (let b :=
    (fldIn s SEQ_CS_IDX_BANK 0 (reqBank q)); let a := (fldIn s SEQ_CS_IDX_ADDR 0 (reqBank q)); bankHeld s (fldIn s SEQ_CS_IDX_BANK 0
    (reqBank q)) = true) := ⟨.core, 0x77, wCust, by decide +kernel⟩
def wTl (line bytes : Nat) (sram : Nat) : State :=
  withFlds (setWindow wWork 3 (BitVec.ofNat 64 0x100) (BitVec.ofNat 64 (2 ^ 63 + 0x1FF)) 0x40 0) [(MGT_TL_CTL_WIN, 3), (MGT_TL_LINE_LINE, line), (MGT_TL_LEN_BYTES, bytes), (MGT_TL_CTL_SRC_SRAM, sram)]
def wTableLoadsMoveOrAreRefused1 : State := wTl 0x1FE 128 0
theorem witness_TableLoadsMoveOrAreRefused_1 : ∃ (q : Requester) (s : State), canWrite s q 0x00 = true ∧ s.mgt.load = none :=
    ⟨.core, wTableLoadsMoveOrAreRefused1, by decide +kernel⟩
def wTableLoadsMoveOrAreRefused1b : State := wTl 0x1FF 128 1
theorem witness_TableLoadsMoveOrAreRefused_1b : ∃ (q : Requester) (s : State), canWrite s q 0x00 = true ∧ s.mgt.load = none :=
    ⟨.core, wTableLoadsMoveOrAreRefused1b, by decide +kernel⟩
def wTableLoadsMoveOrAreRefused1c : State := wTl 0xFF 64 0
theorem witness_TableLoadsMoveOrAreRefused_1c : ∃ (q : Requester) (s : State), canWrite s q 0x00 = true ∧ s.mgt.load = none :=
    ⟨.core, wTableLoadsMoveOrAreRefused1c, by decide +kernel⟩
def wTableLoadsMoveOrAreRefused1d : State := wTl 0x100 63 0
theorem witness_TableLoadsMoveOrAreRefused_1d : ∃ (q : Requester) (s : State), canWrite s q 0x00 = true ∧ s.mgt.load = none :=
    ⟨.core, wTableLoadsMoveOrAreRefused1d, by decide +kernel⟩
def wTableLoadsMoveOrAreRefused1e : State := { wTl 0x100 64 0 with vault := .join }
theorem witness_TableLoadsMoveOrAreRefused_1e : ∃ (q : Requester) (s : State), canWrite s q 0x00 = true ∧ s.mgt.load = none :=
    ⟨.core, wTableLoadsMoveOrAreRefused1e, by decide +kernel⟩
def wTlRun (e : Option (Nat × Nat)) (a : Option Nat) : State := { wWork with mgt := { wWork.mgt with load := some ⟨3, 64, 2, a, e⟩, sram := [(128, 7)] } }
def wTableLoadsMoveOrAreRefused2 : State := wTlRun none none
theorem witness_TableLoadsMoveOrAreRefused_2 : ∃ (q : Requester) (s : State), canWrite s q 0x00 = true ∧ s.mgt.load.isSome = true :=
    ⟨.core, wTableLoadsMoveOrAreRefused2, by decide +kernel⟩
def wTableLoadsMoveOrAreRefused3 : State := wTlRun none none
theorem witness_TableLoadsMoveOrAreRefused_3 : ∃ (x : TableLoad) (given : List Line) (e : Bool) (s : State), dataUp s = true ∧
    serving s = true ∧ s.mgt.load = some x ∧ x.ending = none ∧ x.dline + x.lines ≤ installedLines s ∧ (let ls := (loadLines s x
    given); ls ≠ []) := ⟨⟨3, 64, 2, none, none⟩, [5, 6], false, wTableLoadsMoveOrAreRefused3, by decide +kernel⟩
def wTableLoadsMoveOrAreRefused3b : State := wTlRun none (some 64)
theorem witness_TableLoadsMoveOrAreRefused_3b : ∃ (x : TableLoad) (given : List Line) (e : Bool) (s : State), dataUp s = true ∧
    serving s = true ∧ s.mgt.load = some x ∧ x.ending = none ∧ x.dline + x.lines ≤ installedLines s ∧ (let ls := (loadLines s x
    given); ls ≠ []) := ⟨⟨3, 64, 2, some 64, none⟩, [], false, wTableLoadsMoveOrAreRefused3b, by decide +kernel⟩
def wTableLoadsMoveOrAreRefused4 : State := wTlRun none none
theorem witness_TableLoadsMoveOrAreRefused_4 : ∃ (x : TableLoad) (given : List Line) (s : State), x.sram = none := ⟨⟨3, 64, 2, none,
    none⟩, [5], wTableLoadsMoveOrAreRefused4, by decide +kernel⟩
def wTableLoadsMoveOrAreRefused4b : State := wTlRun none (some 64)
theorem witness_TableLoadsMoveOrAreRefused_4b : ∃ (x : TableLoad) (given : List Line) (s : State), x.sram = some 64 := ⟨⟨3, 64, 2,
    some 64, none⟩, [], wTableLoadsMoveOrAreRefused4b, by decide +kernel⟩
def wTableLoadsMoveOrAreRefused5 : State := wTlRun (some (2, 2)) none
theorem witness_TableLoadsMoveOrAreRefused_5 : ∃ (x : TableLoad) (given : List Line) (e : Bool) (n r : Nat) (s : State), dataUp s =
    true ∧ s.mgt.load = some x ∧ x.ending = some (n, r) ∧ x.dline + x.lines ≤ installedLines s ∧ n < 2 ^ 32 ∧ r < 16 ∧ ((∀ p ∈
    s.adm.plaza, p.client ≠ 5) ∧ r < 3 ∧ s.mgt.heldCommit = none) := ⟨⟨3, 64, 2, none, some (2, 2)⟩, [], false, 2, 2,
    wTableLoadsMoveOrAreRefused5, by decide +kernel⟩
def wTableLoadsMoveOrAreRefused5b : State := wTlRun (some (1, 7)) none
theorem witness_TableLoadsMoveOrAreRefused_5b : ∃ (x : TableLoad) (given : List Line) (e : Bool) (n r : Nat) (s : State), dataUp s =
    true ∧ s.mgt.load = some x ∧ x.ending = some (n, r) ∧ x.dline + x.lines ≤ installedLines s ∧ n < 2 ^ 32 ∧ r < 16 ∧ ((∀ p ∈
    s.adm.plaza, p.client ≠ 5) ∧ 3 ≤ r) := ⟨⟨3, 64, 2, none, some (1, 7)⟩, [], false, 1, 7, wTableLoadsMoveOrAreRefused5b,
    by decide +kernel⟩
def wTableLoadsMoveOrAreRefused5c : State :=
  { wTlRun (some (2, 2)) none with adm := { AdmSt.reset with plaza := [⟨5, 0, 1, false, [(64, some 5)], .plaza, 31, 0, 0⟩] } }
theorem witness_TableLoadsMoveOrAreRefused_5c : ∃ (x : TableLoad) (given : List Line) (e : Bool) (n r : Nat) (s : State), dataUp s =
    true ∧ s.mgt.load = some x ∧ x.ending = some (n, r) ∧ x.dline + x.lines ≤ installedLines s ∧ n < 2 ^ 32 ∧ r < 16 ∧ (∃ p ∈
    s.adm.plaza, p.client = 5) := ⟨⟨3, 64, 2, none, some (2, 2)⟩, [], false, 2, 2, wTableLoadsMoveOrAreRefused5c, by decide +kernel⟩
def wTableLoadsMoveOrAreRefused6 : State := { wWork with mgt := { wWork.mgt with load := some ⟨3, 2 ^ 40, 2, none, none⟩ } }
theorem witness_TableLoadsMoveOrAreRefused_6 : ∃ (x : TableLoad) (given : List Line) (e : Bool) (s : State), dataUp s = true ∧
    s.mgt.load = some x ∧ installedLines s < x.dline + x.lines := ⟨⟨3, 2 ^ 40, 2, none, none⟩, [5], false,
    wTableLoadsMoveOrAreRefused6, by decide +kernel⟩
theorem witness_TableLoadsMoveOrAreRefused_7 : ∃ (given : List Line) (e : Bool) (s : State), s.mgt.load = none := ⟨[], true, wWork,
    by decide +kernel⟩
def wCoreRestartsAndInterrupts1 : State := { wWork with mgt := { wWork.mgt with flash := headFlash } }
theorem witness_CoreRestartsAndInterrupts_1 : ∃ (q : Requester) (s : State), canWrite s q 0x00 = true ∧ quietStart s := ⟨.core,
    wCoreRestartsAndInterrupts1, by unfold quietStart; decide +kernel⟩
def wTrial : State := { wWork with mgt := { wWork.mgt with trialRun := true, trial := true } }
theorem witness_CoreRestartsAndInterrupts_2 : ∃ (q : Requester) (s : State), canWrite s q 0x00 = true ∧ s.mgt.trialRun = true :=
    ⟨.core, wTrial, by decide +kernel⟩
theorem witness_CoreRestartsAndInterrupts_3 : ∃ (q : Requester) (s : State), s.mgt.trialRun = false := ⟨.core, wWork,
    by decide +kernel⟩
theorem witness_CoreRestartsAndInterrupts_5 : ∃ (s : State), s.mgt.trialRun = false := ⟨wWork, by decide +kernel⟩
def wCoreRestartsAndInterrupts4 : State := { wTrial with mgt := { wTrial.mgt with flash := [(0x80000, 0x46574D31), (0x80001, 0)] } }
theorem witness_CoreRestartsAndInterrupts_4 : ∃ (s : State), mgtUp s = true ∧ s.mgt.trialRun = true ∧ s.mgt.op = none ∧
    s.mgt.suspended = none ∧ headerOk s (!runningHalf s) = true ∧ True := ⟨wCoreRestartsAndInterrupts4, by decide +kernel⟩
def wCoreRestartsAndInterrupts4b : State :=
  withFlds { wTrial with mgt := { wTrial.mgt with flash := [(0x80000, 0x46574D31), (0x80001, 0)] } } [(FLT_CLASS_SRC 0x00 0, 1)]
theorem witness_CoreRestartsAndInterrupts_4b : ∃ (s : State), mgtUp s = true ∧ s.mgt.trialRun = true ∧ s.mgt.op = none ∧
    s.mgt.suspended = none ∧ headerOk s (!runningHalf s) = true ∧ LogsOnly s srcFwFallback := ⟨wCoreRestartsAndInterrupts4b,
    by unfold LogsOnly; decide +kernel⟩
/-- The core runs with an interrupt pending and enabled. -/
def wCore_9 (h : HartSt) : State :=
  withFlds { wWork with mgt := { wWork.mgt with hart := h } } [(IRQ_PEND_BIT 0x30 3, 1), (IRQ_EN_BIT 0x30 3, 1)]
def wHart_9 : HartSt := { HartSt.reset with running := true, mie := 0x800, mstatus := 8, mtvec := 0x10000400, pc := 0x10000100 }
def wCoreRestartsAndInterrupts6 : State := wCore_9 HartSt.reset
theorem witness_CoreRestartsAndInterrupts_6 : ∃ (s : State), mgtUp s = true ∧ (s.mgt.hart.running = false ∨ interruptReady s = false
    ∨ s.mgt.hart.busy ≠ 0 ∨ (∃ u, s.mgt.hart.stall = some (false, u))) := ⟨wCoreRestartsAndInterrupts6,
    by refine ⟨by decide +kernel, Or.inl (by decide +kernel)⟩⟩
def wCoreRestartsAndInterrupts6b : State := wCore_9 { wHart_9 with mstatus := 0 }
theorem witness_CoreRestartsAndInterrupts_6b : ∃ (s : State), mgtUp s = true ∧ (s.mgt.hart.running = false ∨ interruptReady s =
    false ∨ s.mgt.hart.busy ≠ 0 ∨ (∃ u, s.mgt.hart.stall = some (false, u))) := ⟨wCoreRestartsAndInterrupts6b,
    by refine ⟨by decide +kernel, Or.inr (Or.inl (by decide +kernel))⟩⟩
def wCoreRestartsAndInterrupts6c : State := wCore_9 { wHart_9 with busy := 3 }
theorem witness_CoreRestartsAndInterrupts_6c : ∃ (s : State), mgtUp s = true ∧ (s.mgt.hart.running = false ∨ interruptReady s =
    false ∨ s.mgt.hart.busy ≠ 0 ∨ (∃ u, s.mgt.hart.stall = some (false, u))) := ⟨wCoreRestartsAndInterrupts6c,
    by refine ⟨by decide +kernel, Or.inr (Or.inr (Or.inl (by decide +kernel)))⟩⟩
def wCoreRestartsAndInterrupts6d : State := wCore_9 { wHart_9 with stall := some (false, 5) }
theorem witness_CoreRestartsAndInterrupts_6d : ∃ (s : State), mgtUp s = true ∧ (s.mgt.hart.running = false ∨ interruptReady s =
    false ∨ s.mgt.hart.busy ≠ 0 ∨ (∃ u, s.mgt.hart.stall = some (false, u))) := ⟨wCoreRestartsAndInterrupts6d,
    by refine ⟨by decide +kernel, Or.inr (Or.inr (Or.inr ⟨5, by decide +kernel⟩))⟩⟩
def wCoreRestartsAndInterrupts8 : State := wCore_9 wHart_9
theorem witness_CoreRestartsAndInterrupts_8 : ∃ (s : State), mgtUp s = true ∧ s.mgt.hart.running = true ∧ interruptReady s = true ∧
    s.mgt.hart.busy = 0 ∧ s.mgt.hart.stall = none := ⟨wCoreRestartsAndInterrupts8, by decide +kernel⟩
def wCoreRestartsAndInterrupts8b : State := wCore_9 { wHart_9 with user := true, mstatus := 0 }
theorem witness_CoreRestartsAndInterrupts_8b : ∃ (s : State), mgtUp s = true ∧ s.mgt.hart.running = true ∧ interruptReady s = true ∧
    s.mgt.hart.busy = 0 ∧ s.mgt.hart.stall = none := ⟨wCoreRestartsAndInterrupts8b, by decide +kernel⟩
def wCoreRestartsAndInterrupts8c : State := wCore_9 { wHart_9 with stall := some (true, 5) }
theorem witness_CoreRestartsAndInterrupts_8c : ∃ (s : State), mgtUp s = true ∧ s.mgt.hart.running = true ∧ interruptReady s = true ∧
    s.mgt.hart.busy = 0 ∧ s.mgt.hart.stall = some (true, 5) := ⟨wCoreRestartsAndInterrupts8c, by decide +kernel⟩
/-- ADDI x5, x6, 7 stands at the PC. -/
def wAddi : State := { wCore_9 wHart_9 with mgt := { (wCore_9 wHart_9).mgt with sram := [(0x100, 0x93), (0x101, 0x02), (0x102, 0x73)] } }
theorem witness_CoreRestartsAndInterrupts_9 : ∃ (off w : Nat) (i : CoreOp) (s : State), s.mgt.hart.user = false ∧
    s.mgt.hart.pc.toNat = 0x10000000 + off ∧ off + 4 ≤ 0x80000 ∧ sramNum s off 4 = w ∧ w % 4 = 3 ∧ decode32 w = some i := ⟨0x100,
    0x00730293, .aluImm .add 5 6 7, wAddi, by decide +kernel⟩
def wCoreRestartsAndInterrupts10 : State := wCore_9 wHart_9
theorem witness_CoreRestartsAndInterrupts_10 : ∃ (bits rd a b : Nat) (o : AluOp) (imm : BitVec 32) (s : State), rd < 32 := ⟨0, 5, 6,
    7, .add, 9, wCoreRestartsAndInterrupts10, by decide +kernel⟩
theorem witness_CoreRestartsAndInterrupts_12 : ∃ (bits rd a off : Nat) (imm : BitVec 32) (s : State), rd < 32 ∧ dataUser s = false ∧
    (coreReg s a + imm).toNat = 0x10000000 + off ∧ off % 4 = 0 ∧ off < 0x80000 := ⟨0, 5, 6, 0x40, 0x10000040, wAddi,
    by decide +kernel⟩
theorem witness_CoreRestartsAndInterrupts_13 : ∃ (bits a b off : Nat) (imm : BitVec 32) (s : State), dataUser s = false ∧ (coreReg s
    a + imm).toNat = 0x10000000 + off ∧ off % 4 = 0 ∧ off < 0x80000 := ⟨0, 6, 7, 0x40, 0x10000040, wAddi, by decide +kernel⟩
def wCoreRestartsAndInterrupts14 : State := wCore_9 wHart_9
theorem witness_CoreRestartsAndInterrupts_14 : ∃ (bits : Nat) (s : State), s.mgt.hart.user = false := ⟨0,
    wCoreRestartsAndInterrupts14, by decide +kernel⟩
def wCoreRestartsAndInterrupts14b : State := wCore_9 { wHart_9 with user := true }
theorem witness_CoreRestartsAndInterrupts_14b : ∃ (bits : Nat) (s : State), s.mgt.hart.user = true := ⟨0,
    wCoreRestartsAndInterrupts14b, by decide +kernel⟩
def wCoreInterruptFollowsPendingPages1 : State := wCore_9 wHart_9
theorem witness_CoreInterruptFollowsPendingPages_1 : ∃ (s : State), mgtUp s = true := ⟨wCoreInterruptFollowsPendingPages1,
    by decide +kernel⟩
def wCoreInterruptFollowsPendingPages2 : State :=
  withFlds wWork [(IRQ_PEND_BIT 0x30 3, 1), (IRQ_EN_BIT 0x30 3, 1), (IRQ_PEND_BIT 0x80 3, 1), (IRQ_EN_BIT 0x80 3, 1)]
theorem witness_CoreInterruptFollowsPendingPages_2 : ∃ (q : Requester) (p : Nat) (s : State), pageRuns s 0x00 = true ∧ p ∈ allPages
    ∧ getReg s (rkey 0 0 p 0x048) &&& getReg s (rkey 0 0 p 0x040) ≠ 0 ∧ (∀ p' ∈ allPages, getReg s (rkey 0 0 p' 0x048) &&& getReg s
    (rkey 0 0 p' 0x040) ≠ 0 → p ≤ p') := ⟨.pcie, 0x30, wCoreInterruptFollowsPendingPages2, by decide +kernel⟩
/-- The code flash, unlocked by the core, at byte address a. -/
def wNvc (a : Nat) : State := withFlds { wWork with mgt := { wWork.mgt with flash := [(0, 0x46574D31), (513, 7)] } } [(NVC_STAT_UNLOCKED, 1), (NVC_CTL_OWNER, requesterCode .core), (NVC_ADDR_ADDR, a)]
def wNvcOp (cmd a : Nat) (d : Word) : State := { wNvc a with mgt := { (wNvc a).mgt with op := some ⟨cmd, a, d, .core⟩ } }
theorem witness_CodeFlashUnlockCommandsAndEnds_1 : ∃ (q : Requester) (s : State), canWrite s q 0x88 = true ∧ flag s
    NVC_STAT_KEY_LOCKOUT = false ∧ flag s NVC_STAT_UNLOCKED = false ∧ (s.mgt.keyStep ≠ some q) := ⟨.core, wWork, by decide +kernel⟩
def wCodeFlashUnlockCommandsAndEnds1b : State := { wWork with mgt := { wWork.mgt with keyStep := some .core, keyFails := 2 } }
theorem witness_CodeFlashUnlockCommandsAndEnds_1b : ∃ (q : Requester) (s : State), canWrite s q 0x88 = true ∧ flag s
    NVC_STAT_KEY_LOCKOUT = false ∧ flag s NVC_STAT_UNLOCKED = false ∧ (s.mgt.keyStep = some q ∧ 2 ≤ s.mgt.keyFails) := ⟨.core,
    wCodeFlashUnlockCommandsAndEnds1b, by decide +kernel⟩
def wCodeFlashUnlockCommandsAndEnds1c : State := { wWork with mgt := { wWork.mgt with keyStep := some .core, keyFails := 1 } }
theorem witness_CodeFlashUnlockCommandsAndEnds_1c : ∃ (q : Requester) (s : State), canWrite s q 0x88 = true ∧ flag s
    NVC_STAT_KEY_LOCKOUT = false ∧ flag s NVC_STAT_UNLOCKED = false ∧ (s.mgt.keyStep = some q ∧ s.mgt.keyFails < 2) := ⟨.core,
    wCodeFlashUnlockCommandsAndEnds1c, by decide +kernel⟩
def wCodeFlashUnlockCommandsAndEnds2 : State := wNvc 0
theorem witness_CodeFlashUnlockCommandsAndEnds_2 : ∃ (q : Requester) (v : BitVec 32) (s : State), (flag s NVC_STAT_KEY_LOCKOUT =
    true ∨ flag s NVC_STAT_UNLOCKED = true) := ⟨.pcie, 5, wCodeFlashUnlockCommandsAndEnds2, by decide +kernel⟩
def wCodeFlashUnlockCommandsAndEnds3 : State := wNvc 0
theorem witness_CodeFlashUnlockCommandsAndEnds_3 : ∃ (q : Requester) (s : State), canWrite s q 0x88 = true ∧ holdsUnlock s q = true
    := ⟨.core, wCodeFlashUnlockCommandsAndEnds3, by decide +kernel⟩
def wCodeFlashUnlockCommandsAndEnds4 : State := wNvc 0
theorem witness_CodeFlashUnlockCommandsAndEnds_4 : ∃ (q : Requester) (i : Instr) (s : State), i ∈ [.nvcProgram q, .nvcSectorErase q,
    .nvcRead q, .nvcBlankCheck q, .nvcSetBoot q, .nvcSetLevel q, .nvcKeyProgram q, .nvcDataWrite q 0, .nvcSuspend q, .nvcResume q] ∧
    canWrite s q 0x88 = true ∧ nvcBarred s q = true := ⟨.pcie, .nvcSuspend .pcie, wCodeFlashUnlockCommandsAndEnds4,
    by refine ⟨by simp, ?_⟩; decide +kernel⟩
def wCodeFlashUnlockCommandsAndEnds5 : State := wNvcOp 2 0x400000 0
theorem witness_CodeFlashUnlockCommandsAndEnds_5 : ∃ (q : Requester) (cmd : Nat) (i : Instr) (s : State), (cmd, i) ∈ nvcChanges q ∧
    canWrite s q 0x88 = true ∧ nvcBarred s q = false ∧ s.mgt.op.isSome = true := ⟨.core, 1, .nvcProgram .core,
    wCodeFlashUnlockCommandsAndEnds5, by refine ⟨by simp [nvcChanges], ?_⟩; decide +kernel⟩
def wCodeFlashUnlockCommandsAndEnds5b : State := { wNvc 0 with vault := .dump }
theorem witness_CodeFlashUnlockCommandsAndEnds_5b : ∃ (q : Requester) (cmd : Nat) (i : Instr) (s : State), (cmd, i) ∈ nvcChanges q ∧
    canWrite s q 0x88 = true ∧ nvcBarred s q = false ∧ (s.mgt.op = none ∧ s.mgt.suspended = none ∧ s.vault = .dump) := ⟨.core, 2,
    .nvcSectorErase .core, wCodeFlashUnlockCommandsAndEnds5b, by refine ⟨by simp [nvcChanges], ?_⟩; decide +kernel⟩
theorem witness_CodeFlashUnlockCommandsAndEnds_5c : ∃ (q : Requester) (cmd : Nat) (i : Instr) (s : State), (cmd, i) ∈ nvcChanges q ∧
    canWrite s q 0x88 = true ∧ nvcBarred s q = false ∧ (s.mgt.op = none ∧ s.mgt.suspended = none ∧ nvcState s cmd = false ∧
    holdsUnlock s q = false) := ⟨.core, 5, .nvcSetBoot .core, wWork, by refine ⟨by simp [nvcChanges], ?_⟩; decide +kernel⟩
def wCodeFlashUnlockCommandsAndEnds5d : State := withFlds (wNvc 0) [(NVC_STAT_GUARD, 1)]
theorem witness_CodeFlashUnlockCommandsAndEnds_5d : ∃ (q : Requester) (cmd : Nat) (i : Instr) (s : State), (cmd, i) ∈ nvcChanges q ∧
    canWrite s q 0x88 = true ∧ nvcBarred s q = false ∧ (s.mgt.op = none ∧ s.mgt.suspended = none ∧ nvcState s cmd = false ∧
    holdsUnlock s q = true ∧ flag s NVC_STAT_GUARD = true) := ⟨.core, 6, .nvcSetLevel .core, wCodeFlashUnlockCommandsAndEnds5d,
    by refine ⟨by simp [nvcChanges], ?_⟩; decide +kernel⟩
def wCodeFlashUnlockCommandsAndEnds6 : State := wNvc 0x401000
theorem witness_CodeFlashUnlockCommandsAndEnds_6 : ∃ (q : Requester) (s : State), canWrite s q 0x88 = true ∧ nvcBarred s q = false ∧
    (let why := (fun cmd => nvcWhyNot s q cmd (fld s NVC_ADDR_ADDR) (fld s NVC_DATA_DATA)); why 1 = none ∧ fld s NVC_ADDR_ADDR / 8 ∉
    s.mgt.dubious ∧ flashWord s (fld s NVC_ADDR_ADDR / 8) = BitVec.allOnes 64) := ⟨.core, wCodeFlashUnlockCommandsAndEnds6,
    by decide +kernel⟩
def wCodeFlashUnlockCommandsAndEnds6b : State := wNvc 0x401000
theorem witness_CodeFlashUnlockCommandsAndEnds_6b : ∃ (q : Requester) (s : State), canWrite s q 0x88 = true ∧ nvcBarred s q = false
    ∧ (let why := (fun cmd => nvcWhyNot s q cmd (fld s NVC_ADDR_ADDR) (fld s NVC_DATA_DATA)); why 2 = none) := ⟨.core,
    wCodeFlashUnlockCommandsAndEnds6b, by decide +kernel⟩
def wCodeFlashUnlockCommandsAndEnds6c : State := wNvc 0x401000
theorem witness_CodeFlashUnlockCommandsAndEnds_6c : ∃ (q : Requester) (s : State), canWrite s q 0x88 = true ∧ nvcBarred s q = false
    ∧ (let why := (fun cmd => nvcWhyNot s q cmd (fld s NVC_ADDR_ADDR) (fld s NVC_DATA_DATA)); why 5 = none) := ⟨.core,
    wCodeFlashUnlockCommandsAndEnds6c, by decide +kernel⟩
def wCodeFlashUnlockCommandsAndEnds6d : State := wNvc 0x401000
theorem witness_CodeFlashUnlockCommandsAndEnds_6d : ∃ (q : Requester) (s : State), canWrite s q 0x88 = true ∧ nvcBarred s q = false
    ∧ (let why := (fun cmd => nvcWhyNot s q cmd (fld s NVC_ADDR_ADDR) (fld s NVC_DATA_DATA)); why 6 = none) := ⟨.core,
    wCodeFlashUnlockCommandsAndEnds6d, by decide +kernel⟩
def wCodeFlashUnlockCommandsAndEnds6e : State := { wNvc 0x7F0008 with vault := .boot }
theorem witness_CodeFlashUnlockCommandsAndEnds_6e : ∃ (q : Requester) (s : State), canWrite s q 0x88 = true ∧ nvcBarred s q = false
    ∧ (let why := (fun cmd => nvcWhyNot s q cmd (fld s NVC_ADDR_ADDR) (fld s NVC_DATA_DATA)); why 7 = none) := ⟨.core,
    wCodeFlashUnlockCommandsAndEnds6e, by decide +kernel⟩
def wCodeFlashUnlockCommandsAndEnds7 : State := { wNvc 0x401008 with mgt := { (wNvc 0).mgt with flash := [(0x80201, 5)] } }
theorem witness_CodeFlashUnlockCommandsAndEnds_7 : ∃ (q : Requester) (s : State), canWrite s q 0x88 = true ∧ nvcBarred s q = false ∧
    nvcWhyNot s q 1 (fld s NVC_ADDR_ADDR) (fld s NVC_DATA_DATA) = none ∧ fld s NVC_ADDR_ADDR / 8 ∉ s.mgt.dubious ∧ flashWord s (fld
    s NVC_ADDR_ADDR / 8) ≠ BitVec.allOnes 64 := ⟨.core, wCodeFlashUnlockCommandsAndEnds7, by decide +kernel⟩
def wCodeFlashUnlockCommandsAndEnds8 : State := wNvc 0x1008
theorem witness_CodeFlashUnlockCommandsAndEnds_8 : ∃ (q : Requester) (s : State), canWrite s q 0x88 = true ∧ nvcBarred s q = false ∧
    nvcWhyNot s q 3 (fld s NVC_ADDR_ADDR) (fld s NVC_DATA_DATA) = none ∧ fld s NVC_ADDR_ADDR / 8 ∉ s.mgt.dubious ∧ (optionArea
    (sectorOf (fld s NVC_ADDR_ADDR)) = false ∨ optionWritten s = false) := ⟨.core, wCodeFlashUnlockCommandsAndEnds8,
    by decide +kernel⟩
def wCodeFlashUnlockCommandsAndEnds9 : State := wNvc 0x1000
theorem witness_CodeFlashUnlockCommandsAndEnds_9 : ∃ (q : Requester) (s : State), (let sec := (sectorOf (fld s NVC_ADDR_ADDR));
    canWrite s q 0x88 = true ∧ nvcBarred s q = false ∧ nvcWhyNot s q 4 (fld s NVC_ADDR_ADDR) (fld s NVC_DATA_DATA) = none ∧
    optionArea sec = false ∧ keyAreaSec sec = false ∧ (∀ w ∈ s.mgt.dubious, w / 512 ≠ sec) ∧ ∃ e ∈ s.mgt.flash, e.1 / 512 = sectorOf
    (fld s NVC_ADDR_ADDR)) := ⟨.core, wCodeFlashUnlockCommandsAndEnds9, by decide +kernel⟩
def wCodeFlashUnlockCommandsAndEnds9b : State := wNvc 0x2000
theorem witness_CodeFlashUnlockCommandsAndEnds_9b : ∃ (q : Requester) (s : State), (let sec := (sectorOf (fld s NVC_ADDR_ADDR));
    canWrite s q 0x88 = true ∧ nvcBarred s q = false ∧ nvcWhyNot s q 4 (fld s NVC_ADDR_ADDR) (fld s NVC_DATA_DATA) = none ∧
    optionArea sec = false ∧ keyAreaSec sec = false ∧ (∀ w ∈ s.mgt.dubious, w / 512 ≠ sec) ∧ (∀ e ∈ s.mgt.flash, e.1 / 512 ≠
    sectorOf (fld s NVC_ADDR_ADDR))) := ⟨.core, wCodeFlashUnlockCommandsAndEnds9b, by decide +kernel⟩
def wCodeFlashUnlockCommandsAndEnds10 : State := wNvc 0
theorem witness_CodeFlashUnlockCommandsAndEnds_10 : ∃ (q : Requester) (v : Word) (s : State), canWrite s q 0x88 = true ∧ nvcBarred s
    q = false ∧ flag s NVC_CMD_AUTO = false := ⟨.core, 0x123, wCodeFlashUnlockCommandsAndEnds10, by decide +kernel⟩
def wCodeFlashUnlockCommandsAndEnds11 : State := wNvcOp 1 0x7FFFF8 9
theorem witness_CodeFlashUnlockCommandsAndEnds_11 : ∃ (op : NvcOp) (n : BitVec 4) (s : State), mgtUp s = true ∧ s.mgt.op = some op ∧
    op.cmd = 1 := ⟨⟨1, 0x7FFFF8, 9, .core⟩, 3, wCodeFlashUnlockCommandsAndEnds11, by decide +kernel⟩
def wCodeFlashUnlockCommandsAndEnds11b : State := wNvcOp 2 0x1000 9
theorem witness_CodeFlashUnlockCommandsAndEnds_11b : ∃ (op : NvcOp) (n : BitVec 4) (s : State), mgtUp s = true ∧ s.mgt.op = some op
    ∧ op.cmd = 2 := ⟨⟨2, 0x1000, 9, .core⟩, 3, wCodeFlashUnlockCommandsAndEnds11b, by decide +kernel⟩
def wCodeFlashUnlockCommandsAndEnds11c : State := wNvcOp 5 0 3
theorem witness_CodeFlashUnlockCommandsAndEnds_11c : ∃ (op : NvcOp) (n : BitVec 4) (s : State), mgtUp s = true ∧ s.mgt.op = some op
    ∧ op.cmd = 5 := ⟨⟨5, 0, 3, .core⟩, 3, wCodeFlashUnlockCommandsAndEnds11c, by decide +kernel⟩
def wCodeFlashUnlockCommandsAndEnds11d : State := { wNvcOp 6 0 0 with mgt := { (wNvcOp 6 0 0).mgt with level := 1 } }
theorem witness_CodeFlashUnlockCommandsAndEnds_11d : ∃ (op : NvcOp) (n : BitVec 4) (s : State), mgtUp s = true ∧ s.mgt.op = some op
    ∧ (op.cmd = 6 ∧ op.data.toNat % 4 < s.mgt.level.toNat) := ⟨⟨6, 0, 0, .core⟩, 3, wCodeFlashUnlockCommandsAndEnds11d,
    by decide +kernel⟩
def wCodeFlashUnlockCommandsAndEnds11e : State := wNvcOp 6 0 2
theorem witness_CodeFlashUnlockCommandsAndEnds_11e : ∃ (op : NvcOp) (n : BitVec 4) (s : State), mgtUp s = true ∧ s.mgt.op = some op
    ∧ (op.cmd = 6 ∧ s.mgt.level.toNat ≤ op.data.toNat % 4) := ⟨⟨6, 0, 2, .core⟩, 3, wCodeFlashUnlockCommandsAndEnds11e,
    by decide +kernel⟩
def wCodeFlashUnlockCommandsAndEnds11f : State := wNvcOp 7 0x7F0008 9
theorem witness_CodeFlashUnlockCommandsAndEnds_11f : ∃ (op : NvcOp) (n : BitVec 4) (s : State), mgtUp s = true ∧ s.mgt.op = some op
    ∧ op.cmd = 7 := ⟨⟨7, 0x7F0008, 9, .core⟩, 3, wCodeFlashUnlockCommandsAndEnds11f, by decide +kernel⟩
def wCodeFlashUnlockCommandsAndEnds12 : State := wNvcOp 2 0x1000 9
theorem witness_CodeFlashUnlockCommandsAndEnds_12 : ∃ (q : Requester) (op : NvcOp) (s : State), canWrite s q 0x88 = true ∧ nvcBarred
    s q = false ∧ op.cmd = 2 ∧ s.mgt.op = some op := ⟨.core, ⟨2, 0x1000, 9, .core⟩, wCodeFlashUnlockCommandsAndEnds12,
    by decide +kernel⟩
def wCodeFlashUnlockCommandsAndEnds12b : State := { wNvc 0x1000 with mgt := { (wNvc 0).mgt with suspended := some ⟨2, 0x1000, 9, .core⟩ } }
theorem witness_CodeFlashUnlockCommandsAndEnds_12b : ∃ (q : Requester) (op : NvcOp) (s : State), canWrite s q 0x88 = true ∧
    nvcBarred s q = false ∧ op.cmd = 2 ∧ (s.mgt.suspended = some op ∧ s.mgt.op = none ∧ flag s NVC_STAT_GUARD = false) := ⟨.core,
    ⟨2, 0x1000, 9, .core⟩, wCodeFlashUnlockCommandsAndEnds12b, by decide +kernel⟩
def wCodeFlashUnlockCommandsAndEnds13 : State := wNvc 0
theorem witness_CodeFlashUnlockCommandsAndEnds_13 : ∃ (s : State), mgtUp s = true ∧ (s.mgt.suspended = none ∧ s.mgt.op = none) :=
    ⟨wCodeFlashUnlockCommandsAndEnds13, by decide +kernel⟩
def wCodeFlashUnlockCommandsAndEnds13b : State := wNvcOp 1 0x1000 9
theorem witness_CodeFlashUnlockCommandsAndEnds_13b : ∃ (s : State), mgtUp s = true ∧ (∃ op, s.mgt.op = some op ∧ (op.cmd = 1 ∨
    op.cmd = 2 ∨ op.cmd = 7)) := ⟨wCodeFlashUnlockCommandsAndEnds13b,
    by refine ⟨by decide +kernel, ⟨1, 0x1000, 9, .core⟩, by decide +kernel, by decide⟩⟩
def wCodeFlashUnlockCommandsAndEnds13c : State := { wNvc 0 with mgt := { (wNvc 0).mgt with suspended := some ⟨2, 0x1000, 9, .core⟩ } }
theorem witness_CodeFlashUnlockCommandsAndEnds_13c : ∃ (s : State), mgtUp s = true ∧ s.mgt.suspended.isSome = true :=
    ⟨wCodeFlashUnlockCommandsAndEnds13c, by decide +kernel⟩
theorem witness_PageControlGuardsPagesInService_1 : ∃ (q : Requester) (pg : Nat) (v : Word) (s : State), canWriteHdr s q pg = true ∧
    q ≠ .ring ∧ bitAt v.toNat 0 = true ∧ (pg ≠ 0x0B ∨ ocvRises s = true) := ⟨.core, 0x30, 1, wServe, by decide +kernel⟩
def wOcv : State := (List.range 11).foldl (fun s k => setFldAt s MEAS_OCV_MV k (100 * k + 100)) wServe
theorem witness_PageControlGuardsPagesInService_1b : ∃ (q : Requester) (pg : Nat) (v : Word) (s : State), canWriteHdr s q pg = true
    ∧ q ≠ .ring ∧ bitAt v.toNat 0 = true ∧ (pg ≠ 0x0B ∨ ocvRises s = true) := ⟨.pcie, 0x0B, 1, wOcv, by decide +kernel⟩
theorem witness_PageControlGuardsPagesInService_2 : ∃ (q : Requester) (pg : Nat) (v : Word) (s : State), (q = .ring ∨ bitAt v.toNat
    0 = false) := ⟨.ring, 0x30, 1, wServe, by decide +kernel⟩
theorem witness_PageControlGuardsPagesInService_3 : ∃ (q : Requester) (pg : Nat) (v : Word) (s : State), canWriteHdr s q pg = true ∧
    (q ≠ .ring ∨ bitsOf v.toNat 5 4 = fld s (PAGE_CTL_REMOTE pg)) ∧ (outOfService s pg = false ∧ (bitAt v.toNat 0 ≠ flag s
    (PAGE_CTL_ENABLE pg) ∨ bitAt v.toNat 2 ≠ flag s (PAGE_CTL_QUIESCE pg))) := ⟨.core, 0x30, 4, wServe, by decide +kernel⟩
def wPageControlGuardsPagesInService3b : State := State.reset
theorem witness_PageControlGuardsPagesInService_3b : ∃ (q : Requester) (pg : Nat) (v : Word) (s : State), canWriteHdr s q pg = true
    ∧ (q ≠ .ring ∨ bitsOf v.toNat 5 4 = fld s (PAGE_CTL_REMOTE pg)) ∧ (outOfService s pg = true ∧ bitAt v.toNat 1 = false) :=
    ⟨.core, 0x30, 0x34, wPageControlGuardsPagesInService3b, by decide +kernel⟩
theorem witness_PageControlGuardsPagesInService_4 : ∃ (pg : Nat) (v : Word) (s : State), bitsOf v.toNat 5 4 ≠ fld s (PAGE_CTL_REMOTE
    pg) := ⟨0x30, 0x20, wServe, by decide +kernel⟩
def wPageControlGuardsPagesInService5 : State := withFlds State.reset [(IMG_GC_CK_MIN, 7)]
theorem witness_PageControlGuardsPagesInService_5 : ∃ (q : Requester) (pg : Nat) (v : Word) (s : State), q ≠ .ring ∧ canWriteHdr s q
    pg = true ∧ outOfService s pg = true ∧ locked s pg = false ∧ pg ≠ 0x09 ∧ pg ≠ 0x0A := ⟨.core, 0x30, 2,
    wPageControlGuardsPagesInService5, by decide +kernel⟩
theorem witness_PageControlGuardsPagesInService_6 : ∃ (q : Requester) (pg : Nat) (v : Word) (s : State), q ≠ .ring ∧ canWriteHdr s q
    pg = true ∧ outOfService s pg = false := ⟨.core, 0x30, 2, wServe, by decide +kernel⟩
theorem witness_PageControlGuardsPagesInService_7 : ∃ (pg : Nat) (s : State), mappedPage pg = true ∧ groupUp s pg = true := ⟨0x30,
    wServe, by decide +kernel⟩
theorem witness_AccessesAndHalvesOfRegisters_1 : ∃ (q : Requester) (f : Fld) (v : Word) (s : State), f ∈ indexFields ∧ canWrite s q
    f.page = true := ⟨.pcie, MEAS_OCV_IDX_INDEX, 3, wServe, by decide +kernel⟩
theorem witness_AccessesAndHalvesOfRegisters_1b : ∃ (q : Requester) (f : Fld) (v : Word) (s : State), f ∈ indexFields ∧ canWrite s q
    f.page = true := ⟨.core, FLT_LOG_IDX_INDEX, 3, wServe, by decide +kernel⟩
def wAccessesAndHalvesOfRegisters1c : State := withFlds wServe [(PAGE_CTL_REMOTE 0x18, 2)]
theorem witness_AccessesAndHalvesOfRegisters_1c : ∃ (q : Requester) (f : Fld) (v : Word) (s : State), f ∈ indexFields ∧ canWrite s q
    f.page = true := ⟨.ring, BLV_PORT_IDX_INDEX, 3, wAccessesAndHalvesOfRegisters1c, by decide +kernel⟩
theorem witness_AccessesAndHalvesOfRegisters_2 : ∃ (q : Requester) (pg off : Nat) (v : Word) (s : State), indexRegister pg off =
    false := ⟨.core, 0x30, 0x100, 3, wServe, by decide +kernel⟩
theorem witness_AccessesAndHalvesOfRegisters_3 : ∃ (q : Requester) (pg off : Nat) (r : RegRow) (v : Word) (s : State), pg ∈ [0x01,
    0x02, 0x10] ∧ 0x100 ≤ off ∧ (pg, off) ≠ (0x02, 0x100) ∧ findRow pg off = some r ∧ canWrite s q pg = true := ⟨.core, 0x10, 0x110,
    (findRow 0x10 0x110).getD (headerRegs.getD 0 ⟨0, []⟩), 0x123456789, wServe, by decide +kernel⟩
theorem witness_AccessesAndHalvesOfRegisters_3b : ∃ (q : Requester) (pg off : Nat) (r : RegRow) (v : Word) (s : State), pg ∈ [0x01,
    0x02, 0x10] ∧ 0x100 ≤ off ∧ (pg, off) ≠ (0x02, 0x100) ∧ findRow pg off = some r ∧ canWrite s q pg = true := ⟨.pcie, 0x01, 0x100,
    (findRow 0x01 0x100).getD (headerRegs.getD 0 ⟨0, []⟩), 0xFFFFFFFFFFFFFFFF, wServe, by decide +kernel⟩
def wAccessesAndHalvesOfRegisters4 : State := { wServe with vault := .sealed }
theorem witness_AccessesAndHalvesOfRegisters_4 : ∃ (q : Requester) (pg off : Nat) (v : Word) (s : State), (reachable s q pg = false
    ∨ s.vault = .sealed) := ⟨.core, 0x1A, 0x100, 3, wAccessesAndHalvesOfRegisters4, by decide +kernel⟩
def wAccessesAndHalvesOfRegisters4b : State := State.reset
theorem witness_AccessesAndHalvesOfRegisters_4b : ∃ (q : Requester) (pg off : Nat) (v : Word) (s : State), (reachable s q pg = false
    ∨ s.vault = .sealed) ∧ (reachable s q pg = false) := ⟨.ring, 0xF0, 0x100, 3, wAccessesAndHalvesOfRegisters4b, by decide +kernel⟩
theorem witness_AccessesAndHalvesOfRegisters_5 : ∃ (q : Requester) (pg off i b : Nat) (r : RegRow) (s : State), reachable s q pg =
    true ∧ (q = .ring → ringReads s pg = true) ∧ findRow pg off = some r ∧ place s q pg off = some (i, b) ∧ snapped pg off = false ∧
    pageRuns s pg = true ∧ s.vault ≠ .sealed := ⟨.core, 0x30, 0x100, 0, 0, (findRow 0x30 0x100).getD (headerRegs.getD 0 ⟨0, []⟩),
    wServe, by decide +kernel⟩
def wAccessesAndHalvesOfRegisters5b : State := withFlds wServe [(BLV_PORT_IDX_INDEX, 9)]
theorem witness_AccessesAndHalvesOfRegisters_5b : ∃ (q : Requester) (pg off i b : Nat) (r : RegRow) (s : State), reachable s q pg =
    true ∧ (q = .ring → ringReads s pg = true) ∧ findRow pg off = some r ∧ place s q pg off = some (i, b) ∧ snapped pg off = false ∧
    pageRuns s pg = true ∧ s.vault ≠ .sealed := ⟨.core, 0x18, 0x810, 9, 0, (findRow 0x18 0x810).getD (headerRegs.getD 0 ⟨0, []⟩),
    wAccessesAndHalvesOfRegisters5b, by decide +kernel⟩
theorem witness_AccessesAndHalvesOfRegisters_6 : ∃ (q : Requester) (pg off : Nat) (s : State), requesterUp s q = true ∧ q ≠ .ring ∧
    reachable s q pg = false := ⟨.pcie, 0xF0, 0x100, wServe, by decide +kernel⟩
theorem witness_AccessesAndHalvesOfRegisters_7 : ∃ (q : Requester) (addr : Nat) (v : BitVec 32) (s : State), requesterUp s q = true
    ∧ addr % 8 = 0 := ⟨.core, 0x10100, 0xABCD, wServe, by decide +kernel⟩
def wHalfAt (a : Nat) : State := { wServe with mgt := { wServe.mgt with halfCore := { wServe.mgt.halfCore with held := some (a, 0x11223344) } } }
def wAccessesAndHalvesOfRegisters8 : State := wHalfAt 0x10110
theorem witness_AccessesAndHalvesOfRegisters_8 : ∃ (q : Requester) (addr : Nat) (lo v : BitVec 32) (s : State), requesterUp s q =
    true ∧ addr % 8 = 0 ∧ (getHalf s q).held = some (addr, lo) := ⟨.core, 0x10110, 0x11223344, 0x55667788,
    wAccessesAndHalvesOfRegisters8, by decide +kernel⟩
def wAccessesAndHalvesOfRegisters9 : State := wHalfAt 0x10118
theorem witness_AccessesAndHalvesOfRegisters_9 : ∃ (q : Requester) (addr a : Nat) (lo v : BitVec 32) (s : State), requesterUp s q =
    true ∧ addr % 8 = 4 ∧ (getHalf s q).held = some (a, lo) ∧ a + 4 ≠ addr := ⟨.core, 0x10114, 0x10118, 0x11223344, 0x55667788,
    wAccessesAndHalvesOfRegisters9, by decide +kernel⟩
def wAccessesAndHalvesOfRegisters10 : State := wHalfAt 0x10110
theorem witness_AccessesAndHalvesOfRegisters_10 : ∃ (q : Requester) (pg off : Nat) (lo v : BitVec 32) (r : RegRow) (s : State), pg ∈
    [0x01, 0x02, 0x10] ∧ 0x100 ≤ off ∧ off < 0x1000 ∧ (pg, off) ≠ (0x02, 0x100) ∧ findRow pg off = some r ∧ canWrite s q pg = true ∧
    (getHalf s q).held = some (4096 * pg + off, lo) ∧ (4096 * pg + off) % 8 = 0 := ⟨.core, 0x10, 0x110, 0x11223344, 0x55667788,
    (findRow 0x10 0x110).getD (headerRegs.getD 0 ⟨0, []⟩), wAccessesAndHalvesOfRegisters10, by decide +kernel⟩
theorem witness_AccessesAndHalvesOfRegisters_11 : ∃ (q : Requester) (addr : Nat) (s : State), requesterUp s q = true ∧ addr % 8 = 0
    := ⟨.core, 0x10110, wServe, by decide +kernel⟩
def wAccessesAndHalvesOfRegisters12 : State :=
  { wServe with mgt := { wServe.mgt with halfCore := { wServe.mgt.halfCore with latch := some (0x10110, 0x99) } } }
theorem witness_AccessesAndHalvesOfRegisters_12 : ∃ (q : Requester) (addr a : Nat) (h : BitVec 32) (s : State), requesterUp s q =
    true ∧ addr % 8 = 4 ∧ reachable s q (addr / 4096) = true ∧ (getHalf s q).latch = some (a, h) := ⟨.core, 0x10114, 0x10110, 0x99,
    wAccessesAndHalvesOfRegisters12, by decide +kernel⟩
def wIdx : State := { wRing with regs := wRing.regs ++ [(RNG_TX_IDX_INDEX.key 0 (reqBank .core), 4)] }
def wTx (busy result port : Nat) : State := setFldAt (setFldAt (setFldAt wRing RNG_TX_CTL_BUSY 0 busy) RNG_TX_CTL_RESULT 0 result) RNG_TX_CTL_PORT 0 port
theorem witness_DescriptorsAndManagementFrames_1 : ∃ (q : Requester) (v : Word) (s : State), canWrite s q 0x90 = true ∧ fldAt s
    RNG_TX_CTL_BUSY (indexOf s q RNG_TX_IDX_INDEX) = 0 ∧ bitAt v.toNat 0 = true ∧ bitAt v.toNat 5 = false := ⟨.core, 1, wRing,
    by decide +kernel⟩
def wDescriptorsAndManagementFrames2 : State := wTx 1 0 0
theorem witness_DescriptorsAndManagementFrames_2 : ∃ (q : Requester) (s : State), canWrite s q 0x90 = true ∧ fldAt s RNG_TX_CTL_BUSY
    (indexOf s q RNG_TX_IDX_INDEX) = 1 := ⟨.core, wDescriptorsAndManagementFrames2, by decide +kernel⟩
def wDescriptorsAndManagementFrames3 : State := wTx 0 1 0
theorem witness_DescriptorsAndManagementFrames_3 : ∃ (q : Requester) (s : State), canWrite s q 0x90 = true ∧ fldAt s RNG_TX_CTL_BUSY
    (indexOf s q RNG_TX_IDX_INDEX) = 0 ∧ fldAt s RNG_TX_CTL_RESULT (indexOf s q RNG_TX_IDX_INDEX) = 1 := ⟨.core,
    wDescriptorsAndManagementFrames3, by decide +kernel⟩
def wDescriptorsAndManagementFrames4 : State := wTx 1 0 2
theorem witness_DescriptorsAndManagementFrames_4 : ∃ (d : Fin 16) (s : State), ringOn s = true ∧ fldAt s RNG_TX_CTL_BUSY d.val = 1 ∧
    fldAt s RNG_TX_CTL_PORT d.val = 2 ∧ portLink s .west = true ∧ Transmits s .west := ⟨0, wDescriptorsAndManagementFrames4,
    by unfold Transmits; decide +kernel⟩
def wMgr (dest : Word) : FrameHdr := { wFrame with dest := dest }
def wGroup (op : BitVec 8) (addr : Nat) : MgmtGroup := { rtag := 3, count := 1, ops := [{ op := op, addr := BitVec.ofNat 32 addr, data := 5 }] }
theorem witness_DescriptorsAndManagementFrames_5 : ∃ (p : RingPort) (f : FrameHdr) (g : MgmtGroup) (s : State), GoodFrame s p f ∧
    f.origin ≠ vaultId s ∧ f.dest ≠ 0 ∧ f.dest ≠ vaultId s ∧ PortOpen s (otherPort p) := ⟨.east, wMgr 77, wGroup 1 0x2100, wRing,
    by unfold GoodFrame PortOpen Transmits; decide +kernel⟩
def wDescriptorsAndManagementFrames6 : State := { wRing with ring := { wRing.ring with kept := [⟨9, wFrame.incarn, 3, wGroup 0 0⟩] } }
theorem witness_DescriptorsAndManagementFrames_6 : ∃ (p : RingPort) (f : FrameHdr) (g : MgmtGroup) (r : KeptResp) (s : State),
    FreshFrame s p f ∧ f.dest ≠ 0 ∧ PortOpen s .east ∧ s.ring.kept.find? (fun r => decide (r.origin = f.origin) && decide (r.incarn
    = f.incarn) && decide (r.rtag = g.rtag)) = some r := ⟨.west, wMgr (vaultId wRing), wGroup 1 0x2100, ⟨9, wFrame.incarn, 3, wGroup
    0 0⟩, wDescriptorsAndManagementFrames6, by unfold FreshFrame GoodFrame PortOpen Transmits; decide +kernel⟩
theorem witness_DescriptorsAndManagementFrames_7 : ∃ (p : RingPort) (f : FrameHdr) (g : MgmtGroup) (o : MgmtOp) (s : State),
    FreshFrame s p f ∧ f.dest ≠ 0 ∧ PortOpen s .east ∧ g.ops = [o] ∧ g.count = 1 ∧ s.ring.kept.find? (fun r => decide (r.origin =
    f.origin) && decide (r.incarn = f.incarn) && decide (r.rtag = g.rtag)) = none ∧ (mgmtStatus s o = 0 ∧ o.op = 1) := ⟨.west, wMgr
    (vaultId wRing), wGroup 1 0x2100, { op := 1, addr := 0x2100, data := 5 }, wRing,
    by unfold FreshFrame GoodFrame PortOpen Transmits; decide +kernel⟩
theorem witness_DescriptorsAndManagementFrames_7b : ∃ (p : RingPort) (f : FrameHdr) (g : MgmtGroup) (o : MgmtOp) (s : State),
    FreshFrame s p f ∧ f.dest ≠ 0 ∧ PortOpen s .east ∧ g.ops = [o] ∧ g.count = 1 ∧ s.ring.kept.find? (fun r => decide (r.origin =
    f.origin) && decide (r.incarn = f.incarn) && decide (r.rtag = g.rtag)) = none ∧ (mgmtStatus s o ≠ 0 ∧ o.op = 2) := ⟨.west, wMgr
    (vaultId wRing), wGroup 2 0x3100, { op := 2, addr := 0x3100, data := 5 }, wRing,
    by unfold FreshFrame GoodFrame PortOpen Transmits; decide +kernel⟩
theorem witness_DescriptorsAndManagementFrames_8 : ∃ (p : RingPort) (f : FrameHdr) (g : MgmtGroup) (s : State), FreshFrame s p f ∧
    f.dest ≠ 0 := ⟨.west, wMgr (vaultId wRing), wGroup 1 0x2100, wRing, by unfold FreshFrame GoodFrame; decide +kernel⟩
def wPageControlGuardsPagesInService8 : State := withFlds State.reset [(PAGE_LOCK_LOCK 0x30, 1)]
theorem witness_PageControlGuardsPagesInService_8 : ∃ (q : Requester) (pg : Nat) (v : Word) (i : Instr) (s : State), i ∈
    [Instr.pageEnable q pg v, .quiesce q pg v, .blockReset q pg v] ∧ locked s pg = true :=
  ⟨.core, 0x30, 0x20, .quiesce .core 0x30 0x20, wPageControlGuardsPagesInService8, by simp, by decide +kernel⟩
def wHalf : State := withFlds wPsg [(DRC_MAP_DENSITY, 1)]
theorem witness_LinesBeyondTheInstalledStop_6 : ∃ (h : PsgHdr) (data : List Slot128) (typ need : Nat) (i : Instr) (s : State),
    let n := lineCount h.count
    (typ, need, i) ∈ [(1, 4 * n, Instr.mirror h data), (3, 4 * n, .stream h data), (0xA, 4 * n, .repair h data), (0xB, 0, .fetch h),
      (0xC, if h.arg.toNat = 0 then 4 * n else 0, .fetchData h data)] ∧ PsgArrives s typ h ∧ need ≤ data.length ∧
    installedLines s < h.line.toNat + n :=
  ⟨wMsg 0xB 9 0x7FFFFFFF 0 2 3, [], 0xB, 0, .fetch (wMsg 0xB 9 0x7FFFFFFF 0 2 3), wHalf, by simp, by unfold PsgArrives; decide +kernel,
    by decide, by decide +kernel⟩
theorem witness_LinesBeyondTheInstalledStop_7 : ∃ (h : PsgHdr) (data : List Slot128) (typ need : Nat) (i : Instr) (s : State),
    (typ, need, i) ∈ [(8, 1, Instr.digest h data), (9, 0, .digestResult h)] ∧ PsgArrives s typ h ∧ need ≤ data.length ∧
    installedLines s ≤ h.line.toNat :=
  ⟨wMsg 9 9 0x80000000 0 1 3, [], 9, 0, .digestResult (wMsg 9 9 0x80000000 0 1 3), wHalf, by simp, by unfold PsgArrives; decide +kernel,
    by decide, by decide +kernel⟩

end Sys2Proof.Tests
end

section
/-! SUPPORT. The core's interrupt request and MGT_IRQ_SRC (R271): the pages with a pending enabled event in rising order, what the
taking of an interrupt leaves of the request and of the registers, and the live word of MGT_IRQ_SRC. -/
namespace Sys2Proof.Machine

/-! The pages with a pending enabled event. -/

theorem mem_irqPages {s : State} {p : Nat} :
    p ∈ irqPages s ↔ p ∈ allPages ∧ getReg s (rkey 0 0 p 0x048) &&& getReg s (rkey 0 0 p 0x040) ≠ 0 := by
  simp [irqPages]

theorem allPages_sorted : allPages.Pairwise (· < ·) := List.pairwise_lt_range.filter _

theorem irqPages_sorted (s : State) : (irqPages s).Pairwise (· < ·) := allPages_sorted.filter _

theorem allPages_lt {p : Nat} (h : p ∈ allPages) : p < 0x95 := List.mem_range.mp (List.mem_filter.mp h).1

/-- The list is in rising order, so its least page is the one in front. -/
theorem irqPages_eq_cons_of_least {s : State} {p : Nat} (hp : p ∈ irqPages s) (hmin : ∀ a ∈ irqPages s, p ≤ a) :
    ∃ l, irqPages s = p :: l := by
  have hsorted := irqPages_sorted s
  cases hl : irqPages s with
  | nil => simp [hl] at hp
  | cons a l =>
    rw [hl] at hp hmin hsorted
    have hle : a ≤ p := by
      rcases List.mem_cons.mp hp with rfl | hmem
      · exact le_rfl
      · exact (List.rel_of_pairwise_cons hsorted hmem).le
    exact ⟨l, by rw [le_antisymm (hmin a List.mem_cons_self) hle]⟩

/-! CORE_INTERRUPT. -/

/-- What the core does as it takes an interrupt: the request stays as noted, a stall that ends may move LONGEST, and all else that
changes is the core's own. -/
def KeepsRequest (s t : State) : Prop :=
  t.mgt.irqTaken = s.mgt.irqTaken ∧ regsKept [NVC_STALL_LONGEST.reg] s t ∧ t = { s with regs := t.regs, mgt := t.mgt }

theorem KeepsRequest.refl (s : State) : KeepsRequest s s := ⟨rfl, fun _ _ => rfl, rfl⟩

theorem KeepsRequest.trans {s t u : State} (hst : KeepsRequest s t) (htu : KeepsRequest t u) : KeepsRequest s u := by
  obtain ⟨hreq, hregs, hrest⟩ := hst
  obtain ⟨hreq', hregs', hrest'⟩ := htu
  exact ⟨hreq'.trans hreq, fun k hk => (hregs' k hk).trans (hregs k hk), by rw [hrest', hrest]⟩

theorem withHart_keepsRequest (s : State) (f : HartSt → HartSt) : KeepsRequest s (withHart s f) :=
  ⟨rfl, fun _ _ => rfl, rfl⟩

theorem takeInterrupt_keepsRequest (s : State) : KeepsRequest s (takeInterrupt s) := withHart_keepsRequest s _

theorem setFld_regsKept (s : State) (f : Fld) (v : Nat) : regsKept [f.reg] s (setFld s f v) :=
  fun _ hk => getReg_setFldIn_other s f 0 0 v (List.ne_of_not_mem_cons hk)

theorem setFld_eq_regs (s : State) (f : Fld) (v : Nat) : setFld s f v = { s with regs := (setFld s f v).regs } := rfl

theorem setLongest_keepsRequest (s : State) (v : Nat) : KeepsRequest s (setFld s NVC_STALL_LONGEST v) :=
  ⟨by rw [setFld_mgt], setFld_regsKept s _ v, by rw [setFld_mgt]; exact setFld_eq_regs s _ v⟩

theorem endStall_keepsRequest (s : State) (since : Nat) : KeepsRequest s (endStall s since) :=
  (withHart_keepsRequest s _).trans (setLongest_keepsRequest _ _)

/-- The state with the request of the pages noted. -/
def noteRequest (s : State) : State := { s with mgt := { s.mgt with irqTaken := !(irqPages s).isEmpty } }

theorem noteRequest_irqTaken_iff (s : State) : (noteRequest s).mgt.irqTaken = true ↔ ∃ p, p ∈ irqPages s := by
  simp [noteRequest, List.eq_nil_iff_forall_not_mem]

/-- CORE_INTERRUPT while domain 20 runs notes the request; what follows is the taking of the interrupt, out of a stalled fetch or
not, or nothing. -/
theorem execCoreInterrupt_keepsRequest {s : State} (hup : mgtUp s = true) :
    Completes (execCoreInterrupt s) (KeepsRequest (noteRequest s)) := by
  refine ⟨_, rfl, ?_⟩
  rw [if_pos hup]
  change KeepsRequest (noteRequest s) (if _ then noteRequest s else _)
  split
  case isTrue hheld => exact .refl _
  case isFalse hfree =>
    split
    case h_1 hnoStall => exact takeInterrupt_keepsRequest _
    case h_2 since hfetch => exact (endStall_keepsRequest _ since).trans (takeInterrupt_keepsRequest _)
    case h_3 since hload => exact .refl _

theorem execCoreInterrupt_follows_pages {s : State} (hup : mgtUp s = true) : Completes (execCoreInterrupt s) (fun t =>
    (t.mgt.irqTaken = true ↔ ∃ p ∈ allPages, getReg s (rkey 0 0 p 0x048) &&& getReg s (rkey 0 0 p 0x040) ≠ 0) ∧
    regsKept [NVC_STALL_LONGEST.reg] s t ∧ t = { s with regs := t.regs, mgt := t.mgt }) := by
  obtain ⟨t, hexec, hreq, hregs, hrest⟩ := execCoreInterrupt_keepsRequest hup
  refine ⟨t, hexec, ?_, hregs, hrest⟩
  rw [hreq, noteRequest_irqTaken_iff]
  simp only [mem_irqPages]

/-! MGT_IRQ_SRC. -/

/-- A read of an assigned register of a block that runs gives the live word over its stored bits. -/
theorem readValue_of_place {s : State} {q : Requester} {page off i b : Nat} (hrow : (findRow page off).isSome = true)
    (hrun : pageRuns s page = true) (hsnap : snapped page off = false) (hplace : place s q page off = some (i, b)) :
    readValue s q page off = BitVec.ofNat 64 (liveWord s q page off i (getReg s (rkey i b page off)).toNat) := by
  have hrow' : (findRow page off).isNone = false := by rw [← Option.not_isSome, hrow]; rfl
  simp [readValue, hrow', hrun, hsnap, hplace]

/-- MGT_IRQ_SRC has no index and no copies, so every requester's access lands on its one entry. -/
theorem place_mgtIrqSrc (s : State) (q : Requester) : place s q 0x00 0x118 = some (0, 0) := rfl

theorem liveWord_mgtIrqSrc (s : State) (q : Requester) (w : Nat) {p : Nat} {l : List Nat} (h : irqPages s = p :: l) :
    liveWord s q 0x00 0x118 0 w = withBits (withBits w 8 8 1) 7 0 p := by
  simp [liveWord, h, MGT_IRQ_SRC_VALID, MGT_IRQ_SRC_PAGE]

theorem readValue_mgtIrqSrc {s : State} {q : Requester} {p : Nat} {l : List Nat} (hrun : pageRuns s 0x00 = true)
    (h : irqPages s = p :: l) : (readValue s q 0x00 0x118).toNat =
      withBits (withBits (getReg s (rkey 0 0 0x00 0x118)).toNat 8 8 1) 7 0 p := by
  have hrow : (findRow 0x00 0x118).isSome = true := by decide +kernel
  rw [readValue_of_place hrow hrun rfl (place_mgtIrqSrc s q), liveWord_mgtIrqSrc s q _ h, BitVec.toNat_ofNat]
  have hvalid := withBits_lt _ 8 8 1 le_rfl (by omega) (getReg s (rkey 0 0 0x00 0x118)).isLt
  exact Nat.mod_eq_of_lt (withBits_lt _ 7 0 p (by omega) (by omega) hvalid)

theorem mgtIrqSrc_fields {s : State} {q : Requester} {p : Nat} {l : List Nat} (hrun : pageRuns s 0x00 = true)
    (h : irqPages s = p :: l) (hp : p < 0x100) : bitsOf (readValue s q 0x00 0x118).toNat 8 8 = 1 ∧
      bitsOf (readValue s q 0x00 0x118).toNat 7 0 = p := by
  rw [readValue_mgtIrqSrc hrun h]
  constructor
  · rw [bitsOf_withBits_above _ _ _ _ _ _ (by omega) (by omega), bitsOf_withBits _ _ _ _ le_rfl]; rfl
  · rw [bitsOf_withBits _ _ _ _ (by omega)]
    exact Nat.mod_eq_of_lt hp

/-- Settles O56: the request through what the taking of an interrupt keeps, MGT_IRQ_SRC through the order of the pages. -/
theorem coreInterruptFollowsPendingPages : Obligations.CoreInterruptFollowsPendingPages := by
  refine ⟨fun s hup => execCoreInterrupt_follows_pages hup, fun q p s hrun hpage hpend hmin => ?_⟩
  have hleast : ∀ a ∈ irqPages s, p ≤ a := fun a ha => hmin a (mem_irqPages.mp ha).1 (mem_irqPages.mp ha).2
  obtain ⟨l, hl⟩ := irqPages_eq_cons_of_least (mem_irqPages.mpr ⟨hpage, hpend⟩) hleast
  exact mgtIrqSrc_fields hrun hl ((allPages_lt hpage).trans (by omega))

end Sys2Proof.Machine
end

section
/-! SUPPORT. What an event through the fault collector leaves of the page headers (R333 to R343): whatever action its class has, every
FLT_CLASS reads as before and no bit of FLT_STICKY is cleared. -/
namespace Sys2Proof.Machine

/-! The fault registers of the headers. -/

/-- The registers of every page's header below IRQ_EN, FLT_STICKY and FLT_CLASS among them, as a register map holds them. -/
def faultHeaders (r : Sparse Word) (k : Nat) : Word := if keyOff k < 0x040 then sget (resetWord k) r k else 0

/-- The field lies at or above IRQ_EN in its page. -/
def Fld.aboveFaults (f : Fld) : Bool := decide (0x040 ≤ f.off) && decide (f.off < 0x1000)

theorem keyOff_rkey (i b p o : Nat) : keyOff (rkey i b p o) = o % 4096 := by
  unfold keyOff rkey
  omega

theorem getReg_of_faultHeaders {s t : State} {k : Nat} (h : faultHeaders t.regs = faultHeaders s.regs) (hk : keyOff k < 0x040) :
    getReg t k = getReg s k := by
  have hread := congrFun h k
  simpa only [faultHeaders, if_pos hk, getReg] using hread

theorem faultHeaders_setFldIn (s : State) (f : Fld) (i b v : Nat) (hf : f.aboveFaults = true) :
    faultHeaders (setFldIn s f i b v).regs = faultHeaders s.regs := by
  simp only [Fld.aboveFaults, Bool.and_eq_true, decide_eq_true_eq] at hf
  obtain ⟨hlow, hhigh⟩ := hf
  funext k
  unfold faultHeaders
  split
  case isTrue hk =>
    have hkey : k ≠ f.key i b := by
      rintro rfl
      rw [Fld.key, keyOff_rkey, Nat.mod_eq_of_lt hhigh] at hk
      omega
    exact getReg_setFldIn_other s f i b v hkey
  case isFalse => rfl

@[simp] theorem faultHeaders_setFld (s : State) (f : Fld) (v : Nat) (hf : f.aboveFaults = true) :
    faultHeaders (setFld s f v).regs = faultHeaders s.regs := faultHeaders_setFldIn s f 0 0 v hf

@[simp] theorem faultHeaders_setFldAt (s : State) (f : Fld) (i v : Nat) (hf : f.aboveFaults = true) :
    faultHeaders (setFldAt s f i v).regs = faultHeaders s.regs := faultHeaders_setFldIn s f i 0 v hf

@[simp] theorem faultHeaders_setFlag (s : State) (f : Fld) (b : Bool) (hf : f.aboveFaults = true) :
    faultHeaders (setFlag s f b).regs = faultHeaders s.regs := faultHeaders_setFld s f _ hf

@[simp] theorem faultHeaders_bump (s : State) (f : Fld) (hf : f.aboveFaults = true) :
    faultHeaders (bump s f).regs = faultHeaders s.regs := faultHeaders_setFld s f _ hf

@[simp] theorem faultHeaders_pendEvent (s : State) (page bit : Nat) :
    faultHeaders (pendEvent s page bit).regs = faultHeaders s.regs := faultHeaders_setFlag s _ true rfl

@[simp] theorem faultHeaders_setFld_inst (s : State) (f : Fld) (i v : Nat) (hf : f.aboveFaults = true) :
    faultHeaders (setFld s (f.inst i) v).regs = faultHeaders s.regs := faultHeaders_setFld s _ v hf

@[simp] theorem faultHeaders_setFld_pakF (s : State) (p : PackId) (f : Fld) (v : Nat) (hf : f.aboveFaults = true) :
    faultHeaders (setFld s (pakF p f) v).regs = faultHeaders s.regs := by
  cases p <;> exact faultHeaders_setFld s _ v hf

@[simp] theorem faultHeaders_bump_portFld (s : State) (p : RingPort) (f : Fld) (hf : f.aboveFaults = true) :
    faultHeaders (bump s (portFld p f)).regs = faultHeaders s.regs := by
  cases p <;> exact faultHeaders_bump s _ hf

/-! What leaves through the links and the ring. -/

theorem sendSlots_regs (n : Nat) (s : State) (l : Nat) (ks : List KindSlot) (resp : Option (Response × Option Nat)) :
    (sendSlots n s l ks resp).regs = s.regs := by
  induction n generalizing s ks with
  | zero => rfl
  | succ n ih =>
    unfold sendSlots
    split
    · rfl
    · exact ih _ _

theorem psgFlushN_regs (n : Nat) (s : State) : (psgFlushN n s).regs = s.regs := by
  induction n generalizing s with
  | zero => rfl
  | succ n ih =>
    unfold psgFlushN
    split
    · rfl
    · split
      · exact (ih _).trans (sendSlots_regs ..)
      · rfl

@[simp] theorem sendNotice_regs (s : State) (arg : Nat) : (sendNotice s arg).regs = s.regs := by
  unfold sendNotice psgSend
  split
  · exact psgFlushN_regs _ _
  · rfl

@[simp] theorem faultHeaders_frameOut (s : State) (p : RingPort) (typ : Nat) (f : FrameHdr) (b : RingBody) :
    faultHeaders (frameOut s p typ f b).regs = faultHeaders s.regs := by
  unfold frameOut
  split
  · simp (disch := decide)
  · rfl

@[simp] theorem faultHeaders_linkSend (s : State) (p : RingPort) (typ : Nat) (b : RingBody) :
    faultHeaders (linkSend s p typ b).regs = faultHeaders s.regs := by
  unfold linkSend
  split <;> simp

@[simp] theorem faultHeaders_ringSend (s : State) (typ : Nat) (dest : Word) (b : RingBody) :
    faultHeaders (ringSend s typ dest b).regs = faultHeaders s.regs := by
  unfold ringSend ringOut
  split
  · split
    · split <;> simp
    · simp
  · rfl

@[simp] theorem mergeIntoRegistry_regs (s : State) (e : RegEntry) : (mergeIntoRegistry s e).regs = s.regs := rfl

@[simp] theorem faultHeaders_publishOn (s : State) (running resynced : Bool) :
    faultHeaders (publishOn s running resynced).regs = faultHeaders s.regs := by
  unfold publishOn
  dsimp only
  split
  · split <;> simp
  · rfl

/-! A transition of the vault. -/

@[simp] theorem faultHeaders_abandonLearn (s : State) (p : PackId) (reason : Nat) :
    faultHeaders (abandonLearn s p reason).regs = faultHeaders s.regs := by
  unfold abandonLearn
  split
  · rfl
  · simp (disch := decide)

@[simp] theorem faultHeaders_authAbandon (s : State) (p : PackId) :
    faultHeaders (authAbandon s p).regs = faultHeaders s.regs := by
  unfold authAbandon
  dsimp only
  split
  · rfl
  · simp (disch := decide)

@[simp] theorem faultHeaders_authStart (s : State) (p : PackId) : faultHeaders (authStart s p).regs = faultHeaders s.regs := by
  unfold authStart authAttempt
  dsimp only
  split
  · rfl
  · simp (disch := decide) [drawWord]

@[simp] theorem faultHeaders_packFollows (s : State) (p : PackId) :
    faultHeaders (packFollows s p).regs = faultHeaders s.regs := by
  simp [packFollows, apply_ite State.regs, apply_ite faultHeaders]

@[simp] theorem faultHeaders_clocksFollow (s : State) : faultHeaders (clocksFollow s).regs = faultHeaders s.regs := by
  simp (disch := decide) [clocksFollow, apply_ite State.regs, apply_ite faultHeaders]

@[simp] theorem noteReserve_regs (s : State) : (noteReserve s).regs = s.regs := by
  unfold noteReserve
  split <;> rfl

@[simp] theorem settlePins_regs (s : State) : (settlePins s).regs = s.regs := rfl

@[simp] theorem faultHeaders_setVault (s : State) (v : VaultState) : faultHeaders (setVault s v).regs = faultHeaders s.regs := by
  simp (disch := decide) [setVault, apply_ite State.regs, apply_ite faultHeaders]

/-! The stop of a fence or a seal. -/

@[simp] theorem faultHeaders_stopContexts (s : State) : faultHeaders (stopContexts s).regs = faultHeaders s.regs := by
  simp (disch := decide) [stopContexts]

@[simp] theorem faultHeaders_linksIdle (s : State) : faultHeaders (linksIdle s).regs = faultHeaders s.regs := by
  have hlinks := foldl_keeps (fun x : State => faultHeaders x.regs = faultHeaders s.regs)
    (fun x l => setFld (setFld x (BLV_STAT_STATE.inst l) 4) (BLV_STAT_WIDTH.inst l) 0) (List.range 8) s rfl
    fun x l hx _ => by simp (disch := decide) [hx]
  simpa (disch := decide) [linksIdle] using hlinks

@[simp] theorem dropWork_regs (s : State) : (dropWork s).regs = s.regs := rfl

@[simp] theorem faultHeaders_haltPower (s : State) : faultHeaders (haltPower s).regs = faultHeaders s.regs := by
  simp (disch := decide) [haltPower]

@[simp] theorem faultHeaders_stopVault (s : State) (notice : Nat) :
    faultHeaders (stopVault s notice).regs = faultHeaders s.regs := by
  simp [stopVault]

@[simp] theorem faultHeaders_fenceVault (s : State) (src : Nat) (forced : Bool) :
    faultHeaders (fenceVault s src forced).regs = faultHeaders s.regs := by
  unfold fenceVault
  split
  · rfl
  · cases s.vault <;> simp (disch := decide)

/-- Stated for any state, so that the kernel need not look into the one that a seal leaves. -/
theorem withFlt_regs (s : State) (x : FltSt) : ({ s with flt := x } : State).regs = s.regs := rfl

@[simp] theorem faultHeaders_sealVault (s : State) (src : Nat) (forced : Bool) :
    faultHeaders (sealVault s src forced).regs = faultHeaders s.regs := by
  unfold sealVault
  split
  · rfl
  · split
    case h_4 =>
      refine (congrArg faultHeaders (withFlt_regs _ _)).trans ?_
      simp (disch := decide)
    all_goals rfl

@[simp] theorem faultHeaders_censusAbort (s : State) : faultHeaders (censusAbort s).regs = faultHeaders s.regs := by
  unfold censusAbort cenResult
  split <;> simp (disch := decide)

/-! The start of the management core. -/

@[simp] theorem opUndefined_regs (s : State) (op : NvcOp) : (opUndefined s op).regs = s.regs := by
  unfold opUndefined
  dsimp only
  split
  · rfl
  · split
    · split <;> rfl
    · rfl

@[simp] theorem faultHeaders_recordIntr (s : State) (op : NvcOp) :
    faultHeaders (recordIntr s op).1.regs = faultHeaders s.regs := by
  unfold recordIntr
  dsimp only
  split <;> simp (disch := decide)

@[simp] theorem faultHeaders_nvcResult (s : State) (r : Nat) : faultHeaders (nvcResult s r).regs = faultHeaders s.regs := by
  simp (disch := decide) [nvcResult]

@[simp] theorem faultHeaders_nvcInterrupt (s : State) : faultHeaders (nvcInterrupt s).1.regs = faultHeaders s.regs := by
  unfold nvcInterrupt
  cases s.mgt.op with
  | none => dsimp only; split <;> simp (disch := decide)
  | some op => dsimp only; split <;> simp (disch := decide)

@[simp] theorem faultHeaders_nvcRelease (s : State) : faultHeaders (nvcRelease s).regs = faultHeaders s.regs := by
  simp (disch := decide) [nvcRelease]

@[simp] theorem faultHeaders_nameHalf (s : State) (h trial : Bool) :
    faultHeaders (nameHalf s h trial).regs = faultHeaders s.regs := by
  simp (disch := decide) [nameHalf]

@[simp] theorem faultHeaders_runHalf (s : State) (h trial : Bool) : faultHeaders (runHalf s h trial).regs = faultHeaders s.regs := by
  simp [runHalf]

@[simp] theorem faultHeaders_coreStart (s : State) (cause : Nat) :
    faultHeaders (coreStart s cause).1.regs = faultHeaders s.regs := by
  unfold coreStart fallback
  dsimp only
  split
  · simp (disch := decide)
  · split <;> simp (disch := decide)

/-! The record of an event. -/

@[simp] theorem faultHeaders_countEvent (s : State) (src : Nat) : faultHeaders (countEvent s src).1.regs = faultHeaders s.regs := by
  unfold countEvent
  dsimp only
  split_ifs <;> simp (disch := decide)

@[simp] theorem faultHeaders_logEvent (s : State) (e : LogRec) : faultHeaders (logEvent s e).1.regs = faultHeaders s.regs := by
  simp (disch := decide) [logEvent, apply_ite State.regs, apply_ite faultHeaders]

end Sys2Proof.Machine
end

section
/-! SUPPORT. An event through the fault collector (R333 to R340), with the events it causes, and the writes to FLT_CLASS (R335). -/
namespace Sys2Proof.Machine

/-! What an event keeps. -/

/-- Every class reads in t as in s, and every sticky bit that is set in s is set in t. -/
structure FaultsKept (s t : State) : Prop where
  classes : ∀ src, classOf t src = classOf s src
  sticky : ∀ page bit, bit < 32 → flag s (FLT_STICKY_SRC page bit) = true → flag t (FLT_STICKY_SRC page bit) = true

theorem fld_of_faultHeaders {s t : State} {f : Fld} (h : faultHeaders t.regs = faultHeaders s.regs) (hf : f.off < 0x040) :
    fld t f = fld s f := by
  have hoff : keyOff (f.key 0 0) < 0x040 := by
    rw [Fld.key, keyOff_rkey]
    exact (Nat.mod_le _ _).trans_lt hf
  simp only [fld, fldIn, getReg_of_faultHeaders h hoff]

namespace FaultsKept

variable {s t u : State}

theorem refl (s : State) : FaultsKept s s := ⟨fun _ => rfl, fun _ _ _ h => h⟩

theorem trans (hst : FaultsKept s t) (htu : FaultsKept t u) : FaultsKept s u :=
  ⟨fun src => (htu.classes src).trans (hst.classes src),
    fun page bit hbit h => htu.sticky page bit hbit (hst.sticky page bit hbit h)⟩

theorem of_faultHeaders (h : faultHeaders t.regs = faultHeaders s.regs) : FaultsKept s t where
  classes _ := fld_of_faultHeaders h (by simp [FLT_CLASS_SRC])
  sticky page bit _ hset := by
    rwa [flag, fld_of_faultHeaders h (by simp [FLT_STICKY_SRC])]

theorem then_faultHeaders (hst : FaultsKept s t) (htu : faultHeaders u.regs = faultHeaders t.regs) : FaultsKept s u :=
  hst.trans (of_faultHeaders htu)

end FaultsKept

theorem FLT_STICKY_SRC_ok {bit : Nat} (page : Nat) (h : bit < 32) : (FLT_STICKY_SRC page bit).ok :=
  ⟨le_rfl, h.trans (by decide)⟩

theorem flag_setSticky_same (s : State) (page : Nat) {bit : Nat} (h : bit < 32) :
    flag (setFlag s (FLT_STICKY_SRC page bit) true) (FLT_STICKY_SRC page bit) = true :=
  flag_setFlag_same s _ true ⟨rfl, (FLT_STICKY_SRC_ok page h).2⟩

/-- Two sticky bits are one bit, or lie in two registers, or apart in one. -/
theorem setSticky_faultsKept (s : State) (page : Nat) {bit : Nat} (hbit : bit < 32) :
    FaultsKept s (setFlag s (FLT_STICKY_SRC page bit) true) where
  classes src := by
    refine fldIn_setFldIn_other s _ _ 0 0 _ 0 0 fun hkey => ?_
    have hoff := congrArg keyOff hkey
    rw [Fld.key, Fld.key, keyOff_rkey, keyOff_rkey] at hoff
    simp [FLT_CLASS_SRC, FLT_STICKY_SRC] at hoff
  sticky page' bit' hbit' hset := by
    by_cases hsame : bit' = bit ∧ page' = page
    · obtain ⟨rfl, rfl⟩ := hsame
      exact flag_setSticky_same s page' hbit
    · rw [flag, setFlag, setFld, fld]
      by_cases hb : bit' = bit
      · have hkey : (FLT_STICKY_SRC page' bit').key 0 0 ≠ (FLT_STICKY_SRC page bit).key 0 0 := by
          simp only [Fld.key, FLT_STICKY_SRC, rkey]
          omega
        rwa [fldIn_setFldIn_other s _ _ 0 0 _ 0 0 hkey]
      · rwa [fldIn_setFldIn_apart s _ _ 0 0 _ 0 0 (FLT_STICKY_SRC_ok page hbit) (FLT_STICKY_SRC_ok page' hbit')
          (Nat.lt_or_gt_of_ne hb)]

/-! The class actions, with `more` for the events they cause. -/

section
variable {more : State → Nat → State} (hmore : ∀ x y, FaultsKept x (more x y))
include hmore

theorem degrade_faultsKept (s : State) (src : Nat) : FaultsKept s (degrade more s src).1 := by
  unfold degrade
  dsimp only
  split
  · exact .of_faultHeaders rfl
  · exact foldl_keeps (FaultsKept s) more _ _ (.of_faultHeaders (by simp)) fun x y hx _ => hx.trans (hmore x y)

theorem classAction_faultsKept (s : State) (src : Nat) (forced : Bool) (cls : Nat) :
    FaultsKept s (classAction more s src forced cls).1 := by
  have hstop : ∀ t : State, faultHeaders t.regs = faultHeaders s.regs → FaultsKept s
      (if censusActive s && decide (t.vault ≠ s.vault) then more (censusAbort t) srcCenAborted else t) := by
    intro t ht
    split
    · exact (FaultsKept.of_faultHeaders ((faultHeaders_censusAbort t).trans ht)).trans (hmore _ _)
    · exact .of_faultHeaders ht
  unfold classAction
  dsimp only
  split
  · exact hstop _ (faultHeaders_sealVault ..)
  · split
    · exact hstop _ (faultHeaders_fenceVault ..)
    · split
      · exact degrade_faultsKept hmore s src
      · exact .refl s

theorem actAt_faultsKept (s : State) (src : Nat) (forced : Bool) (cls i : Nat) :
    FaultsKept s (actAt more s src forced cls i) :=
  (classAction_faultsKept hmore s src forced cls).then_faultHeaders (congrArg faultHeaders (logUpdate_regs ..))

end

/-! One event. Its sticky bit is the one write to a fault register; what follows is a record, a class action, or a further event. -/

theorem raiseN_none {n : Nat} {s : State} {src : Nat} {forced : Bool} (h : (listedSource src && aoUp s) = false) :
    raiseN n s src forced = s := by
  cases n with
  | zero => rfl
  | succ n =>
    unfold raiseN
    exact if_pos (by rw [← Bool.not_and, h]; rfl)

/-- An event of a listed source sets its sticky bit, and the rest of its way through the collector clears none. -/
theorem raiseN_listed_faultsKept {n : Nat} (hmore : ∀ x y, FaultsKept x (raiseN n x y false)) {s : State} {src : Nat}
    (forced : Bool) (h : (listedSource src && aoUp s) = true) :
    FaultsKept (setFlag s (FLT_STICKY_SRC (src / 32) (src % 32)) true) (raiseN (n + 1) s src forced) := by
  unfold raiseN
  extract_lets more page s1 s2 s3 flt3 p s4 cls s5 rec_ flt5 qAlley q
  rw [if_neg (by rw [← Bool.not_and, h]; decide)]
  have hnoted : faultHeaders s3.regs = faultHeaders s1.regs := by
    have hcount : faultHeaders s2.regs = faultHeaders s1.regs := faultHeaders_bump s1 _ (by decide)
    simp only [s3]
    split
    · exact (faultHeaders_bump s2 _ (by decide)).trans hcount
    · exact hcount
  split
  case isTrue hmasked =>
    refine FaultsKept.of_faultHeaders ?_
    split_ifs
    · exact hnoted
    · exact hnoted
    · exact (faultHeaders_logEvent ..).trans hnoted
  case isFalse =>
    have hpend : faultHeaders s4.regs = faultHeaders s1.regs :=
      ((faultHeaders_setFlag p.1 _ true (by simp [IRQ_PEND_BIT, Fld.aboveFaults])).trans (faultHeaders_countEvent s3 src)).trans hnoted
    have hesc : FaultsKept s1 s5 := by
      simp only [s5]
      split
      · exact (FaultsKept.of_faultHeaders hpend).trans (hmore ..)
      · exact .of_faultHeaders hpend
    split
    case h_1 => -- ALLEY (R340)
      split_ifs
      · exact hesc.then_faultHeaders (faultHeaders_logEvent ..)
      · exact hesc.then_faultHeaders rfl
      · exact (hesc.then_faultHeaders (faultHeaders_logEvent ..)).trans (actAt_faultsKept hmore ..)
    case h_2 => -- SEALED (R337)
      split
      · exact hesc.trans (degrade_faultsKept hmore ..)
      · exact hesc
    case h_3 => -- every other state (R339)
      have hlog : FaultsKept s1 q.1 := by
        simp only [q]
        split
        · exact hesc.then_faultHeaders (faultHeaders_logEvent ..)
        · exact hesc
      split_ifs
      · exact hlog.trans (actAt_faultsKept hmore ..)
      · exact hlog
      · exact hlog
      · exact hlog.trans (actAt_faultsKept hmore ..)
      · exact hlog.then_faultHeaders rfl

theorem raiseN_faultsKept (n : Nat) (s : State) (src : Nat) (forced : Bool) : FaultsKept s (raiseN n s src forced) := by
  induction n generalizing s src forced with
  | zero => exact .refl s
  | succ n ih =>
    cases h : listedSource src && aoUp s with
    | false => rw [raiseN_none h]; exact .refl s
    | true =>
      have hbit : src % 32 < 32 := Nat.mod_lt _ (by decide)
      exact (setSticky_faultsKept s _ hbit).trans (raiseN_listed_faultsKept (fun x y => ih x y false) forced h)

theorem classOf_raise (s : State) (src x : Nat) : classOf (raise s src) x = classOf s x :=
  (raiseN_faultsKept 8 s src false).classes x

theorem flag_sticky_raise {s : State} {src : Nat} (hlist : listedSource src = true) (hao : aoUp s = true) :
    flag (raise s src) (FLT_STICKY_SRC (src / 32) (src % 32)) = true := by
  have hbit : src % 32 < 32 := Nat.mod_lt _ (by decide)
  have hkept := raiseN_listed_faultsKept (n := 7) (fun x y => raiseN_faultsKept 7 x y false) false (by rw [hlist, hao]; rfl)
  exact hkept.sticky _ _ hbit (flag_setSticky_same s _ hbit)

/-! Writes to FLT_CLASS. -/

/-- A field of three bits is an octal digit. -/
theorem bitsOf_octal (v b : Nat) : bitsOf v (3 * b + 2) (3 * b) = v / 8 ^ b % 8 := by
  have hwidth : 3 * b + 2 + 1 - 3 * b = 3 := by omega
  rw [bitsOf, hwidth, pow_mul]
  rfl

theorem srcNo_div (page : Nat) {b : Nat} (hb : b < 32) : srcNo page b / 32 = page := by
  unfold srcNo
  omega

theorem srcNo_mod (page : Nat) {b : Nat} (hb : b < 32) : srcNo page b % 32 = b := by
  unfold srcNo
  omega

theorem classOf_srcNo (s : State) (page : Nat) {b : Nat} (hb : b < 32) :
    classOf s (srcNo page b) = (getReg s (rkey 0 0 page 0x038)).toNat / 8 ^ b % 8 := by
  rw [classOf, srcNo_div page hb, srcNo_mod page hb]
  exact bitsOf_octal _ b

/-- No page has more sources than FLT_CLASS has fields, and each default class fits its field (R335). -/
theorem sourceClasses_fit (page : Nat) : (sourceClasses page).length ≤ 21 ∧ ∀ c ∈ sourceClasses page, c < 8 := by
  unfold sourceClasses
  split
  case h_22 => split_ifs <;> decide
  all_goals decide

theorem writeClass_of_le {page v : Nat} (s : State)
    (h : ∀ b, b < (sourceClasses page).length → bitsOf v (3 * b + 2) (3 * b) ≤ 4) :
    writeClass s page v = setReg s (rkey 0 0 page 0x038) (BitVec.ofNat 64 (v % 8 ^ (sourceClasses page).length)) := by
  refine if_neg ?_
  simpa using h

theorem writeClass_of_lt {page v b : Nat} (s : State) (hb : b < (sourceClasses page).length)
    (h : 4 < bitsOf v (3 * b + 2) (3 * b)) : writeClass s page v = raise s srcFltCfgErr := by
  refine if_pos ?_
  simpa using ⟨b, hb, h⟩

theorem octal_digit_of_mod {v n b : Nat} (hb : b < n) : v % 8 ^ n / 8 ^ b % 8 = v / 8 ^ b % 8 := by
  have hpow : 8 ^ n = 8 ^ b * 8 ^ (n - b) := by rw [← pow_add]; congr 1; omega
  have hdvd : 8 ∣ 8 ^ (n - b) := dvd_pow_self 8 (by omega)
  rw [hpow, Nat.mod_mul_right_div_self, Nat.mod_mod_of_dvd _ hdvd]

theorem toNat_ofNat_mod_octal (v : Nat) {n : Nat} (h : n ≤ 21) : (BitVec.ofNat 64 (v % 8 ^ n)).toNat = v % 8 ^ n := by
  have hpow : 8 ^ n ≤ 8 ^ 21 := Nat.pow_le_pow_right (by decide) h
  have hlt : v % 8 ^ n < 8 ^ n := Nat.mod_lt _ (by positivity)
  rw [BitVec.toNat_ofNat]
  exact Nat.mod_eq_of_lt (by omega)

theorem classOf_write {s : State} {page v b : Nat} (hb : b < (sourceClasses page).length) :
    classOf (setReg s (rkey 0 0 page 0x038) (BitVec.ofNat 64 (v % 8 ^ (sourceClasses page).length))) (srcNo page b) =
      bitsOf v (3 * b + 2) (3 * b) := by
  have hlen := (sourceClasses_fit page).1
  rw [classOf_srcNo _ _ (by omega), getReg_setReg_same, toNat_ofNat_mod_octal v hlen, octal_digit_of_mod hb, bitsOf_octal]

theorem execFltClassWrite_taken {q : Requester} {pg : Nat} {v : Word} {s : State} (hw : canWriteHdr s q pg = true)
    (h : ∀ b, b < (sourceClasses pg).length → bitsOf v.toNat (3 * b + 2) (3 * b) ≤ 4) :
    Completes (execFltClassWrite q pg v s) (fun t =>
      (∀ b, b < (sourceClasses pg).length → classOf t (srcNo pg b) = bitsOf v.toNat (3 * b + 2) (3 * b)) ∧
      regsKept [rkey 0 0 pg 0x038] s t ∧ t = { s with regs := t.regs, mgt := t.mgt }) := by
  refine ⟨_, rfl, ?_⟩
  rw [guardedHdr_pass _ hw, writeClass_of_le s h]
  refine ⟨fun b hb => ?_, fun k hk => ?_, ?_⟩
  · rw [← classOf_write hb]
    exact congrArg (bitsOf · _ _) (congrArg BitVec.toNat (getReg_of_regs (dropHalf_regs _ q) _))
  · exact (getReg_of_regs (dropHalf_regs _ q) k).trans (getReg_setReg_other s _ (List.ne_of_not_mem_cons hk))
  · cases q <;> rfl

theorem execFltClassWrite_refused {q : Requester} {pg b : Nat} {v : Word} {s : State} (hw : canWriteHdr s q pg = true)
    (hb : b < (sourceClasses pg).length) (h : 4 < bitsOf v.toNat (3 * b + 2) (3 * b)) :
    execFltClassWrite q pg v s = .next (dropHalf (raise s srcFltCfgErr) q) := by
  rw [execFltClassWrite, guardedHdr_pass _ hw, writeClass_of_lt s hb h]

/-! The default classes. -/

theorem foldl_zipIdx_octal (l : List Nat) (a n : Nat) :
    (l.zipIdx n).foldl (fun a e => a + e.1 * 8 ^ e.2) a = a + 8 ^ n * Nat.ofDigits 8 l := by
  induction l generalizing a n with
  | nil => simp
  | cons c l ih =>
    rw [List.zipIdx_cons, List.foldl_cons, ih, Nat.ofDigits_cons]
    push_cast
    ring

theorem classReset_eq_ofDigits (page : Nat) : classReset page = Nat.ofDigits 8 (sourceClasses page) := by
  rw [classReset, foldl_zipIdx_octal]
  simp

theorem classReset_octal_digit {page b : Nat} (hb : b < (sourceClasses page).length) :
    classReset page / 8 ^ b % 8 = (sourceClasses page)[b] := by
  have hdigit : (sourceClasses page)[b] < 8 := (sourceClasses_fit page).2 _ (List.getElem_mem hb)
  rw [classReset_eq_ofDigits, Nat.ofDigits_div_pow_eq_ofDigits_drop b (by decide) _ (sourceClasses_fit page).2,
    List.drop_eq_getElem_cons hb, Nat.ofDigits_cons, Nat.add_mul_mod_self_left]
  exact Nat.mod_eq_of_lt hdigit

theorem toNat_ofNat_classReset (page : Nat) : (BitVec.ofNat 64 (classReset page)).toNat = classReset page := by
  obtain ⟨hlen, hdigits⟩ := sourceClasses_fit page
  have hlt : classReset page < 8 ^ 21 := by
    rw [classReset_eq_ofDigits]
    exact (Nat.ofDigits_lt_base_pow_length (by decide) hdigits).trans_le (Nat.pow_le_pow_right (by decide) hlen)
  rw [BitVec.toNat_ofNat]
  exact Nat.mod_eq_of_lt (by omega)

theorem mappedPage_of_sources {page : Nat} (hpage : page < 256) (h : 0 < (sourceClasses page).length) : mappedPage page = true := by
  have hall : ∀ p < 256, 0 < (sourceClasses p).length → mappedPage p = true := by decide +kernel
  exact hall page hpage h

theorem resetWord_fltClass {page : Nat} (hpage : page < 256) (hmap : mappedPage page = true) :
    resetWord (rkey 0 0 page 0x038) = BitVec.ofNat 64 (classReset page) := by
  have hoff : keyOff (rkey 0 0 page 0x038) = 0x038 := keyOff_rkey 0 0 page 0x038
  have hkey : keyPage (rkey 0 0 page 0x038) = page := by unfold keyPage rkey; omega
  have hrow : findRow page 0x038 = some ⟨0x038, [⟨62, 0, .rw, 0⟩]⟩ := by rw [findRow, if_pos hmap]; rfl
  simp only [resetWord, hoff, hkey, hrow]
  rfl

theorem getReg_reset (k : Nat) : getReg State.reset k = resetWord k := rfl

theorem defaultClass_srcNo {page b : Nat} (hb : b < 32) : defaultClass (srcNo page b) = (sourceClasses page).getD b 0 := by
  rw [defaultClass, srcNo_div page hb, srcNo_mod page hb]

theorem classOf_reset {pg b : Nat} (hpg : pg < 256) (hb : b < (sourceClasses pg).length) :
    classOf State.reset (srcNo pg b) = defaultClass (srcNo pg b) := by
  have hlen := (sourceClasses_fit pg).1
  rw [classOf_srcNo _ _ (by omega), getReg_reset, resetWord_fltClass hpg (mappedPage_of_sources hpg (by omega)), toNat_ofNat_classReset,
    classReset_octal_digit hb, defaultClass_srcNo (by omega), List.getD_eq_getElem _ _ hb]

/-- Settles O7: a write that is taken replaces the register and nothing else, one that is refused is one event of CFG_ERR, which
keeps every class, and the reset word of FLT_CLASS lists the default classes as octal digits. -/
theorem classWriteIsTakenWholeOrRefused : Obligations.ClassWriteIsTakenWholeOrRefused := by
  refine ⟨fun q pg v s hw _ hle => execFltClassWrite_taken hw hle, fun q pg b v s hw hao hb hlt => ?_,
    fun pg b hpg hb => classOf_reset hpg hb⟩
  exact ⟨execFltClassWrite_refused hw hb hlt, flag_sticky_raise (by decide) hao, classOf_raise s _⟩

end Sys2Proof.Machine
end

section
/-! SUPPORT. The resets outside the vault's own (R353): each leaves its output and nothing else. -/
namespace Sys2Proof.Machine

theorem exec_pcieReset (s : State) : exec .pcieReset s = .next (emit s .endpointReset) := rfl

theorem exec_testLogicReset (s : State) : exec .testLogicReset s = .next (emit s .testLogicReset) := rfl

/-- Settles O11: both resets end in the state with one more output, and `emit` changes no other field. -/
theorem outsideResetsChangeNothingElse : Obligations.OutsideResetsChangeNothingElse := by
  constructor
  · intro s
    exact ⟨emit s .endpointReset, exec_pcieReset s, rfl⟩
  · intro s
    exact ⟨emit s .testLogicReset, exec_testLogicReset s, rfl⟩

end Sys2Proof.Machine
end
